-- ==== Sys2Proof/Word.lean ====
section
/-! DEFINITION. The words of the two serial lines: a character carries 8 bits (R152, R163), and a
multi-byte field is sent high byte first (R152, R163). -/
namespace Sys2Proof

/-- One byte of a frame on either serial line. -/
abbrev Byte := BitVec 8

/-- A two-byte field of a frame (R162, R174). -/
abbrev Word16 := BitVec 16

/-- The two-byte field whose high byte is `hi` and whose low byte is `lo`. -/
def joinBytes (hi lo : Byte) : Word16 := hi ++ lo

/-- The two bytes of a field, high byte first. -/
def splitWord (w : Word16) : List Byte := [w.extractLsb' 8 8, w.extractLsb' 0 8]

end Sys2Proof
end

