-- ==== Sys2Proof/Config.lean ====
section
/-! DEFINITION. The numbers the manual fixes for the part, and the values it leaves open.
The open values are opaque: nothing in Lean can compute one or prove what it is. -/
namespace Sys2Proof.Config

/-- Openings 1 to 48 (00, Identifiers). -/
def openingCount : Nat := 48
/-- Groups 1 to 24 (00, Identifiers). -/
def groupCount : Nat := 24
/-- Zones 1 to 8 (00, Identifiers). -/
def zoneCount : Nat := 8
/-- Stations 1 to 8 (00, Identifiers). -/
def stationCount : Nat := 8
/-- Supervisors 1 to 4 (00, Identifiers). -/
def supervisorCount : Nat := 4
/-- The demand table has 96 slots (R25). -/
def slotCount : Nat := 96
/-- A rank list never holds more than 8 records (R50). -/
def listMax : Nat := 8
/-- TABLE_HIGH is live while the table count is 80 or more (R47). -/
def tableHigh : Nat := 80
/-- The receive buffer holds 206 bytes (R163). -/
def bufferMax : Nat := 206
/-- A frame carries at most 200 bytes of payload (R163, R164). -/
def payloadMax : Nat := 200
/-- The largest aperture, in au (00, Units). -/
def fullAperture : Nat := 1000
/-- A gate's pulse count stays at 65535 once there (R67). -/
def pulseMax : Nat := 65535
/-- The largest speed an anemometer channel holds, steps of 0.1 metre per second (R65). -/
def speedMax : Nat := 600
/-- A WAIT_SLOT opening's age rises to 65534 and stays there (R132). -/
def waitAgeMax : Nat := 65534
/-- START_WAIT is live above this wait age, in seconds (R149). -/
def startWaitSeconds : Nat := 60
/-- SENSOR_INVALID is judged for the first time at the tenth gate end after reset (R82). -/
def sensorReportGate : Nat := 10

/-- The sequence count with which an entry is written when neither of its copies is in effect, at the
n-th such write. FREE VALUE: R14 gives the count of a write as one above that of the copy in effect,
and R18 leaves an entry of which neither copy is valid with none (notes/assumptions/9.md). -/
opaque firstSequence : Nat → BitVec 8

/-- Whether the spare copy is the first of the two, for the entry of kind code `kind` and index
`index`, while neither of its copies is in effect. FREE VALUE: R14 names only "the other copy"; it is
one value for each entry, as R17 writes into the same spare copy again (notes/assumptions/9.md). -/
opaque spareIsFirst : (kind index : Nat) → Bool

end Sys2Proof.Config
end

