-- ==== Sys2Proof/Syntax.lean ====
section
/-! DEFINITION. The commands of the part: one constructor of `Instr` for each row of
spec/opcode_table.json, with the operands the row's event brings from outside. -/
namespace Sys2Proof

/-- The two anemometers (R65). -/
inductive AnemometerId where
  | a
  | b
  deriving DecidableEq, Repr

/-- The three wind profiles (R11, R90). -/
inductive Profile where
  | windward
  | leeward
  | flat
  deriving DecidableEq, Repr

/-- The two buttons of a station (R124). -/
inductive ButtonId where
  | openButton
  | closeButton
  deriving DecidableEq, Repr

/-- The blocks that tell the resolver of a changed input as an event of its own (R88): the demand
manager and the weather unit. What the site store tells it (R16) acts within the write's completion. -/
inductive Teller where
  | demandManager
  | weatherUnit
  deriving DecidableEq, Repr

/-- The blocks that report to the condition unit (R176, column "Told by"). -/
inductive Owner where
  | siteStore
  | demandManager
  | weatherUnit
  | fireUnit
  | stationUnit
  | movementController
  | driveBusController
  deriving DecidableEq, Repr

/-- The payload fields of a PLACE or a PROBE as they arrive, in the order of R174. -/
structure PlaceFields where
  cls : Byte
  targetKind : Byte
  targetNumber : Byte
  aperture : Word16
  mode : Byte
  lifetime : Word16
  waitLimit : Word16
  deriving DecidableEq, Repr

/-- One command, an event the part takes whole. A request carries its sender `m` and the raw fields
of its payload (R174, R175); a numbered unit is numbered as 00 (Identifiers) numbers it. -/
inductive Instr where
  /-- Power-on reset (R18). `spareWritten`: whether a write the reset meets had completely written
  and checked its spare copy (R20). `supply`: the first supply sample (R78). -/
  | powerOnReset (spareWritten : Bool) (supply : Int)
  /-- 4 idle character times in RECEIVING: the frame is taken (R163, R164). -/
  | frameTaken
  /-- A byte arrives while the receive buffer is full (R163). -/
  | receiveBufferOverflow
  /-- 4 idle character times in DISCARDING (R163). -/
  | discardIdleGap
  /-- PLACE from supervisor `m` (R30). -/
  | place (m : Nat) (fields : PlaceFields)
  /-- ADJUST of the handle `slot`/`gen` by a signed delta (R38). -/
  | adjust (m : Nat) (slot gen : Byte) (delta : Word16)
  /-- RETIRE of the handle `slot`/`gen` (R42). -/
  | retire (m : Nat) (slot gen : Byte)
  /-- PROBE (R62). -/
  | probe (m : Nat) (fields : PlaceFields)
  /-- LIST_RECORDS, with or without a filter of source kind and number (R49). -/
  | listRecords (m : Nat) (filter : Option (Byte × Byte))
  /-- READ_RECORD (R49). -/
  | readRecord (m : Nat) (slot gen : Byte)
  /-- READ_OPENING (R169). -/
  | readOpening (m : Nat) (opening : Byte)
  /-- READ_GROUP (R169). -/
  | readGroup (m : Nat) (group : Byte)
  /-- READ_ZONE (R121). -/
  | readZone (m : Nat) (zone : Byte)
  /-- READ_WEATHER (R83, R97). -/
  | readWeather (m : Nat)
  /-- READ_CONDITIONS (R171). -/
  | readConditions (m : Nat)
  /-- CLEAR_CONDITIONS of the set in three bytes (R171, R174). -/
  | clearConditions (m : Nat) (set : BitVec 24)
  /-- SET_MASK to the set in three bytes (R171, R174). -/
  | setMask (m : Nat) (set : BitVec 24)
  /-- CONFIGURE of the entry named by `kind` and `index` to the encoded `value` (R170, R175). -/
  | configure (m : Nat) (kind index : Byte) (value : List Byte)
  /-- READ_CONFIG (R170). -/
  | readConfig (m : Nat) (kind index : Byte)
  /-- CLEAR_FAULT (R145). -/
  | clearFault (m : Nat) (opening : Byte)
  /-- FIRE_RESET (R117). -/
  | fireReset (m : Nat)
  /-- RESTART (R172). -/
  | restart (m : Nat)
  /-- The link starts to send the held response (R165). -/
  | heldResponseSend
  /-- The byte `b` arrives before the held response has started, `misframed` where it has a framing
  error (R163, R165). -/
  | heldResponseDiscard (b : Byte) (misframed : Bool := false)
  /-- The link starts to send a deferred response (R166). -/
  | deferredResponseSend
  /-- The part ends a transmission (R163). -/
  | transmissionEnd
  /-- The accepted RESTART takes place (R172); operands as for `powerOnReset`. -/
  | restartTaken (spareWritten : Bool) (supply : Int)
  /-- The spare copy has been written and read back correctly (R16). `left`: how many of the last
  placements of a scenario that this starts (R111, R112) are left to be taken later, none where it is not
  given; it acts on no other write (notes/assumptions/27.md). -/
  | writeComplete (left : Nat := 0)
  /-- The spare copy read back wrong, or 40 milliseconds have gone by (R17). -/
  | writeFail
  /-- The demand manager's one-second event (R46). -/
  | demandTick
  /-- The lifetime remaining of the record in `slot` reaches 0 (R44). -/
  | recordExpired (slot : Nat)
  /-- The wait remaining of the record in `slot` reaches 0 (R45). -/
  | recordStarved (slot : Nat)
  /-- The resolver takes the oldest change told by `teller` (R88). -/
  | resolverRecompute (teller : Teller)
  /-- A pulse of an anemometer (R67). -/
  | anemometerPulse (which : AnemometerId)
  /-- The supervision input of an anemometer takes a level (R67). -/
  | anemometerSupervision (which : AnemometerId) (inBand : Bool)
  /-- The gate end, the weather unit's one-second event (R67). -/
  | gateEnd
  /-- A reopen timer's count reaches the reopen delay (R93). -/
  | reopenTimerExpiry (profile : Profile)
  /-- SENSOR_INVALID is judged for the first time (R82). -/
  | sensorReportStart
  /-- A vane reading in degrees, or unreadable (R73). -/
  | vaneReading (reading : Option Nat)
  /-- The vane's stale timer runs out (R73). -/
  | vaneStale
  /-- The dwell count reaches the direction dwell (R75). -/
  | dwellReached
  /-- A sample of the rain contact (R76). -/
  | rainSample (asserted : Bool)
  /-- The wet hold reaches 20 asserted samples (R76). -/
  | wetHoldEnd
  /-- The dry hold runs out (R76). -/
  | dryHoldEnd
  /-- A temperature reading in half degrees, or unreadable (R77). -/
  | probeReading (reading : Option Int)
  /-- The probe's stale timer runs out (R77). -/
  | probeStale
  /-- A supply sample, scaled to steps of 0.1 volt (R78). -/
  | supplySample (volts : Int)
  /-- A sample of a zone line (R105). -/
  | zoneLineSample (zone : Nat) (count : BitVec 10)
  /-- The agreement count of a zone line reaches 3 (R107), or the zone's scenario placements that wait
  are taken on (R112). `left`: how many of the last of these placements are left to be taken later,
  none where it is not given (notes/assumptions/27.md). -/
  | lineAcceptance (zone : Nat) (left : Nat := 0)
  /-- The flash timebase steps on by 125 milliseconds (R122). -/
  | flashTimebase
  /-- The contacts of a fireman switch change (R114). -/
  | firemanSwitchChange (zone : Nat) (openMade closeMade : Bool)
  /-- The debounce timer of a fireman switch runs out (R114). -/
  | switchAcceptance (zone : Nat)
  /-- The reset key's contact changes (R116). -/
  | resetKeyChange (made : Bool)
  /-- The reset key's debounce timer runs out (R116). -/
  | resetKeyAcceptance
  /-- The contact of a station's button changes (R124). -/
  | buttonContactChange (station : Nat) (button : ButtonId) (made : Bool)
  /-- The debounce timer of a station's button runs out (R124). -/
  | buttonAcceptance (station : Nat) (button : ButtonId)
  /-- The hold timer of a station's gesture machine runs out (R125). -/
  | holdTimerExpiry (station : Nat)
  /-- The movement controller takes the oldest target told for an opening (R132). -/
  | targetEvent (opening : Nat)
  /-- The movement controller takes the oldest reply handed on for an opening (R132, R138). -/
  | movementReply (opening : Nat)
  /-- The movement controller takes the oldest order outcome of an opening (R132). -/
  | orderOutcome (opening : Nat)
  /-- The movement controller takes that an opening's node is LOST (R132, R142). -/
  | nodeLostEvent (opening : Nat)
  /-- The movement controller's one-second event (R132). -/
  | movementTick
  /-- An opening's breakaway timer runs out (R137). -/
  | breakawayEnd (opening : Nat)
  /-- An opening's travel deadline runs out (R139). -/
  | overtime (opening : Nat)
  /-- An opening's progress window runs out (R139). -/
  | progressWindowEnd (opening : Nat)
  /-- An opening's stop timer runs out (R141). -/
  | noStop (opening : Nat)
  /-- An opening's retry timer runs out (R144). -/
  | retryTimerEnd (opening : Nat)
  /-- A waiting opening's wait age passes 60 seconds (R149). -/
  | startWaitRise (opening : Nat)
  /-- The arbiter grants one start slot (R136, R148). -/
  | slotGrant
  /-- An order turn of the drive bus (R156). -/
  | orderTurn
  /-- A poll turn of the drive bus (R156). -/
  | pollTurn
  /-- A reply began and has ended, by its sixth byte or by a gap (R152, R157). -/
  | replyReceived (bytes : List Byte)
  /-- No reply began within 25 milliseconds (R152). -/
  | noReply
  /-- The condition unit takes the oldest report of an owner (R177). -/
  | conditionReport (owner : Owner)
  /-- A byte arrives on the supervisory link, `misframed` where it has a framing error (R163). -/
  | byteArrives (b : Byte) (misframed : Bool := false)
  deriving DecidableEq, Repr

end Sys2Proof
end

