-- ==== Sys2Proof/Decode.lean ====
section
/-! DEFINITION. spec/opcode_table.json gives none of its rows any bits (each row's "fields" is empty
and no row has "fixed"), so no word spells a command by the table. The encodings the spec does give,
of the link's frames (R173 to R175) and of the drive bus frames (R162), are in Machine/Operands.lean
and Machine/Frames.lean. -/
namespace Sys2Proof

/-- The command that the table's bits spell: none, since the table gives no row a bit. -/
def decodeTableWord (_nbits _w : Nat) : Option Instr := none

end Sys2Proof
end

