-- ==== Sys2Proof/Machine/State.lean ====
section
/-! DEFINITION. The state of the part, block by block, as plain data, and the state right after
power-on reset. Each structure cites the rules that name its fields. -/
namespace Sys2Proof.Machine

/-! ### Why a step can stop -/

/-- A command that names a unit outside the Identifiers table of 00. Raised by the meanings of the
numbered events; safe: the part has no such unit, so the event cannot occur. -/
inductive Fault where
  /-- An opening outside 1 to 48. -/
  | noSuchOpening
  /-- A zone outside 1 to 8. -/
  | noSuchZone
  /-- A station outside 1 to 8. -/
  | noSuchStation
  /-- A slot outside 0 to 95. -/
  | noSuchSlot
  deriving DecidableEq, Repr

/-- Why the model gives a command no meaning. Safe: the model stops. -/
inductive Refusal where
  /-- A command without a meaning yet; raised by `exec` alone. -/
  | notModelled (mnemonic : String)
  deriving DecidableEq, Repr

/-! ### Site tables and the store (01) -/

/-- Which way an opening is exposed (R2). -/
inductive Exposure where
  | facade
  | flat
  deriving DecidableEq, Repr

/-- An opening entry (R2). -/
structure OpeningEntry where
  enabled : Bool
  exposure : Exposure
  facing : Nat
  limit : Nat
  step : Nat
  rest : Nat
  rain : Nat
  deadband : Nat
  strokeTime : Nat
  breakawayTime : Nat
  zone : Nat
  deriving DecidableEq, Repr

/-- One step of a scenario (R7). -/
structure ScenarioStep where
  group : Nat
  aperture : Nat
  deriving DecidableEq, Repr

/-- A station entry (R9). -/
structure StationEntry where
  enabled : Bool
  group : Nat
  step : Nat
  lifetime : Nat
  deriving DecidableEq, Repr

/-- A supervisor entry: its class set and its permissions (R10). -/
structure SupervisorEntry where
  mayLockout : Bool
  mayLocal : Bool
  mayComfort : Bool
  mayPurge : Bool
  mayConfigure : Bool
  mayFireReset : Bool
  mayRestart : Bool
  deriving DecidableEq, Repr

/-- How two anemometers combine (R70). -/
inductive CombineMode where
  | average
  | maximum
  deriving DecidableEq, Repr

/-- The mode of a limit monitor (R12). -/
inductive MonitorMode where
  | band
  | hyst
  deriving DecidableEq, Repr

/-- The mode and limits of one monitor (R12). -/
structure MonitorLimits where
  mode : MonitorMode
  high : Int
  low : Int
  hysteresis : Int
  deriving DecidableEq, Repr

/-- The scaling of one anemometer (R11). -/
structure AnemometerScale where
  present : Bool
  factor : Nat
  trim : Nat
  trimMinus : Bool
  deriving DecidableEq, Repr

/-- The two speeds of a wind profile (R11). -/
structure ProfileSpeeds where
  free : Nat
  close : Nat
  deriving DecidableEq, Repr

/-- The weather block (R11, R12). -/
structure WeatherBlock where
  anemA : AnemometerScale
  anemB : AnemometerScale
  combine : CombineMode
  filterShift : Nat
  windward : ProfileSpeeds
  leeward : ProfileSpeeds
  flat : ProfileSpeeds
  reopenDelay : Nat
  halfSector : Nat
  dirDeadband : Nat
  dirDwell : Nat
  vanePresent : Bool
  rainPresent : Bool
  dryHold : Nat
  probePresent : Bool
  windMonitor : MonitorLimits
  tempMonitor : MonitorLimits
  supplyMonitor : MonitorLimits
  deriving DecidableEq, Repr

/-- The movement block (R13). -/
structure MovementBlock where
  normalBudget : Nat
  lowBudget : Nat
  partAddress : Nat
  deriving DecidableEq, Repr

/-- Where an entry's value in effect came from (R1). -/
inductive Origin where
  | stored
  | default
  deriving DecidableEq, Repr

/-- One of the two non-volatile copies of an entry (1.9): whether its check code matches its
contents, its sequence count and its contents. -/
structure StoredCopy (α : Type) where
  checkMatches : Bool
  sequence : BitVec 8
  value : α
  deriving DecidableEq, Repr

/-- Names one of the two copies. -/
inductive CopyName where
  | first
  | second
  deriving DecidableEq, Repr

/-- An entry: the value in effect, its origin, its two copies, and the copy in effect, the newer valid
one, none where neither is valid (R1, 1.9, R14). An entry that R19 gave its factory default keeps its
copy in effect: the copy is valid by itself, and a write still takes the other one (DEDUCED,
notes/assumptions/9.md). -/
structure Entry (α : Type) where
  value : α
  origin : Origin
  first : StoredCopy α
  second : StoredCopy α
  inEffect : Option CopyName
  deriving DecidableEq, Repr

/-- A new value for one named entry (R1). -/
inductive EntryValue where
  | opening (n : Nat) (v : OpeningEntry)
  | group (g : Nat) (members : List Nat)
  | zone (z : Nat) (enabled : Bool)
  | scenario (z : Nat) (steps : List ScenarioStep)
  | station (n : Nat) (v : StationEntry)
  | supervisor (m : Nat) (v : SupervisorEntry)
  | weather (v : WeatherBlock)
  | movement (v : MovementBlock)
  deriving DecidableEq, Repr

/-- A write under way (R14): what is written, who asked, and the kind and index its response echoes. -/
structure EntryWrite where
  entry : EntryValue
  sender : Nat
  kind : Byte
  index : Byte
  deriving DecidableEq, Repr

/-- The site store: every entry, and the write under way (none in the state IDLE). `draws` is the
model's own field: how many writes have taken a free sequence count (notes/assumptions/9.md). -/
structure Store where
  openings : List (Entry OpeningEntry)
  groups : List (Entry (List Nat))
  zones : List (Entry Bool)
  scenarios : List (Entry (List ScenarioStep))
  stations : List (Entry StationEntry)
  supervisors : List (Entry SupervisorEntry)
  weather : Entry WeatherBlock
  movement : Entry MovementBlock
  writing : Option EntryWrite
  draws : Nat
  deriving DecidableEq, Repr

/-! ### Demand manager (02, 03) -/

/-- The class of a record (R22). -/
inductive DemandClass where
  | fireman
  | smoke
  | lockout
  | localUse
  | comfort
  | purge
  deriving DecidableEq, Repr

/-- The source of a record (R21, 00). -/
inductive Source where
  | supervisor (m : Nat)
  | scenario (z : Nat)
  | fireman (z : Nat)
  | station (n : Nat)
  deriving DecidableEq, Repr

/-- The target of a record (R21, R24). -/
inductive Target where
  | opening (n : Nat)
  | group (g : Nat)
  | zone (z : Nat)
  deriving DecidableEq, Repr

/-- What a record does when a higher one is installed ahead of it (R21). -/
inductive DemandMode where
  | hold
  | yield
  deriving DecidableEq, Repr

/-- A handle: slot and generation (R26). -/
structure Handle where
  slot : Nat
  gen : BitVec 8
  deriving DecidableEq, Repr

/-- A demand record without its handle, its age and its status: the handle is its slot's, the age its
place in the age order, and the status a view of the rank lists (R21, R28). -/
structure DemandRecord where
  source : Source
  cls : DemandClass
  target : Target
  aperture : Option Nat
  mode : DemandMode
  lifetime : Option Nat
  waitLimit : Option Nat
  waitRemaining : Option Nat
  deriving DecidableEq, Repr

/-- A slot of the demand table, FREE where it holds no record (R25, R26). -/
structure Slot where
  gen : BitVec 8
  record : Option DemandRecord
  deriving DecidableEq, Repr

/-- Why a record leaves the table (R41). -/
inductive RetireReason where
  | retired
  | expired
  | starved
  | yielded
  | evicted
  | replaced
  | cleared
  deriving DecidableEq, Repr

/-- The demand table: 96 slots, the age order oldest first, and the 48 rank lists head first
(R25, R27, R50). -/
structure DemandTable where
  slots : List Slot
  ages : List Handle
  lists : List (List Handle)
  deriving DecidableEq, Repr

/-! ### Weather unit (04, 05) -/

/-- The class of a channel (R65). -/
inductive ChannelClass where
  | valid
  | under
  | over
  | stale
  | fault
  | absent
  deriving DecidableEq, Repr

/-- One anemometer: the count of the gate, its supervision input pin, whether that stood OUT_OF_BAND
in this gate, and its channel (R65, R67, R69). -/
structure Anemometer where
  count : Nat
  inBand : Bool
  faultyGate : Bool
  cls : ChannelClass
  value : Option Nat
  deriving DecidableEq, Repr

/-- The state of a limit monitor (R79, R80). -/
inductive MonitorState where
  | normal
  | high
  | low
  deriving DecidableEq, Repr

/-- One profile's computed cap C, held cap H and reopen timer, none where stopped (R92, R93). -/
structure HeldCap where
  computed : Nat
  held : Nat
  timer : Option Nat
  deriving DecidableEq, Repr

/-- The weather unit (R65, R85, R94). A timer or hold that is stopped is none. -/
structure Weather where
  anemA : Anemometer
  anemB : Anemometer
  sample : Option Nat
  filtered : Nat
  speedSeen : Bool
  speedClass : ChannelClass
  takeOver : Bool
  vaneClass : ChannelClass
  vaneValue : Option Nat
  vaneTimer : Option Nat
  heldDir : Option Nat
  dwell : Option Nat
  rainSampled : Option Bool
  wet : Bool
  wetHold : Option Nat
  dryHold : Option Nat
  tempClass : ChannelClass
  tempValue : Option Int
  tempTimer : Option Nat
  supplyClass : ChannelClass
  supplyValue : Int
  windState : MonitorState
  tempState : MonitorState
  supplyState : MonitorState
  gates : Nat
  capWindward : HeldCap
  capLeeward : HeldCap
  capFlat : HeldCap
  capTakeOver : Bool
  deriving DecidableEq, Repr

/-! ### Resolver (05) -/

/-- The bound that lowered a target (R86). -/
inductive CapReason where
  | none
  | wind
  | rain
  | frost
  | storm
  | limit
  deriving DecidableEq, Repr

/-- The direction of quantisation (R86). -/
inductive Rounding where
  | exact
  | up
  | down
  deriving DecidableEq, Repr

/-- An opening result (R86). The governing class NONE is `none`. -/
structure OpeningResult where
  target : Nat
  cls : Option DemandClass
  handle : Option Handle
  cap : CapReason
  rounding : Rounding
  frozen : Option Nat
  windward : Bool
  profile : Profile
  deriving DecidableEq, Repr

/-! ### Fire unit (06) -/

/-- The class of a zone line (R106). -/
inductive LineClass where
  | short
  | alarm
  | normal
  | openCircuit
  deriving DecidableEq, Repr

/-- The state of a zone (R108). -/
inductive ZoneState where
  | normal
  | alarm
  | latched
  | fault
  | disabled
  deriving DecidableEq, Repr

/-- The position or the reading of a fireman switch; only a reading is ever INVALID (R114). -/
inductive SwitchPos where
  | auto
  | openPos
  | closePos
  | invalid
  deriving DecidableEq, Repr

/-- The pattern of a panel lamp (R122). -/
inductive LampPattern where
  | off
  | steady
  | slow
  | fast
  deriving DecidableEq, Repr

/-- One zone of the fire unit: its line and debounce (R105, R107), its state and line-fault flag
(R108, R110), its switch (R114) and its two lamps (R122). A stopped timer is none. -/
structure Zone where
  count : BitVec 10
  accepted : Option LineClass
  candidate : Option LineClass
  agreement : Nat
  state : ZoneState
  lineFault : Bool
  openMade : Bool
  closeMade : Bool
  switchPos : SwitchPos
  switchTimer : Option Nat
  alarmLamp : LampPattern
  statusLamp : LampPattern
  deriving DecidableEq, Repr

/-- The fire unit: eight zones, the reset key (R116) and the phase of the flash timebase, in steps of
125 milliseconds from 0 to 7 (R122). -/
structure FireUnit where
  zones : List Zone
  keyMade : Bool
  keyPressed : Bool
  keyTimer : Option Nat
  phase : Nat
  deriving DecidableEq, Repr

/-! ### Station unit (07) -/

/-- One button: its contact, its accepted state and its debounce timer (R124). -/
structure Button where
  made : Bool
  pressed : Bool
  timer : Option Nat
  deriving DecidableEq, Repr

/-- The state of a gesture machine (R125). -/
inductive Gesture where
  | idle
  | heldOpen
  | heldClose
  | heldBoth
  | spent
  deriving DecidableEq, Repr

/-- One station: two buttons, the gesture machine with its hold timer, and the handle of its living
record (R124, R125, R129). -/
structure Station where
  openButton : Button
  closeButton : Button
  gesture : Gesture
  holdTimer : Option Nat
  handle : Option Handle
  deriving DecidableEq, Repr

/-! ### Movement controller (08) -/

/-- The movement state of an opening (R131). -/
inductive MoveState where
  | unknown
  | atRest
  | waitSlot
  | breakaway
  | travel
  | stopping
  | retryWait
  | faulted
  deriving DecidableEq, Repr

/-- Why an opening faulted (R142). -/
inductive FaultReason where
  | jammed
  | stalled
  | overtime
  | noStop
  | lost
  deriving DecidableEq, Repr

/-- The sense of a move (R131). -/
inductive Direction where
  | up
  | down
  deriving DecidableEq, Repr

/-- A movement record (R131). -/
structure MoveRecord where
  state : MoveState
  faultReason : Option FaultReason
  retries : Nat
  direction : Option Direction
  breakaway : Option Nat
  deadline : Option Nat
  progressRef : Option Nat
  progressWindow : Option Nat
  stopTimer : Option Nat
  retryTimer : Option Nat
  waitAge : Option Nat
  orderPending : Bool
  classTold : Option DemandClass
  deriving DecidableEq, Repr

/-! ### Drive bus controller (09) -/

/-- What an order asks of a drive (R154). -/
inductive OrderKind where
  | move (target : Nat)
  | stop
  deriving DecidableEq, Repr

/-- One order for one opening (R154). -/
structure Order where
  opening : Nat
  kind : OrderKind
  deriving DecidableEq, Repr

/-- The order in flight: how often it has been sent, and whether it is superseded (R154, R157). -/
structure InFlight where
  order : Order
  attempts : Nat
  superseded : Bool
  deriving DecidableEq, Repr

/-- The transaction under way: its node, the request frame sent, and whether its reply is to be
discarded because the opening was disabled meanwhile (R152, R161). -/
structure Transaction where
  node : Nat
  request : List Byte
  discard : Bool
  deriving DecidableEq, Repr

/-- The kind of a turn (R156). -/
inductive Turn where
  | order
  | poll
  deriving DecidableEq, Repr

/-- The state of a drive node (R158). -/
inductive NodeState where
  | unpolled
  | online
  | lost
  | isolated
  deriving DecidableEq, Repr

/-- The motion a drive reports (R153). -/
inductive Motion where
  | stopped
  | opening
  | closing
  deriving DecidableEq, Repr

/-- The outcome of a transaction (R152). -/
inductive TransactionOutcome where
  | noReply
  | corrupt
  | isolated
  | notReady
  | jam
  | ok
  deriving DecidableEq, Repr

/-- The fields of a valid reply (R153). -/
structure DriveReply where
  position : Nat
  motion : Motion
  endClosed : Bool
  endOpen : Bool
  overcurrent : Bool
  isolated : Bool
  notReady : Bool
  supplyGood : Bool
  deriving DecidableEq, Repr

/-- A node record (R158). -/
structure NodeRecord where
  state : NodeState
  failures : Nat
  lastReply : Option DriveReply
  lastOutcome : Option TransactionOutcome
  deriving DecidableEq, Repr

/-- The drive bus controller (R152, R154, R156, R158). `rotation` is 0 while no opening is enabled. -/
structure Bus where
  queue : List Order
  inFlight : Option InFlight
  transaction : Option Transaction
  rotation : Nat
  lastTurn : Turn
  nodes : List (Option NodeRecord)
  deriving DecidableEq, Repr

/-! ### Supervisory link (10) -/

/-- The state of the link receiver (R163). -/
inductive RxState where
  | idle
  | receiving
  | discarding
  deriving DecidableEq, Repr

/-- The status of a response (R165). -/
inductive Status where
  | accepted
  | busy
  | noSlot
  | listFull
  | notFound
  | notOwner
  | notPermitted
  | badField
  | inUse
  | storeFault
  deriving DecidableEq, Repr

/-- The outcome flags (R37). -/
structure OutcomeFlags where
  new : Bool
  replaced : Bool
  governs : Bool
  capped : Bool
  clamped : Bool
  roundedUp : Bool
  roundedDown : Bool
  retiredOthers : Bool
  deriving DecidableEq, Repr

/-- A formed response: the part address it carries as source, its destination, the request's code,
the three header fields, and the request's own payload (R165). -/
structure Response where
  source : Nat
  dest : Nat
  code : Byte
  status : Status
  flags : OutcomeFlags
  attention : Bool
  body : List Byte
  deriving DecidableEq, Repr

/-- The supervisory link: receiver, buffer and whether a byte in the buffer had a framing error (R163),
the held response (R165), the slot of the deferred response (R166), the response being sent, and
whether a RESTART is due (R172). -/
structure Link where
  rx : RxState
  buffer : List Byte
  misframed : Bool
  held : Option Response
  deferred : Option Response
  sending : Option Response
  restartDue : Bool
  deriving DecidableEq, Repr

/-! ### Condition unit (11) -/

/-- The 19 conditions (R176); `demandDropped m` is DEMAND_DROPPED_m. -/
inductive Condition where
  | zoneAlarm
  | zoneLineFault
  | openingFault
  | openingLost
  | openingIsolated
  | startWait
  | weatherClose
  | rain
  | frost
  | storm
  | lowSupply
  | sensorInvalid
  | tableHigh
  | demandDropped1
  | demandDropped2
  | demandDropped3
  | demandDropped4
  | stationRefused
  | storeFault
  deriving DecidableEq, Repr

/-- What reset the part last (R180). -/
inductive ResetCause where
  | powerOn
  | restart
  deriving DecidableEq, Repr

/-- The condition unit: three sets with condition n in bit n, the attention output and the reset
cause (R176, R179, R180). -/
structure Conditions where
  live : BitVec 19
  sticky : BitVec 19
  mask : BitVec 19
  attention : Bool
  cause : ResetCause
  deriving DecidableEq, Repr

/-! ### What one block has told another and the other has not yet taken -/

/-- A change of weather told to the resolver (R66, R88). -/
inductive WeatherTold where
  | heldCap (p : Profile)
  | rain
  | frost
  | storm
  | firstGate
  deriving DecidableEq, Repr

/-- A target event (R89, R132); `changed` where T itself differs from the T told before (R140). -/
structure TargetTold where
  opening : Nat
  target : Nat
  cls : Option DemandClass
  changed : Bool
  deriving DecidableEq, Repr

/-- A reply handed on to the movement controller (R132), and the recorded position that it replaced,
which a one-second event taken before it still judges (R139). -/
structure ReplyTold where
  opening : Nat
  before : Option Nat
  isolated : Bool
  position : Nat
  motion : Motion
  overcurrent : Bool
  deriving DecidableEq, Repr

/-- How an order ended (R132, R155, R157). -/
inductive OrderEnd where
  | delivered
  | discarded
  | dropped
  deriving DecidableEq, Repr

/-- An order outcome told to the movement controller (R132). -/
structure OutcomeTold where
  opening : Nat
  ending : OrderEnd
  deriving DecidableEq, Repr

/-- A report to the condition unit: the live states that changed and the events raised (R177). -/
structure Report where
  owner : Owner
  lives : List (Condition × Bool)
  events : List Condition
  deriving DecidableEq, Repr

/-- A scenario placement that zone `zone` handed to the demand manager and that is not yet taken
(R112). -/
structure StepTold where
  zone : Nat
  step : ScenarioStep
  deriving DecidableEq, Repr

/-- The told events that wait, each list oldest first. `heads` holds, for each operation of the demand
manager, the openings whose head changed or was adjusted (R58); `freezes` the openings where LOCKOUT
came to the head and the resolver has not yet set the frozen aperture for it (R59); `steps` the
scenario placements that wait (R112). -/
structure Mail where
  heads : List (List Nat)
  freezes : List Nat
  steps : List StepTold
  weather : List WeatherTold
  targets : List TargetTold
  replies : List ReplyTold
  outcomes : List OutcomeTold
  lost : List Nat
  reports : List Report
  deriving DecidableEq, Repr

/-! ### The whole -/

/-- The state of the part. `results`, `moves` and `bus.nodes` hold nothing for an opening that is not
enabled (R86, R131, R158). `pending` is the queue of commands that wait, first in, first out. -/
structure State where
  store : Store
  demand : DemandTable
  weather : Weather
  results : List (Option OpeningResult)
  fire : FireUnit
  stations : List Station
  moves : List (Option MoveRecord)
  bus : Bus
  link : Link
  conditions : Conditions
  mail : Mail
  pending : List Instr
  deriving DecidableEq, Repr

/-! ### Factory defaults (R18) -/

/-- The factory default of an opening entry. -/
def OpeningEntry.factory : OpeningEntry :=
  { enabled := false, exposure := .flat, facing := 0, limit := 1000, step := 10, rest := 0,
    rain := 0, deadband := 10, strokeTime := 120, breakawayTime := 2, zone := 0 }

/-- The factory default of a station entry. -/
def StationEntry.factory : StationEntry :=
  { enabled := false, group := 1, step := 100, lifetime := 3600 }

/-- The factory default of supervisor entry 1. -/
def SupervisorEntry.factoryFirst : SupervisorEntry :=
  { mayLockout := false, mayLocal := false, mayComfort := false, mayPurge := false,
    mayConfigure := true, mayFireReset := false, mayRestart := true }

/-- The factory default of supervisor entries 2 to 4. -/
def SupervisorEntry.factoryOther : SupervisorEntry :=
  { mayLockout := false, mayLocal := false, mayComfort := false, mayPurge := false,
    mayConfigure := false, mayFireReset := false, mayRestart := false }

/-- The factory default of the weather block. -/
def WeatherBlock.factory : WeatherBlock :=
  { anemA := { present := false, factor := 64, trim := 0, trimMinus := false },
    anemB := { present := false, factor := 64, trim := 0, trimMinus := false },
    combine := .average, filterShift := 0,
    windward := { free := 80, close := 150 },
    leeward := { free := 120, close := 200 },
    flat := { free := 100, close := 180 },
    reopenDelay := 300, halfSector := 45, dirDeadband := 15, dirDwell := 30,
    vanePresent := false, rainPresent := false, dryHold := 600, probePresent := false,
    windMonitor := { mode := .band, high := 150, low := 100, hysteresis := 0 },
    tempMonitor := { mode := .hyst, high := 160, low := 0, hysteresis := 4 },
    supplyMonitor := { mode := .hyst, high := 400, low := 220, hysteresis := 10 } }

/-- The factory default of the movement block. -/
def MovementBlock.factory : MovementBlock :=
  { normalBudget := 4, lowBudget := 1, partAddress := 16 }

/-- An entry whose two copies were never written: its factory default is in effect (R18).
DESIGN CHOICE: the manual does not say what a never written memory holds; here neither copy's check
code matches (notes/assumptions/7.md). -/
def Entry.blank {α : Type} (v : α) : Entry α :=
  { value := v, origin := .default,
    first := { checkMatches := false, sequence := 0, value := v },
    second := { checkMatches := false, sequence := 0, value := v },
    inEffect := none }

/-- The store of a part whose non-volatile memory was never written. -/
def Store.blank : Store :=
  { openings := List.replicate 48 (.blank .factory),
    groups := List.replicate 24 (.blank []),
    zones := List.replicate 8 (.blank false),
    scenarios := List.replicate 8 (.blank []),
    stations := List.replicate 8 (.blank .factory),
    supervisors := [.blank .factoryFirst, .blank .factoryOther, .blank .factoryOther,
      .blank .factoryOther],
    weather := .blank .factory,
    movement := .blank .factory,
    writing := none, draws := 0 }

/-! ### The state after power-on reset -/

/-- The demand table after reset (R29, R50). -/
def DemandTable.empty : DemandTable :=
  { slots := List.replicate 96 { gen := 0, record := none },
    ages := [],
    lists := List.replicate 48 [] }

/-- An absent anemometer after reset; its input IN_BAND is a DESIGN CHOICE (notes/assumptions/8.md). -/
def Anemometer.atReset : Anemometer :=
  { count := 0, inBand := true, faultyGate := false, cls := .absent, value := none }

/-- A held cap after reset (R94). -/
def HeldCap.atReset : HeldCap := { computed := 0, held := 0, timer := none }

/-- A zone after reset with a zone entry that is not enabled (R107, R108, R114, R122). The contacts
not made and the count 0 are DESIGN CHOICES (notes/assumptions/8.md). -/
def Zone.atReset : Zone :=
  { count := 0, accepted := none, candidate := none, agreement := 0, state := .disabled,
    lineFault := false, openMade := false, closeMade := false, switchPos := .auto,
    switchTimer := some 200, alarmLamp := .off, statusLamp := .off }

/-- A button after reset: accepted as pressed, its debounce running (R124). -/
def Button.atReset : Button := { made := false, pressed := true, timer := some 50 }

/-- A station after reset (R124, R125, R129). -/
def Station.atReset : Station :=
  { openButton := .atReset, closeButton := .atReset, gesture := .spent, holdTimer := none,
    handle := none }

/-- The movement record of an opening at reset or just enabled (R131, R150). -/
def MoveRecord.atReset : MoveRecord :=
  { state := .unknown, faultReason := none, retries := 0, direction := none, breakaway := none,
    deadline := none, progressRef := none, progressWindow := none, stopTimer := none,
    retryTimer := none, waitAge := none, orderPending := false, classTold := none }

/-- A node record at reset or of an opening just enabled (R161). -/
def NodeRecord.atReset : NodeRecord :=
  { state := .unpolled, failures := 0, lastReply := none, lastOutcome := none }

/-- The link after reset (R163). -/
def Link.atReset : Link :=
  { rx := .discarding, buffer := [], misframed := false, held := none, deferred := none,
    sending := none, restartDue := false }

/-- No flag set: the flag byte of a refused request (R165). -/
def OutcomeFlags.none : OutcomeFlags :=
  { new := false, replaced := false, governs := false, capped := false, clamped := false,
    roundedUp := false, roundedDown := false, retiredOthers := false }

/-- The condition unit after a reset from `cause` (R180). -/
def Conditions.atReset (cause : ResetCause) : Conditions :=
  { live := 0, sticky := 0, mask := 0, attention := false, cause := cause }

/-- Nothing told and not yet taken. -/
def Mail.empty : Mail :=
  { heads := [], freezes := [], steps := [], weather := [], targets := [], replies := [],
    outcomes := [], lost := [], reports := [] }

/-- The part right after power-on reset, with a non-volatile memory never written
(notes/assumptions/7.md) and every pin at rest (notes/assumptions/8.md). The store has raised
STORE_FAULT for the entries loaded as defaults (R18), and the weather unit has found the first supply
sample low (R85); both reports wait to be taken. -/
def State.reset : State :=
  { store := .blank,
    demand := .empty,
    weather :=
      { anemA := .atReset, anemB := .atReset, sample := none, filtered := 0, speedSeen := false,
        speedClass := .absent, takeOver := true, vaneClass := .absent, vaneValue := none,
        vaneTimer := none, heldDir := none, dwell := none, rainSampled := none, wet := false,
        wetHold := none, dryHold := none, tempClass := .absent, tempValue := none,
        tempTimer := none, supplyClass := .valid, supplyValue := 0, windState := .normal,
        tempState := .normal, supplyState := .low, gates := 0, capWindward := .atReset,
        capLeeward := .atReset, capFlat := .atReset, capTakeOver := true },
    results := List.replicate 48 none,
    fire :=
      { zones := List.replicate 8 .atReset, keyMade := false, keyPressed := true,
        keyTimer := some 200, phase := 0 },
    stations := List.replicate 8 .atReset,
    moves := List.replicate 48 none,
    bus :=
      { queue := [], inFlight := none, transaction := none, rotation := 0, lastTurn := .order,
        nodes := List.replicate 48 none },
    link := .atReset,
    conditions := .atReset .powerOn,
    mail := { Mail.empty with
      reports := [{ owner := .siteStore, lives := [], events := [.storeFault] },
        { owner := .weatherUnit, lives := [(.lowSupply, true)], events := [] }] },
    pending := [] }

end Sys2Proof.Machine
end

