-- ==== Sys2Proof/WellFormed.lean ====
section
/-! DEFINITION. Which commands name things that exist: the number ranges of 00 (Identifiers) and the
lengths the two lines can carry. Operands held as bit vectors need no check. -/
namespace Sys2Proof

/-- Supervisors are numbered 1 to 4. -/
def isSupervisor (m : Nat) : Bool := 1 ≤ m && m ≤ Config.supervisorCount
/-- Openings are numbered 1 to 48. -/
def isOpening (n : Nat) : Bool := 1 ≤ n && n ≤ Config.openingCount
/-- Zones are numbered 1 to 8. -/
def isZone (z : Nat) : Bool := 1 ≤ z && z ≤ Config.zoneCount
/-- Stations are numbered 1 to 8. -/
def isStation (n : Nat) : Bool := 1 ≤ n && n ≤ Config.stationCount
/-- Slots are numbered 0 to 95. -/
def isSlot (k : Nat) : Bool := k < Config.slotCount

/-- The command names only units that exist, a CONFIGURE payload fits a frame (its kind and index
take 2 of the 200 bytes), and a reply has 1 to 6 bytes. -/
def Instr.wellFormed : Instr → Bool
  | .place m _ => isSupervisor m
  | .adjust m _ _ _ => isSupervisor m
  | .retire m _ _ => isSupervisor m
  | .probe m _ => isSupervisor m
  | .listRecords m _ => isSupervisor m
  | .readRecord m _ _ => isSupervisor m
  | .readOpening m _ => isSupervisor m
  | .readGroup m _ => isSupervisor m
  | .readZone m _ => isSupervisor m
  | .readWeather m => isSupervisor m
  | .readConditions m => isSupervisor m
  | .clearConditions m _ => isSupervisor m
  | .setMask m _ => isSupervisor m
  | .configure m _ _ value => isSupervisor m && value.length + 2 ≤ Config.payloadMax
  | .readConfig m _ _ => isSupervisor m
  | .clearFault m _ => isSupervisor m
  | .fireReset m => isSupervisor m
  | .restart m => isSupervisor m
  | .recordExpired k => isSlot k
  | .recordStarved k => isSlot k
  | .zoneLineSample z _ => isZone z
  | .lineAcceptance z _ => isZone z
  | .firemanSwitchChange z _ _ => isZone z
  | .switchAcceptance z => isZone z
  | .buttonContactChange n _ _ => isStation n
  | .buttonAcceptance n _ => isStation n
  | .holdTimerExpiry n => isStation n
  | .targetEvent n => isOpening n
  | .movementReply n => isOpening n
  | .orderOutcome n => isOpening n
  | .nodeLostEvent n => isOpening n
  | .breakawayEnd n => isOpening n
  | .overtime n => isOpening n
  | .progressWindowEnd n => isOpening n
  | .noStop n => isOpening n
  | .retryTimerEnd n => isOpening n
  | .startWaitRise n => isOpening n
  | .replyReceived bytes => 1 ≤ bytes.length && bytes.length ≤ 6
  | .powerOnReset _ _ => true
  | .frameTaken => true
  | .receiveBufferOverflow => true
  | .discardIdleGap => true
  | .heldResponseSend => true
  | .heldResponseDiscard _ _ => true
  | .deferredResponseSend => true
  | .transmissionEnd => true
  | .restartTaken _ _ => true
  | .writeComplete _ => true
  | .writeFail => true
  | .demandTick => true
  | .resolverRecompute _ => true
  | .anemometerPulse _ => true
  | .anemometerSupervision _ _ => true
  | .gateEnd => true
  | .reopenTimerExpiry _ => true
  | .sensorReportStart => true
  | .vaneReading _ => true
  | .vaneStale => true
  | .dwellReached => true
  | .rainSample _ => true
  | .wetHoldEnd => true
  | .dryHoldEnd => true
  | .probeReading _ => true
  | .probeStale => true
  | .supplySample _ => true
  | .flashTimebase => true
  | .resetKeyChange _ => true
  | .resetKeyAcceptance => true
  | .movementTick => true
  | .slotGrant => true
  | .orderTurn => true
  | .pollTurn => true
  | .noReply => true
  | .conditionReport _ => true
  | .byteArrives _ _ => true

end Sys2Proof
end

