-- ==== Sys2Proof/Machine/Ops.lean ====
section
/-! DEFINITION. The shared operations under every block: tables numbered from 1, the one place where
each block's state is replaced, the reading of the site tables in effect (R15), and the telling of
one block by another. -/
namespace Sys2Proof.Machine

/-! ### Tables numbered from 1 -/

/-- Item `n` of a table whose first item has number 1. -/
def nth {α : Type} (l : List α) (n : Nat) : Option α :=
  match n with
  | 0 => none
  | k + 1 => l[k]?

/-- The table with item `n` replaced; unchanged where there is no item `n`. -/
def setNth {α : Type} (l : List α) (n : Nat) (a : α) : List α :=
  match n with
  | 0 => l
  | k + 1 => l.set k a

/-- Item `n` of a table of optional items. -/
def nthSome {α : Type} (l : List (Option α)) (n : Nat) : Option α :=
  match nth l n with
  | some (some a) => some a
  | _ => none

/-- Numbers 1 to `k`, ascending. -/
def numbers (k : Nat) : List Nat := List.range' 1 k

/-- The openings, ascending. -/
def openingNumbers : List Nat := numbers Config.openingCount
/-- The groups, ascending. -/
def groupNumbers : List Nat := numbers Config.groupCount
/-- The zones, ascending. -/
def zoneNumbers : List Nat := numbers Config.zoneCount
/-- The stations, ascending. -/
def stationNumbers : List Nat := numbers Config.stationCount
/-- The supervisors, ascending. -/
def supervisorNumbers : List Nat := numbers Config.supervisorCount

/-- The first item that `p` holds of, and the list without it. -/
def takeFirst {α : Type} (p : α → Bool) : List α → Option (α × List α)
  | [] => none
  | a :: rest =>
    if p a then some (a, rest)
    else
      match takeFirst p rest with
      | some (b, rest') => some (b, a :: rest')
      | none => none

/-! ### Each block's state replaced in one place -/

def State.setStore (s : State) (x : Store) : State := { s with store := x }
def State.setDemand (s : State) (x : DemandTable) : State := { s with demand := x }
def State.setWeather (s : State) (x : Weather) : State := { s with weather := x }
def State.setResults (s : State) (x : List (Option OpeningResult)) : State := { s with results := x }
def State.setFire (s : State) (x : FireUnit) : State := { s with fire := x }
def State.setStations (s : State) (x : List Station) : State := { s with stations := x }
def State.setMoves (s : State) (x : List (Option MoveRecord)) : State := { s with moves := x }
def State.setBus (s : State) (x : Bus) : State := { s with bus := x }
def State.setLink (s : State) (x : Link) : State := { s with link := x }
def State.setConditions (s : State) (x : Conditions) : State := { s with conditions := x }
def State.setMail (s : State) (x : Mail) : State := { s with mail := x }
def State.setPending (s : State) (x : List Instr) : State := { s with pending := x }

/-! ### The site tables in effect (R1, R15) -/

/-- The opening entry in effect. -/
def Store.opening (st : Store) (n : Nat) : OpeningEntry :=
  match nth st.openings n with
  | some e => e.value
  | none => .factory

/-- The member list in effect. -/
def Store.group (st : Store) (g : Nat) : List Nat :=
  match nth st.groups g with
  | some e => e.value
  | none => []

/-- The enabled field of a zone in effect. -/
def Store.zoneEnabled (st : Store) (z : Nat) : Bool :=
  match nth st.zones z with
  | some e => e.value
  | none => false

/-- The step list of a scenario in effect. -/
def Store.scenario (st : Store) (z : Nat) : List ScenarioStep :=
  match nth st.scenarios z with
  | some e => e.value
  | none => []

/-- The station entry in effect. -/
def Store.station (st : Store) (n : Nat) : StationEntry :=
  match nth st.stations n with
  | some e => e.value
  | none => .factory

/-- The supervisor entry in effect. -/
def Store.supervisor (st : Store) (m : Nat) : SupervisorEntry :=
  match nth st.supervisors m with
  | some e => e.value
  | none => .factoryOther

/-- Whether opening `n` exists at the site. -/
def Store.enabled (st : Store) (n : Nat) : Bool := isOpening n && (st.opening n).enabled

/-- The enabled openings, ascending. -/
def Store.enabledOpenings (st : Store) : List Nat :=
  openingNumbers.filter fun n => (st.opening n).enabled

/-- The openings of zone `z`: the enabled openings whose entry names it (R6). -/
def Store.zoneOpenings (st : Store) (z : Nat) : List Nat :=
  openingNumbers.filter fun n => (st.opening n).enabled && (st.opening n).zone == z

/-- The openings a target covers, ascending (R24). -/
def Store.covered (st : Store) : Target → List Nat
  | .opening n => [n]
  | .group g => st.group g
  | .zone z => st.zoneOpenings z

/-! ### Reading the demand table (R26, R28, R50) -/

/-- The rank of a class (R22). -/
def DemandClass.rank : DemandClass → Nat
  | .fireman => 6
  | .smoke => 5
  | .lockout => 4
  | .localUse => 3
  | .comfort => 2
  | .purge => 1

/-- The rank an opening is served by: 0 where no demand governs it (R57). -/
def rankOf : Option DemandClass → Nat
  | some c => c.rank
  | none => 0

/-- SMOKE and FIREMAN, the classes of a fire (R143, R146). -/
def isFireClass : Option DemandClass → Bool
  | some .smoke => true
  | some .fireman => true
  | _ => false

/-- The record in slot `k`. -/
def DemandTable.inSlot (t : DemandTable) (k : Nat) : Option DemandRecord :=
  match t.slots[k]? with
  | some sl => sl.record
  | none => none

/-- The living record a handle names: its slot is IN USE and the generation is the slot's (R26). -/
def DemandTable.find (t : DemandTable) (h : Handle) : Option DemandRecord :=
  match t.slots[h.slot]? with
  | some sl => if sl.gen = h.gen then sl.record else none
  | none => none

/-- The handle of slot `k` at its present generation (R25). -/
def DemandTable.handleOf (t : DemandTable) (k : Nat) : Handle :=
  match t.slots[k]? with
  | some sl => { slot := k, gen := sl.gen }
  | none => { slot := k, gen := 0 }

/-- The table count: the number of slots IN USE (R25). -/
def DemandTable.count (t : DemandTable) : Nat := t.slots.countP fun sl => sl.record.isSome

/-- The slots IN USE, ascending. -/
def DemandTable.usedSlots (t : DemandTable) : List Nat :=
  (List.range t.slots.length).filter fun k => (t.inSlot k).isSome

/-- The rank list of opening `n`, head first. -/
def DemandTable.list (t : DemandTable) (n : Nat) : List Handle :=
  match nth t.lists n with
  | some l => l
  | none => []

/-- The head of opening `n`'s rank list (R57). -/
def DemandTable.head (t : DemandTable) (n : Nat) : Option Handle := (t.list n).head?

/-- The record at the head of opening `n`'s rank list. -/
def DemandTable.headRecord (t : DemandTable) (n : Nat) : Option DemandRecord :=
  match t.head n with
  | some h => t.find h
  | none => none

/-- The class of the head of opening `n`'s rank list. -/
def DemandTable.headClass (t : DemandTable) (n : Nat) : Option DemandClass :=
  match t.headRecord n with
  | some r => some r.cls
  | none => none

/-- The openings whose list the record named by `h` heads, ascending. -/
def DemandTable.headedBy (t : DemandTable) (h : Handle) : List Nat :=
  openingNumbers.filter fun n => t.head n == some h

/-- The openings in whose lists the record named by `h` stands, ascending. -/
def DemandTable.standsIn (t : DemandTable) (h : Handle) : List Nat :=
  openingNumbers.filter fun n => (t.list n).contains h

/-- The status of a record (R28). -/
inductive RecordStatus where
  | governing
  | partlyGoverning
  | outranked
  deriving DecidableEq, Repr

/-- The status the rank lists give the record named by `h` (R28). -/
def DemandTable.status (t : DemandTable) (h : Handle) : RecordStatus :=
  if t.headedBy h = [] then .outranked
  else if t.headedBy h = t.standsIn h then .governing
  else .partlyGoverning

/-! ### Reading the other blocks -/

/-- The result of opening `n`. -/
def State.result (s : State) (n : Nat) : Option OpeningResult := nthSome s.results n

/-- The movement record of opening `n`. -/
def State.move (s : State) (n : Nat) : Option MoveRecord := nthSome s.moves n

/-- The movement state of opening `n`, where it has a record. -/
def State.moveState (s : State) (n : Nat) : Option MoveState :=
  match s.move n with
  | some m => some m.state
  | none => none

/-- The node record of opening `n`'s drive node. -/
def State.node (s : State) (n : Nat) : Option NodeRecord := nthSome s.bus.nodes n

/-- The state of opening `n`'s drive node, where it has a record. -/
def State.nodeState (s : State) (n : Nat) : Option NodeState :=
  match s.node n with
  | some d => some d.state
  | none => none

/-- The last reply of opening `n`'s drive node (R153). -/
def State.lastReply (s : State) (n : Nat) : Option DriveReply :=
  match s.node n with
  | some d => d.lastReply
  | none => none

/-- The recorded position of opening `n` (R132, R153). -/
def State.position (s : State) (n : Nat) : Option Nat :=
  match s.lastReply n with
  | some r => some r.position
  | none => none

/-- The zone record of zone `z`. -/
def State.zone (s : State) (z : Nat) : Option Zone := nth s.fire.zones z

/-- Replaces the zone record of zone `z`. -/
def State.setZone (s : State) (z : Nat) (r : Zone) : State :=
  s.setFire { s.fire with zones := setNth s.fire.zones z r }

/-- The record of station `n`. -/
def State.stationOf (s : State) (n : Nat) : Option Station := nth s.stations n

/-- Replaces the record of station `n`. -/
def State.setStation (s : State) (n : Nat) (r : Station) : State :=
  s.setStations (setNth s.stations n r)

/-- Replaces the movement record of opening `n`. -/
def State.setMove (s : State) (n : Nat) (r : MoveRecord) : State :=
  s.setMoves (setNth s.moves n (some r))

/-- Replaces the node record of opening `n`. -/
def State.setNode (s : State) (n : Nat) (r : NodeRecord) : State :=
  s.setBus { s.bus with nodes := setNth s.bus.nodes n (some r) }

/-- Replaces the result of opening `n`. -/
def State.setResult (s : State) (n : Nat) (r : OpeningResult) : State :=
  s.setResults (setNth s.results n (some r))

/-- The openings in BREAKAWAY, which are the openings that hold a start slot (R147). -/
def State.breakawayOpenings (s : State) : List Nat :=
  openingNumbers.filter fun n => s.moveState n == some .breakaway

/-- LOW_SUPPLY: the SUPPLY monitor is LOW (R81). -/
def Weather.lowSupply (w : Weather) : Bool := w.supplyState == .low
/-- STORM: the WIND monitor is HIGH (R81). -/
def Weather.storm (w : Weather) : Bool := w.windState == .high
/-- FROST: the TEMP monitor is LOW (R81). -/
def Weather.frost (w : Weather) : Bool := w.tempState == .low

/-- The held cap record of a profile (R92, R93). -/
def Weather.cap (w : Weather) : Profile → HeldCap
  | .windward => w.capWindward
  | .leeward => w.capLeeward
  | .flat => w.capFlat

/-- Replaces the held cap record of a profile. -/
def Weather.setCap (w : Weather) (p : Profile) (c : HeldCap) : Weather :=
  match p with
  | .windward => { w with capWindward := c }
  | .leeward => { w with capLeeward := c }
  | .flat => { w with capFlat := c }

/-- The profiles, in the order of R97. -/
def profiles : List Profile := [.windward, .leeward, .flat]

/-- The ordered classes (R65). -/
def ChannelClass.ordered : ChannelClass → Bool
  | .valid => true
  | .under => true
  | .over => true
  | _ => false

/-- Whether some opening has `p` as its profile: the profile is in use (R96). -/
def State.profileInUse (s : State) (p : Profile) : Bool :=
  openingNumbers.any fun n =>
    match s.result n with
    | some r => r.profile == p
    | none => false

/-- WEATHER_CLOSE as the weather unit judges it, for the first time at the first gate end (R96). -/
def State.weatherClose (s : State) : Bool :=
  1 ≤ s.weather.gates &&
    profiles.any fun p => (s.weather.cap p).held == 0 && s.profileInUse p

/-! ### The angular distance of 00 (Angles) -/

/-- The angular distance of two angles below 360. -/
def angularDistance (x y : Nat) : Nat :=
  min ((x + 360 - y) % 360) (360 - (x + 360 - y) % 360)

/-! ### Telling another block -/

/-- Tells the resolver the openings whose head one operation of the demand manager changed (R58). -/
def State.tellHeads (s : State) (ns : List Nat) : State :=
  if ns = [] then s else s.setMail { s.mail with heads := s.mail.heads ++ [ns] }

/-- Marks that the resolver has yet to set the frozen aperture of openings where LOCKOUT came to the
head (R59). -/
def State.tellFreezes (s : State) (ns : List Nat) : State :=
  s.setMail { s.mail with
    freezes := s.mail.freezes ++ ns.filter fun n => !s.mail.freezes.contains n }

/-- Hands zone `z`'s scenario placements to the demand manager (R112). -/
def State.tellSteps (s : State) (z : Nat) (xs : List ScenarioStep) : State :=
  s.setMail { s.mail with steps := s.mail.steps ++ xs.map fun x => { zone := z, step := x } }

/-- Tells the resolver changes of weather, each an event of its own (R66). -/
def State.tellWeather (s : State) (ws : List WeatherTold) : State :=
  s.setMail { s.mail with weather := s.mail.weather ++ ws }

/-- Tells the movement controller a new target (R89). -/
def State.tellTarget (s : State) (t : TargetTold) : State :=
  s.setMail { s.mail with targets := s.mail.targets ++ [t] }

/-- Hands a valid reply on to the movement controller (R158). -/
def State.tellReply (s : State) (r : ReplyTold) : State :=
  s.setMail { s.mail with replies := s.mail.replies ++ [r] }

/-- Tells the movement controller how orders ended (R155, R157). -/
def State.tellOutcomes (s : State) (os : List OutcomeTold) : State :=
  s.setMail { s.mail with outcomes := s.mail.outcomes ++ os }

/-- Tells the movement controller that a node has become LOST (R158). -/
def State.tellLost (s : State) (n : Nat) : State :=
  s.setMail { s.mail with lost := s.mail.lost ++ [n] }

/-- Reports to the condition unit; an owner with nothing to report sends nothing (R177). -/
def State.report (s : State) (owner : Owner) (lives : List (Condition × Bool))
    (events : List Condition) : State :=
  if lives = [] ∧ events = [] then s
  else s.setMail { s.mail with
    reports := s.mail.reports ++ [{ owner := owner, lives := lives, events := events }] }

/-- A live state in a report: present only where it changed (R177). -/
def changedLive (c : Condition) (before after : Bool) : List (Condition × Bool) :=
  if before = after then [] else [(c, after)]

/-- An event in a report: present where it was raised. -/
def raisedIf (c : Condition) (raised : Bool) : List Condition :=
  if raised then [c] else []

/-! ### Condition numbers (R176) -/

/-- The number of a condition, its bit in the condition sets. -/
def Condition.number : Condition → Nat
  | .zoneAlarm => 0
  | .zoneLineFault => 1
  | .openingFault => 2
  | .openingLost => 3
  | .openingIsolated => 4
  | .startWait => 5
  | .weatherClose => 6
  | .rain => 7
  | .frost => 8
  | .storm => 9
  | .lowSupply => 10
  | .sensorInvalid => 11
  | .tableHigh => 12
  | .demandDropped1 => 13
  | .demandDropped2 => 14
  | .demandDropped3 => 15
  | .demandDropped4 => 16
  | .stationRefused => 17
  | .storeFault => 18

/-- The condition set that holds one condition. -/
def Condition.bit (c : Condition) : BitVec 19 := BitVec.ofNat 19 (2 ^ c.number)

/-- A condition whose sticky state is set by a rise of its live state (R176, kind "live"). -/
def Condition.setsOnRise : Condition → Bool
  | .weatherClose => true
  | .rain => true
  | .frost => true
  | .storm => true
  | .lowSupply => true
  | .sensorInvalid => true
  | .tableHigh => true
  | _ => false

/-- DEMAND_DROPPED_m (R48). -/
def demandDropped (m : Nat) : Option Condition :=
  match m with
  | 1 => some .demandDropped1
  | 2 => some .demandDropped2
  | 3 => some .demandDropped3
  | 4 => some .demandDropped4
  | _ => none

end Sys2Proof.Machine
end

