-- ==== Sys2Proof/Machine/Frames.lean ====
section
/-! DEFINITION. The check of both serial lines and the frames built from it: the link's frames (R173)
and the drive bus request and reply frames (R162). -/
namespace Sys2Proof.Machine

/-! ### The check (R162, R173) -/

/-- The check after one more bit, most significant bit first: polynomial x^16 + x^12 + x^5 + 1. -/
def crcBit (crc : Word16) (bit : Bool) : Word16 :=
  if crc.msb != bit then (crc <<< 1) ^^^ 0x1021#16 else crc <<< 1

/-- The check after one more byte. -/
def crcByte (crc : Word16) (b : Byte) : Word16 :=
  [7, 6, 5, 4, 3, 2, 1, 0].foldl (fun c i => crcBit c (b.getLsbD i)) crc

/-- The CRC-16 of R173: initial value 0xFFFF, no final inversion. -/
def crc16 (bytes : List Byte) : Word16 := bytes.foldl crcByte 0xFFFF#16

/-- A frame: the bytes followed by their check, high byte first. -/
def withCheck (bytes : List Byte) : List Byte := bytes ++ splitWord (crc16 bytes)

/-- Whether the last two bytes are the check of the bytes before them. -/
def checkHolds (frame : List Byte) : Bool :=
  2 ≤ frame.length &&
    frame.drop (frame.length - 2) == splitWord (crc16 (frame.take (frame.length - 2)))

/-! ### Encoding numbers (R174) -/

/-- A one-byte field. -/
def byteOf (n : Nat) : Byte := BitVec.ofNat 8 n

/-- A two-byte field, high byte first. -/
def wordBytes (n : Nat) : List Byte := splitWord (BitVec.ofNat 16 n)

/-- A signed two-byte field in two's complement. -/
def signedBytes (i : Int) : List Byte := splitWord (BitVec.ofInt 16 i)

/-- A yes or no field. -/
def boolByte (b : Bool) : Byte := if b then 1 else 0

/-- An optional one-byte field: 0xFF when absent. -/
def optByte : Option Nat → Byte
  | some n => byteOf n
  | none => 0xFF#8

/-- An optional two-byte field: 0xFFFF when absent. -/
def optWord : Option Nat → List Byte
  | some n => wordBytes n
  | none => [0xFF#8, 0xFF#8]

/-- An optional signed field: 0x8000 when absent. -/
def optSigned : Option Int → List Byte
  | some i => signedBytes i
  | none => [0x80#8, 0x00#8]

/-- A handle: slot then generation (R174). -/
def handleBytes (h : Handle) : List Byte := [byteOf h.slot, h.gen]

/-- An optional handle. -/
def optHandle : Option Handle → List Byte
  | some h => handleBytes h
  | none => [0xFF#8, 0xFF#8]

/-- A condition set in three bytes, condition n in bit n counting from the last byte's least
significant bit (R174). -/
def setBytes (c : BitVec 19) : List Byte :=
  [(c.zeroExtend 24).extractLsb' 16 8, (c.zeroExtend 24).extractLsb' 8 8,
    (c.zeroExtend 24).extractLsb' 0 8]

/-! ### Drive bus request frames (R162) -/

/-- A POLL frame for node `n`. -/
def pollFrame (n : Nat) : List Byte := withCheck [byteOf n, 0x01#8]

/-- The frame of an order. -/
def orderFrame (o : Order) : List Byte :=
  match o.kind with
  | .move t => withCheck ([byteOf o.opening, 0x02#8] ++ wordBytes t)
  | .stop => withCheck [byteOf o.opening, 0x03#8]

/-! ### Drive bus reply frames (R152, R153, R162) -/

/-- The motion code of a flag byte; 3 is invalid. -/
def motionOf (flags : Byte) : Option Motion :=
  match flags.extractLsb' 0 2 with
  | 0#2 => some .stopped
  | 1#2 => some .opening
  | 2#2 => some .closing
  | _ => none

/-- The fields of a reply with position bytes `hi`, `lo` and a flag byte; none where the motion code
is invalid. A position above 1000 is taken as 1000 (R153). -/
def replyFields (hi lo flags : Byte) : Option DriveReply :=
  match motionOf flags with
  | some motion => some
      { position := min (joinBytes hi lo).toNat Config.fullAperture
        motion := motion
        endClosed := flags.getLsbD 2
        endOpen := flags.getLsbD 3
        overcurrent := flags.getLsbD 4
        isolated := flags.getLsbD 5
        notReady := flags.getLsbD 6
        supplyGood := flags.getLsbD 7 }
  | none => none

/-- The valid reply that the bytes received from node `n` are, none where the outcome is CORRUPT:
fewer than six bytes, a failed check, another node's address or motion code 3 (R152). -/
def validReply (n : Nat) (bytes : List Byte) : Option DriveReply :=
  match bytes with
  | [address, hi, lo, flags, _, _] =>
    if checkHolds bytes && address == byteOf n then replyFields hi lo flags else none
  | _ => none

/-- The outcome of a valid reply, read from ISOLATED downward (R152). -/
def DriveReply.outcome (r : DriveReply) : TransactionOutcome :=
  if r.isolated then .isolated
  else if r.notReady then .notReady
  else if r.overcurrent then .jam
  else .ok

end Sys2Proof.Machine
end

