-- ==== Sys2Proof/Machine/Lamps.lean ====
section
/-! DEFINITION. The panel lamps (R122, R123), which the fire unit evaluates at events of its own, of
the movement controller and of the drive bus controller. -/
namespace Sys2Proof.Machine

/-- The ALARM lamp's pattern (R123). -/
def alarmPattern : ZoneState → LampPattern
  | .alarm => .steady
  | .latched => .slow
  | .normal => .off
  | .fault => .off
  | .disabled => .off

/-- The movement states in which an opening counts as moving for the STATUS lamp (R123). -/
def showsMotion : MoveState → Bool
  | .waitSlot => true
  | .breakaway => true
  | .travel => true
  | .stopping => true
  | .retryWait => true
  | _ => false

/-- Whether opening `n` is FAULTED or has its drive node LOST (R123). -/
def State.inTrouble (s : State) (n : Nat) : Bool :=
  s.moveState n == some .faulted || s.nodeState n == some .lost

/-- Whether opening `n` is in a movement state that the STATUS lamp shows (R123). -/
def State.inMotion (s : State) (n : Nat) : Bool :=
  match s.moveState n with
  | some m => showsMotion m
  | none => false

/-- The STATUS lamp's pattern of zone `z`, first match from the top (R123). -/
def State.statusPattern (s : State) (z : Nat) (r : Zone) : LampPattern :=
  if r.state = .fault ∨ r.lineFault = true ∨ (s.store.zoneOpenings z).any s.inTrouble = true then
    .fast
  else if (s.store.zoneOpenings z).any s.inMotion = true then .slow
  else if r.switchPos = .openPos ∨ r.switchPos = .closePos then .steady
  else .off

/-- The fire unit evaluates the lamps of zone `z`. The first evaluation after reset is made at the
first acceptance on the zone's line, so before it nothing changes (R123). -/
def State.evalLamps (s : State) (z : Nat) : State :=
  match s.zone z with
  | some r =>
    match r.accepted with
    | some _ =>
      s.setZone z { r with alarmLamp := alarmPattern r.state, statusLamp := s.statusPattern z r }
    | none => s
  | none => s

/-- The lamps of several zones are evaluated. -/
def State.evalLampsOf (s : State) (zs : List Nat) : State := zs.foldl State.evalLamps s

/-- The zones that the openings `ns` belong to (0 where an opening belongs to none). -/
def State.zonesOf (s : State) (ns : List Nat) : List Nat :=
  zoneNumbers.filter fun z => ns.any fun n => (s.store.opening n).zone == z

/-- Whether a lamp with a pattern is lit at a phase of the flash timebase: SLOW is lit for 500
milliseconds and unlit for 500, FAST for 125 and 125 (R122). The phases start lit: DESIGN CHOICE
(notes/assumptions/13.md). -/
def lampLit (p : LampPattern) (phase : Nat) : Bool :=
  match p with
  | .off => false
  | .steady => true
  | .slow => phase % 8 < 4
  | .fast => phase % 2 == 0

end Sys2Proof.Machine
end

