-- ==== Sys2Proof/Machine/OrderQueue.lean ====
section
/-! DEFINITION. The drive bus order queue (R154, R155) as the movement controller reaches it. -/
namespace Sys2Proof.Machine

/-- The queue with the entry for the order's opening replaced in its place (R154). -/
def replaceOrder (q : List Order) (o : Order) : List Order :=
  q.map fun e => if e.opening = o.opening then o else e

/-- Whether the queue holds an entry for opening `n`. -/
def hasOrder (q : List Order) (n : Nat) : Bool := q.any fun e => e.opening == n

/-- The order in flight, superseded where it is for opening `n` (R154). -/
def supersede (f : Option InFlight) (n : Nat) : Option InFlight :=
  match f with
  | some x => some (if x.order.opening = n then { x with superseded := true } else x)
  | none => none

/-- An order arrives in the queue: in the place of the opening's entry, or else at the tail, where it
supersedes an order in flight for the opening (R154). -/
def Bus.enqueue (b : Bus) (o : Order) : Bus :=
  if hasOrder b.queue o.opening then { b with queue := replaceOrder b.queue o }
  else { b with queue := b.queue ++ [o], inFlight := supersede b.inFlight o.opening }

/-- The queue without the entry for opening `n`. -/
def Bus.removeOrder (b : Bus) (n : Nat) : Bus :=
  { b with queue := b.queue.filter fun e => e.opening != n }

/-- Queuing an order sets order pending to yes (R132). -/
def State.queueOrder (s : State) (n : Nat) (k : OrderKind) : State :=
  let s1 := s.setBus (s.bus.enqueue { opening := n, kind := k })
  match s1.move n with
  | some m => s1.setMove n { m with orderPending := true }
  | none => s1

/-- The queued entry of opening `n` is removed, and `ending` is told where there was one (R155). -/
def State.withdrawOrder (s : State) (n : Nat) (ending : OrderEnd) : State :=
  if hasOrder s.bus.queue n then
    (s.setBus (s.bus.removeOrder n)).tellOutcomes [{ opening := n, ending := ending }]
  else s

end Sys2Proof.Machine
end

