-- ==== Sys2Proof/Machine/DriveBus.lean ====
section
/-! DEFINITION. The drive bus controller (09): turns, transactions, repetitions, node states, what an
opening's entry does to it, and the meanings of its commands. -/
namespace Sys2Proof.Machine

/-! ### The poll rotation (R156, R161) -/

/-- The next enabled opening above `n`, and after the highest the lowest; 0 where none is enabled
(R156). -/
def Store.nextEnabled (st : Store) (n : Nat) : Nat :=
  match st.enabledOpenings.find? fun k => n < k with
  | some k => k
  | none => st.enabledOpenings.head?.getD 0

/-! ### The end of an event that changed a node state (R160) -/

/-- OPENING_LOST is live while any node is LOST. -/
def State.anyLost (s : State) : Bool := openingNumbers.any fun n => s.nodeState n == some .lost

/-- OPENING_ISOLATED is live while any node is ISOLATED. -/
def State.anyIsolated (s : State) : Bool :=
  openingNumbers.any fun n => s.nodeState n == some .isolated

/-- Whether some node entered state `d` between two states. -/
def enteredNodeState (d : NodeState) (s s' : State) : Bool :=
  openingNumbers.any fun n => s'.nodeState n == some d && s.nodeState n != some d

/-- The openings whose node state differs between two states. -/
def changedNodes (s s' : State) : List Nat :=
  openingNumbers.filter fun n => s.nodeState n != s'.nodeState n

/-- An event of the drive bus controller that began in `before` ends: the lamps of the zones concerned
are evaluated and the condition unit is told (R123, R160). -/
def State.endBusEvent (s before : State) : State :=
  (s.evalLampsOf (s.zonesOf (changedNodes before s))).report .driveBusController
    (changedLive .openingLost before.anyLost s.anyLost ++
      changedLive .openingIsolated before.anyIsolated s.anyIsolated)
    (raisedIf .openingLost (enteredNodeState .lost before s) ++
      raisedIf .openingIsolated (enteredNodeState .isolated before s))

/-! ### Orders in flight (R154, R155, R157) -/

/-- Whether an order may be sent for opening `n`: its node is not UNPOLLED, LOST or ISOLATED, and the
opening is not UNKNOWN or FAULTED (R155). -/
def State.orderAllowed (s : State) (n : Nat) : Bool :=
  s.nodeState n == some .online &&
    match s.moveState n with
    | some .unknown => false
    | some .faulted => false
    | some _ => true
    | none => false

/-- The order in flight ends; its outcome is told unless it is superseded (R154, R157). -/
def State.endOrder (s : State) (f : InFlight) (ending : OrderEnd) : State :=
  let s1 := s.setBus { s.bus with inFlight := none }
  if f.superseded then s1
  else s1.tellOutcomes [{ opening := f.order.opening, ending := ending }]

/-- The order in flight goes back to the tail of the queue, unless it is superseded, in which case it
is dropped without an outcome (R157). -/
def State.requeueOrder (s : State) (f : InFlight) : State :=
  let s1 := s.setBus { s.bus with inFlight := none }
  if f.superseded then s1 else s1.setBus { s1.bus with queue := s1.bus.queue ++ [f.order] }

/-- An order is sent, for the `k`-th time. -/
def State.sendOrder (s : State) (o : Order) (k : Nat) (superseded : Bool) : State :=
  s.setBus { s.bus with
    inFlight := some { order := o, attempts := k, superseded := superseded }
    transaction := some { node := o.opening, request := orderFrame o, discard := false } }

/-- The next entry is taken for an order transaction: entries at the head that fail the check of R155
are discarded with their outcome told, and the first that passes is sent (R155, R156). -/
def State.takeNextOrder (s : State) : State :=
  let bad := s.bus.queue.takeWhile fun o => !s.orderAllowed o.opening
  let rest := s.bus.queue.dropWhile fun o => !s.orderAllowed o.opening
  let s1 := (s.setBus { s.bus with queue := rest.drop 1 }).tellOutcomes
    (bad.map fun o => { opening := o.opening, ending := .discarded })
  match rest with
  | o :: _ => s1.sendOrder o 1 false
  | [] => s1

/-! ### Transactions (R152, R157 to R159) -/

/-- A valid reply of node `n` is handled (R158, R159): last reply, failure count, node state, the
reply handed on, and at an entry into ISOLATED the queued order discarded (R155). -/
def State.takeReply (s : State) (n : Nat) (r : DriveReply) : State :=
  match s.node n with
  | some d =>
    let s1 := (s.setNode n
      { state := if r.isolated then .isolated else .online
        failures := 0
        lastReply := some r
        lastOutcome := some r.outcome }).tellReply
      { opening := n, before := s.position n, isolated := r.isolated, position := r.position,
        motion := r.motion, overcurrent := r.overcurrent }
    if r.isolated && d.state != .isolated then s1.withdrawOrder n .discarded else s1
  | none => s

/-- A failed transaction with node `n` is counted; at 3 the node becomes LOST, its queued order is
dropped, and the node lost event is handed on (R158). -/
def State.countFailure (s : State) (n : Nat) (outcome : TransactionOutcome) : State :=
  match s.node n with
  | some d =>
    if 3 ≤ d.failures + 1 ∧ d.state ≠ .lost then
      ((s.setNode n { d with state := .lost, failures := 3, lastOutcome := some outcome }).withdrawOrder
        n .dropped).tellLost n
    else s.setNode n { d with failures := min (d.failures + 1) 3, lastOutcome := some outcome }
  | none => s

/-- What a valid reply does to the order in flight, where there is one (R157). -/
def State.orderReplied (s : State) (outcome : TransactionOutcome) : State :=
  match s.bus.inFlight with
  | some f =>
    match outcome with
    | .ok => s.endOrder f .delivered
    | .jam => s.endOrder f .delivered
    | .notReady => s.requeueOrder f
    | .isolated => s.endOrder f .discarded
    | .noReply => s
    | .corrupt => s
  | none => s

/-- What a failed attempt does to the order in flight, where there is one: dropped with its node LOST;
discarded where it fails the check of R155, the next entry then taken within the same turn; discarded
where it is superseded; or else repeated, up to 2 more times (R155, R157). DEDUCED: only the check of
R155 passes the turn on to the next entry (notes/assumptions/45.md). -/
def State.orderFailed (s : State) : State :=
  match s.bus.inFlight with
  | some f =>
    if s.nodeState f.order.opening = some .lost ∨ 3 ≤ f.attempts then s.endOrder f .dropped
    else if s.orderAllowed f.order.opening = false then
      (s.endOrder f .discarded).takeNextOrder
    else if f.superseded = true then s.endOrder f .discarded
    else s.sendOrder f.order (f.attempts + 1) f.superseded
  | none => s

/-- The transaction with node `n` is over. After a poll the rotation moves on to the next opening that
is enabled by then (R156). -/
def Bus.endTransaction (b : Bus) (st : Store) (n : Nat) : Bus :=
  { b with
    transaction := none
    rotation := if b.lastTurn = .poll then st.nextEnabled n else b.rotation }

/-- The transaction with node `n` ends with a valid reply. -/
def State.transactionReplied (s : State) (n : Nat) (r : DriveReply) : State :=
  (((s.setBus (s.bus.endTransaction s.store n)).takeReply n r).orderReplied r.outcome).endBusEvent s

/-- The transaction with node `n` ends failed. -/
def State.transactionFailed (s : State) (n : Nat) (outcome : TransactionOutcome) : State :=
  (((s.setBus (s.bus.endTransaction s.store n)).countFailure n outcome).orderFailed).endBusEvent s

/-- A transaction with node `n`, whose opening was disabled, ends, and its reply is discarded (R161). -/
def State.transactionDiscarded (s : State) (n : Nat) : State :=
  s.setBus { s.bus.endTransaction s.store n with inFlight := none }

/-! ### Turns (R156) -/

/-- An order turn, which it is also where every entry fails the check (R156). -/
def State.orderTurn (s : State) : State :=
  (s.setBus { s.bus with lastTurn := .order }).takeNextOrder

/-- A poll turn: a POLL to the opening the rotation names. The rotation moves on after the poll. -/
def State.pollTurn (s : State) : State :=
  s.setBus { s.bus with
    lastTurn := .poll
    transaction := some
      { node := s.bus.rotation, request := pollFrame s.bus.rotation, discard := false } }

/-- Whether a turn can be taken: no transaction is under way and some opening is enabled (R152,
R156). -/
def State.turnOpen (s : State) : Bool :=
  s.bus.transaction.isNone && !s.store.enabledOpenings.isEmpty

/-! ### Opening entry writes (R161) -/

/-- A node record is created as at reset, and the opening joins the rotation; `st` holds the entries
now in effect. -/
def Bus.openingEnabled (b : Bus) (st : Store) (n : Nat) : Bus :=
  { b with
    nodes := setNth b.nodes n (some .atReset)
    rotation := if b.rotation = 0 then st.nextEnabled 0 else b.rotation }

/-- The queued entry is removed without an outcome, the node record is discarded, a transaction under
way with the node will have its reply discarded, and the opening leaves the rotation. DESIGN CHOICE: the
manual does not say what becomes of the opening's order in flight; it is dropped here without outcome, is
never repeated, and its order turn ends with its transaction, no next entry taken
(notes/assumptions/50.md). -/
def Bus.openingDisabled (b : Bus) (st : Store) (n : Nat) : Bus :=
  { b.removeOrder n with
    nodes := setNth b.nodes n none
    transaction :=
      match b.transaction with
      | some t => some (if t.node = n then { t with discard := true } else t)
      | none => none
    inFlight :=
      match b.inFlight with
      | some f => if f.order.opening = n then none else some f
      | none => none
    rotation := if b.rotation = n then st.nextEnabled n else b.rotation }

/-! ### The meanings -/

/-- ORDER_TURN: taken where an order is due and the last turn was a poll turn, since a poll is then
always due as well (R156); otherwise nothing happens (notes/assumptions/35.md). -/
def execOrderTurn (s : State) : Host.Outcome State Fault Refusal :=
  if s.turnOpen = true ∧ s.bus.queue ≠ [] ∧ s.bus.lastTurn = .poll then .next s.orderTurn
  else .next s

/-- POLL_TURN: taken where no order is due, or the last turn was an order turn (R156). -/
def execPollTurn (s : State) : Host.Outcome State Fault Refusal :=
  if s.turnOpen = true ∧ (s.bus.queue = [] ∨ s.bus.lastTurn = .order) then .next s.pollTurn
  else .next s

/-- REPLY_RECEIVED: the reply awaited began and has ended. Bytes after the sixth belong to no reply
(R152); no byte at all is no reply (notes/assumptions/23.md). -/
def execReplyReceived (bytes : List Byte) (s : State) : Host.Outcome State Fault Refusal :=
  match s.bus.transaction with
  | some t =>
    if bytes = [] then .next s
    else if t.discard then .next (s.transactionDiscarded t.node)
    else
      match validReply t.node (bytes.take 6) with
      | some r => .next (s.transactionReplied t.node r)
      | none => .next (s.transactionFailed t.node .corrupt)
  | none => .next s

/-- NO_REPLY: no reply began within 25 milliseconds (R152). -/
def execNoReply (s : State) : Host.Outcome State Fault Refusal :=
  match s.bus.transaction with
  | some t =>
    if t.discard then .next (s.transactionDiscarded t.node)
    else .next (s.transactionFailed t.node .noReply)
  | none => .next s

end Sys2Proof.Machine
end

