-- ==== Sys2Proof/Machine/DemandOps.lean ====
section
/-! DEFINITION. The demand manager's shared operations (02, 03): retirement, eviction, installation,
the placement as one operation, adjustment, and the end of each operation. -/
namespace Sys2Proof.Machine

/-- An operation of the demand manager under way: the table, and what it has retired so far. -/
structure DemandRun where
  table : DemandTable
  retired : List (DemandRecord × RetireReason)
  deriving DecidableEq, Repr

/-- An operation that has retired nothing yet. -/
def DemandTable.run (t : DemandTable) : DemandRun := { table := t, retired := [] }

/-! ### Retirement (R40) -/

/-- The table without the record of slot `k`: it leaves every list and the age order, and its slot is
freed with the generation counted up (R26, R40). -/
def DemandTable.free (t : DemandTable) (k : Nat) : DemandTable :=
  let h := t.handleOf k
  { slots := t.slots.set k { gen := h.gen + 1, record := none }
    ages := t.ages.filter fun x => x != h
    lists := t.lists.map fun l => l.filter fun x => x != h }

/-- The record in slot `k` is retired for a reason; nothing where the slot is FREE (R40). -/
def DemandRun.retire (run : DemandRun) (k : Nat) (reason : RetireReason) : DemandRun :=
  match run.table.inSlot k with
  | some r => { table := run.table.free k, retired := run.retired ++ [(r, reason)] }
  | none => run

/-- The records of several slots are retired for one reason, in the order given. -/
def DemandRun.retireAll (run : DemandRun) (ks : List Nat) (reason : RetireReason) : DemandRun :=
  ks.foldl (fun x k => x.retire k reason) run

/-! ### Eviction (R34, R35) -/

/-- The rank of the record a handle names, 0 where it names none. -/
def DemandTable.rankAt (t : DemandTable) (h : Handle) : Nat :=
  match t.find h with
  | some r => r.cls.rank
  | none => 0

/-- Of handles in age order, the one of lowest rank below SMOKE, and of that rank the oldest (R34,
R35). None where no record is below SMOKE, which R34 and R35 show cannot happen
(notes/assumptions/20.md). -/
def DemandTable.victim (t : DemandTable) (hs : List Handle) : Option Handle :=
  (hs.filter fun h => t.rankAt h < DemandClass.smoke.rank).foldl
    (fun best h =>
      match best with
      | none => some h
      | some b => if t.rankAt h < t.rankAt b then some h else some b)
    none

/-- A record is evicted from the table (R34). -/
def DemandRun.evictFromTable (run : DemandRun) : DemandRun :=
  match run.table.victim run.table.ages with
  | some h => run.retire h.slot .evicted
  | none => run

/-- The list of opening `n` is relieved of one record where it holds 8 (R35). -/
def DemandRun.relieve (run : DemandRun) (n : Nat) : DemandRun :=
  if Config.listMax ≤ (run.table.list n).length then
    match run.table.victim (run.table.ages.filter fun h => (run.table.list n).contains h) with
    | some h => run.retire h.slot .evicted
    | none => run
  else run

/-! ### Installation (R51, R52) -/

/-- Whether a record of rank `r` stands ahead of a newly installed record of class `c` (R52). -/
def aheadOfNew (c : DemandClass) (r : Nat) : Bool :=
  match c with
  | .smoke => DemandClass.smoke.rank ≤ r
  | _ => c.rank < r

/-- A rank list with a new record at the place its class gives it (R52). -/
def DemandTable.insertIn (t : DemandTable) (c : DemandClass) (h : Handle) (l : List Handle) :
    List Handle :=
  (l.takeWhile fun x => aheadOfNew c (t.rankAt x)) ++
    h :: l.dropWhile fun x => aheadOfNew c (t.rankAt x)

/-- The record takes slot `k` at the slot's generation, goes last in the age order, and is installed
in the list of each opening named (R32 steps 4 and 5, R53). -/
def DemandTable.install (t : DemandTable) (k : Nat) (r : DemandRecord) (ns : List Nat) :
    DemandTable :=
  let h := t.handleOf k
  { slots := t.slots.set k { gen := h.gen, record := some r }
    ages := t.ages ++ [h]
    lists := ns.foldl (fun ls n => setNth ls n (t.insertIn r.cls h (t.list n))) t.lists }

/-! ### Placement as one operation (R31, R32) -/

/-- The slot of the living record with the placement's source, class and target (R31). -/
def DemandTable.matching (t : DemandTable) (r : DemandRecord) : Option Nat :=
  t.usedSlots.find? fun k =>
    match t.inSlot k with
    | some x => x.source == r.source && x.cls == r.cls && x.target == r.target
    | none => false

/-- The lowest-numbered FREE slot (R25). -/
def DemandTable.freeSlot (t : DemandTable) : Option Nat :=
  (List.range t.slots.length).find? fun k => (t.inSlot k).isNone

/-- SCENARIO and FIREMAN placements make room by eviction (R32, R33). -/
def Source.evicts : Source → Bool
  | .scenario _ => true
  | .fireman _ => true
  | .supervisor _ => false
  | .station _ => false

/-- Steps 1 to 3 of R32: the replaced record is retired, or room is made in the table, and then in
the lists. -/
def DemandRun.makeRoom (run : DemandRun) (r : DemandRecord) (ns : List Nat) : DemandRun :=
  let run1 :=
    match run.table.matching r with
    | some k => run.retire k .replaced
    | none => if r.source.evicts && run.table.freeSlot.isNone then run.evictFromTable else run
  if r.source.evicts then ns.foldl DemandRun.relieve run1 else run1

/-- The slots of the records that must yield to a record of rank `rank` in the lists of `ns`,
ascending (R36). -/
def DemandTable.yielding (t : DemandTable) (rank : Nat) (ns : List Nat) : List Nat :=
  t.usedSlots.filter fun k =>
    match t.inSlot k with
    | some x =>
      x.mode == .yield && x.cls.rank < rank &&
        ns.any fun n => (t.list n).contains (t.handleOf k)
    | none => false

/-- A placement and the handle it took: R32 steps 1 to 6. `ns` are the openings covered. -/
def DemandTable.place (t : DemandTable) (r : DemandRecord) (ns : List Nat) :
    DemandRun × Option Handle :=
  let run := t.run.makeRoom r ns
  match (match t.matching r with
    | some k => some k
    | none => run.table.freeSlot) with
  | some k =>
    let t1 := run.table.install k r ns
    ({ run with table := t1 }.retireAll (t1.yielding r.cls.rank ns) .yielded,
      some (run.table.handleOf k))
  | none => (run, none)

/-- What a placement is refused for: NO_SLOT first, then LIST_FULL; a replacement for neither (R31,
R33, R54). -/
def DemandTable.refusal (t : DemandTable) (r : DemandRecord) (ns : List Nat) : Option Status :=
  match t.matching r with
  | some _ => none
  | none =>
    if t.freeSlot.isNone then some .noSlot
    else if ns.any fun n => Config.listMax ≤ (t.list n).length then some .listFull
    else none

/-! ### Adjustment (R38, R39) -/

/-- An aperture moved by a delta, saturated into 0 to 1000 (R38, R39). -/
def adjustedAperture (a : Nat) (delta : Int) : Nat :=
  (max 0 (min (Config.fullAperture : Int) ((a : Int) + delta))).toNat

/-- Whether the sum of an adjustment was saturated (R38). -/
def adjustmentClamped (a : Nat) (delta : Int) : Bool :=
  (a : Int) + delta < 0 || (Config.fullAperture : Int) < (a : Int) + delta

/-- The record of slot `k` replaced by `r` in its place: handle, age and lists are kept. -/
def DemandTable.rewrite (t : DemandTable) (k : Nat) (r : DemandRecord) : DemandTable :=
  { t with slots := t.slots.set k { gen := (t.handleOf k).gen, record := some r } }

/-! ### Timers (R44 to R46) -/

/-- A function over slots and their numbers. -/
def mapSlots (f : Nat → Slot → Slot) (k : Nat) : List Slot → List Slot
  | [] => []
  | sl :: rest => f k sl :: mapSlots f (k + 1) rest

/-- The heads of all rank lists. -/
def DemandTable.heads (t : DemandTable) : List Handle := t.lists.filterMap List.head?

/-- The wait remaining of every record that heads a list is its full limit (R45). -/
def DemandTable.restoreWaits (t : DemandTable) : DemandTable :=
  { t with slots := mapSlots (fun k sl =>
      match sl.record with
      | some r =>
        if t.heads.contains { slot := k, gen := sl.gen } then
          { sl with record := some { r with waitRemaining := r.waitLimit } }
        else sl
      | none => sl) 0 t.slots }

/-- The count-down of a one-second event: every lifetime remaining, and the wait remaining of every
OUTRANKED record (R46). -/
def DemandTable.countDown (t : DemandTable) : DemandTable :=
  { t with slots := mapSlots (fun k sl =>
      match sl.record with
      | some r =>
        let wait :=
          if t.heads.contains { slot := k, gen := sl.gen } then r.waitRemaining
          else r.waitRemaining.map fun w => w - 1
        let r' : DemandRecord :=
          { r with lifetime := r.lifetime.map (fun l => l - 1), waitRemaining := wait }
        { sl with record := some r' }
      | none => sl) 0 t.slots }

/-- Why a counted-down record is to be retired: EXPIRED before STARVED, or not at all (R46). -/
def doomOf (r : DemandRecord) : Option RetireReason :=
  if r.lifetime = some 0 then some .expired
  else if r.waitRemaining = some 0 then some .starved
  else none

/-- The slots and reasons fixed by a count-down, in ascending slot order (R46). -/
def DemandTable.doomed (t : DemandTable) : List (Nat × RetireReason) :=
  t.usedSlots.filterMap fun k =>
    match t.inSlot k with
    | some r =>
      match doomOf r with
      | some reason => some (k, reason)
      | none => none
    | none => none

/-! ### The end of an operation (R32 steps 7 and 8, R40, R46 to R48, R58) -/

/-- Whether a retirement raises DEMAND_DROPPED for a supervisor's record (R41, R48). -/
def RetireReason.drops : RetireReason → Bool
  | .expired => true
  | .starved => true
  | .yielded => true
  | .evicted => true
  | .retired => false
  | .replaced => false
  | .cleared => false

/-- The DEMAND_DROPPED event a retirement raises (R48). -/
def droppedEvent (x : DemandRecord × RetireReason) : Option Condition :=
  match x.1.source with
  | .supervisor m => if x.2.drops then demandDropped m else none
  | _ => none

/-- The station unit is told that a retired record's station has none (R40, R129). -/
def State.stationGone (s : State) (x : DemandRecord × RetireReason) : State :=
  match x.1.source with
  | .station n =>
    match s.stationOf n with
    | some st => s.setStation n { st with handle := none }
    | none => s
  | _ => s

/-- TABLE_HIGH (R47). -/
def DemandTable.high (t : DemandTable) : Bool := Config.tableHigh ≤ t.count

/-- The openings whose head an operation that took the table from `t` to `t'` changed, and those whose
head it `adjusted`, to another aperture or to the same (R58; notes/assumptions/52.md). -/
def headChanges (t t' : DemandTable) (adjusted : List Nat) : List Nat :=
  openingNumbers.filter fun n => t.head n != t'.head n || adjusted.contains n

/-- The openings whose head is LOCKOUT in `t'` and was not in `t` (R59). -/
def lockoutHeads (t t' : DemandTable) : List Nat :=
  openingNumbers.filter fun n =>
    t'.headClass n == some .lockout && t.headClass n != some .lockout

/-- An operation ends: wait timers are restored, the table stands, the station unit and the condition
unit are told, and the openings to be frozen are marked (R59); the openings the resolver is to be told
of are answered beside the state. -/
def State.endOperation (s : State) (run : DemandRun) (adjusted : List Nat) : State × List Nat :=
  let t := run.table.restoreWaits
  let s1 := run.retired.foldl State.stationGone (s.setDemand t)
  ((s1.report .demandManager (changedLive .tableHigh s.demand.high t.high)
      (run.retired.filterMap droppedEvent)).tellFreezes (lockoutHeads s.demand t),
    headChanges s.demand t adjusted)

/-- An operation ends and the resolver is told (R58). -/
def State.closeOperation (s : State) (run : DemandRun) (adjusted : List Nat) : State :=
  let x := s.endOperation run adjusted
  x.1.tellHeads x.2

/-! ### Operations the fire unit and the station unit ask for -/

/-- A placement by the fire unit, or one the resource test has passed, as one operation (R32). -/
def State.placeRecord (s : State) (r : DemandRecord) : State × Option Handle :=
  let x := s.demand.place r (s.store.covered r.target)
  (s.closeOperation x.1 [], x.2)

/-- The living records of a source, by slot, ascending (R43). -/
def DemandTable.slotsOf (t : DemandTable) (src : Source) : List Nat :=
  t.usedSlots.filter fun k =>
    match t.inSlot k with
    | some r => r.source == src
    | none => false

/-- Every living record of a source is retired CLEARED within one operation (R43). -/
def State.retireSource (s : State) (src : Source) : State :=
  s.closeOperation (s.demand.run.retireAll (s.demand.slotsOf src) .cleared) []

/-- The record of one slot is retired as an operation of its own. -/
def State.retireSlot (s : State) (k : Nat) (reason : RetireReason) : State :=
  s.closeOperation (s.demand.run.retire k reason) []

end Sys2Proof.Machine
end

