-- ==== Sys2Proof/Machine/MoveOps.lean ====
section
/-! DEFINITION. The movement controller's shared operations (08): the evaluation at rest, the grant,
faults and the retry, isolation, rearming, the arbiter, and the end of each of its events. -/
namespace Sys2Proof.Machine

/-! ### Reading an opening -/

/-- The target aperture T the resolver holds for opening `n`. -/
def State.target (s : State) (n : Nat) : Option Nat :=
  match s.result n with
  | some r => some r.target
  | none => none

/-- The distance of two apertures, without sign. -/
def apart (x y : Nat) : Nat := (x - y) + (y - x)

/-- Whether T and a position of opening `n` differ by no more than its deadband (R132). -/
def State.deadbandHolds (s : State) (n : Nat) (position : Option Nat) : Bool :=
  match s.target n, position with
  | some t, some p => apart t p ≤ (s.store.opening n).deadband
  | _, _ => false

/-- Whether opening `n` is within the deadband, by its recorded position (R132). An opening without one
is not. -/
def State.withinDeadband (s : State) (n : Nat) : Bool := s.deadbandHolds n (s.position n)

/-- Whether the latest reply of opening `n` reports motion (R134). -/
def State.reportsMotion (s : State) (n : Nat) : Bool :=
  match s.lastReply n with
  | some r => r.motion != .stopped
  | none => false

/-- A movement record in state `st` with every timer, the direction, the progress fields, the fault
reason and the wait age absent; retry count, order pending and class last told are kept. -/
def MoveRecord.bare (m : MoveRecord) (st : MoveState) : MoveRecord :=
  { m with
    state := st, faultReason := none, direction := none, breakaway := none, deadline := none,
    progressRef := none, progressWindow := none, stopTimer := none, retryTimer := none,
    waitAge := none }

/-! ### Stopping and resting -/

/-- A STOP is queued, the stop timer starts at 3 seconds, and the opening enters STOPPING (R133,
R134, R135, R140). -/
def State.enterStopping (s : State) (n : Nat) : State :=
  match s.move n with
  | some m => (s.setMove n { m.bare .stopping with stopTimer := some 3 }).queueOrder n .stop
  | none => s

/-- The evaluation of an opening in AT_REST, the first step that applies (R134). -/
def State.evaluateAtRest (s : State) (n : Nat) : State :=
  match s.move n with
  | some m =>
    if s.nodeState n ≠ some .online then s
    else if s.reportsMotion n then s.enterStopping n
    else if s.withinDeadband n then s.setMove n { m with retries := 0 }
    else s.setMove n { m.bare .waitSlot with waitAge := some 0 }
  | none => s

/-- The opening enters AT_REST, and entry is an evaluation (R134). -/
def State.enterAtRest (s : State) (n : Nat) : State :=
  match s.move n with
  | some m => (s.setMove n (m.bare .atRest)).evaluateAtRest n
  | none => s

/-- A FAULTED opening returns to AT_REST with fault reason absent and retry count 0, and is evaluated
(R145, R146). -/
def State.returnFaulted (s : State) (n : Nat) : State :=
  match s.move n with
  | some m => (s.setMove n { m.bare .atRest with retries := 0 }).evaluateAtRest n
  | none => s

/-! ### Faults, the retry and isolation (R142, R143, R146) -/

/-- The movement controller reports that the opening has entered FAULTED: its queued order is
discarded (R143, R155). -/
def State.enterFaulted (s : State) (n : Nat) (m : MoveRecord) (reason : FaultReason) : State :=
  (s.setMove n { m.bare .faulted with faultReason := some reason }).withdrawOrder n .discarded

/-- A fault with a reason: slot, timers, direction and progress fields are given up, and the governing
class last told and the retry count decide between RETRY_WAIT and FAULTED (R142, R143). -/
def State.moveFault (s : State) (n : Nat) (reason : FaultReason) : State :=
  match s.move n with
  | some m =>
    if isFireClass m.classTold && reason != .lost && m.retries == 0 then
      let s1 := s.setMove n { m.bare .retryWait with retries := 1, retryTimer := some 10 }
      if s1.nodeState n = some .online then s1.queueOrder n .stop else s1
    else s.enterFaulted n m reason
  | none => s

/-! ### The arbiter (R147, R148) -/

/-- The start budget (R147). -/
def State.startBudget (s : State) : Nat :=
  if s.weather.lowSupply then s.store.movement.value.lowBudget
  else s.store.movement.value.normalBudget

/-- Whether LOW_SUPPLY lets a class start: LOCKOUT, SMOKE and FIREMAN (R148). -/
def startsUnderLowSupply : Option DemandClass → Bool
  | some .lockout => true
  | some .smoke => true
  | some .fireman => true
  | _ => false

/-- Whether opening `n` waits and is eligible (R148). -/
def State.eligible (s : State) (n : Nat) : Bool :=
  match s.move n with
  | some m =>
    m.state == .waitSlot && s.nodeState n == some .online &&
      (!s.weather.lowSupply || startsUnderLowSupply m.classTold)
  | none => false

/-- The standing of a waiting opening: its rank, then its wait age (R148). -/
def State.standing (s : State) (n : Nat) : Nat × Nat :=
  match s.move n with
  | some m => (rankOf m.classTold, m.waitAge.getD 0)
  | none => (0, 0)

/-- Whether one standing is served before another: higher rank, then larger wait age (R148). -/
def standsAhead (x y : Nat × Nat) : Bool :=
  y.1 < x.1 || (x.1 == y.1 && y.2 < x.2)

/-- The eligible opening to be granted: of equal standings the lowest number (R148). -/
def State.choice (s : State) : Option Nat :=
  (openingNumbers.filter s.eligible).foldl
    (fun best n =>
      match best with
      | none => some n
      | some b => if standsAhead (s.standing n) (s.standing b) then some n else some b)
    none

/-- The travel deadline: the breakaway time, plus the ceiling of d × stroke time × 3 / 2000, plus 5
seconds (R136). -/
def travelDeadline (e : OpeningEntry) (d : Nat) : Nat :=
  e.breakawayTime + (d * e.strokeTime * 3 + 1999) / 2000 + 5

/-- The grant of a start slot to opening `n` (R136). -/
def State.grant (s : State) (n : Nat) : State :=
  match s.move n, s.target n with
  | some m, some t =>
    let p := (s.position n).getD 0
    let e := s.store.opening n
    (s.setMove n { m.bare .breakaway with
      direction := some (if p < t then .up else .down)
      breakaway := some e.breakawayTime
      deadline := some (travelDeadline e (apart t p)) }).queueOrder n (.move t)
  | _, _ => s

/-- Whether a grant may be made: BREAKAWAY holds fewer openings than the start budget (R147). -/
def State.slotFree (s : State) : Bool := s.breakawayOpenings.length < s.startBudget

/-- One grant, where a slot is free and an eligible opening waits. -/
def State.grantOne (s : State) : Option State :=
  if s.slotFree then
    match s.choice with
    | some n => some (s.grant n)
    | none => none
  else none

/-- Grants one at a time while they can be made; at most 48 openings wait. -/
def State.grantUpTo (fuel : Nat) (s : State) : State :=
  match fuel with
  | 0 => s
  | k + 1 =>
    match s.grantOne with
    | some s' => State.grantUpTo k s'
    | none => s

/-- The arbiter grants start slots (R148). -/
def State.grantAll (s : State) : State := State.grantUpTo Config.openingCount s

/-! ### The end of an event of the movement controller (R132) -/

/-- OPENING_FAULT is live while any opening is FAULTED (R143). -/
def State.anyFaulted (s : State) : Bool :=
  openingNumbers.any fun n => s.moveState n == some .faulted

/-- START_WAIT is live while an opening in WAIT_SLOT has a wait age above 60 seconds (R149). -/
def State.startWait (s : State) : Bool :=
  openingNumbers.any fun n =>
    match s.move n with
    | some m => m.state == .waitSlot && Config.startWaitSeconds < m.waitAge.getD 0
    | none => false

/-- The openings whose movement state differs between two states, ascending. -/
def movedOpenings (s s' : State) : List Nat :=
  openingNumbers.filter fun n => s.moveState n != s'.moveState n

/-- Whether some opening entered FAULTED between two states (R143). -/
def enteredFaulted (s s' : State) : Bool :=
  openingNumbers.any fun n =>
    s'.moveState n == some .faulted && s.moveState n != some .faulted

/-- The fire unit is told of the openings whose movement state changed since `before`, and the
condition unit of OPENING_FAULT and START_WAIT (R123, R132). -/
def State.announceMoves (s before : State) : State :=
  (s.evalLampsOf (s.zonesOf (movedOpenings before s))).report .movementController
    (changedLive .openingFault before.anyFaulted s.anyFaulted ++
      changedLive .startWait before.startWait s.startWait)
    (raisedIf .openingFault (enteredFaulted before s) ++
      raisedIf .startWait (!before.startWait && s.startWait))

/-- The end of an event that began in `before`: the fire unit and the condition unit are told, and
then the arbiter grants, which is announced in the same way (R132). -/
def State.endMoveEvent (s before : State) : State :=
  let s1 := s.announceMoves before
  let s2 := s1.grantAll
  s2.announceMoves s1

end Sys2Proof.Machine
end

