-- ==== Sys2Proof/Machine/Movement.lean ====
section
/-! DEFINITION. The movement controller's events (08) and the meanings of its commands. Each told
event waits in the mail until its command takes it, of one opening and kind the oldest first
(notes/assumptions/4.md). -/
namespace Sys2Proof.Machine

/-! ### What each event does to its opening, before the end of the event -/

/-- Whether `t` lies ahead of the position, in the direction of the move, by more than the deadband
(R140). -/
def State.liesAhead (s : State) (n : Nat) (m : MoveRecord) (t : Nat) : Bool :=
  let p := (s.position n).getD 0
  let band := (s.store.opening n).deadband
  match m.direction with
  | some .up => p + band < t
  | some .down => t + band < p
  | none => false

/-- A new T ahead of the position by more than the deadband is followed by a MOVE; any other stops
the opening (R140). -/
def State.retarget (s : State) (n : Nat) (m : MoveRecord) (t : Nat) : State :=
  if s.liesAhead n m t then s.queueOrder n (.move t) else s.enterStopping n

/-- Whether a target event rearms a FAULTED opening: the class rises to SMOKE or FIREMAN, and the
opening is not FAULTED LOST with its node still LOST (R146). -/
def State.rearms (s : State) (n : Nat) (m : MoveRecord) (cls : Option DemandClass) : Bool :=
  isFireClass cls && !isFireClass m.classTold &&
    !(m.faultReason == some .lost && s.nodeState n == some .lost)

/-- A target event acts by movement state (R133 to R135, R140, R141, R144, R146). -/
def State.onTarget (s : State) (e : TargetTold) : State :=
  match s.move e.opening with
  | some m =>
    let s1 := s.setMove e.opening { m with classTold := e.cls }
    match m.state with
    | .atRest => s1.evaluateAtRest e.opening
    | .waitSlot => if s1.withinDeadband e.opening then s1.enterAtRest e.opening else s1
    | .breakaway => if e.changed then s1.retarget e.opening m e.target else s1
    | .travel => if e.changed then s1.retarget e.opening m e.target else s1
    | .faulted => if s.rearms e.opening m e.cls then s1.returnFaulted e.opening else s1
    | .unknown => s1
    | .stopping => s1
    | .retryWait => s1
  | none => s

/-- A reply in TRAVEL, the first step that applies (R138). -/
def State.onReplyTravel (s : State) (r : ReplyTold) (m : MoveRecord) : State :=
  if r.isolated then s.enterAtRest r.opening
  else if r.overcurrent then s.moveFault r.opening .jammed
  else if r.motion = .stopped ∧ s.withinDeadband r.opening = true then s.enterAtRest r.opening
  else if r.motion = .stopped ∧ m.orderPending = false then s.moveFault r.opening .stalled
  else s

/-- A reply acts by movement state (R133 to R135, R137, R138, R141, R144, R146). -/
def State.onReply (s : State) (r : ReplyTold) : State :=
  match s.move r.opening with
  | some m =>
    match m.state with
    | .unknown =>
      if r.isolated then s.enterAtRest r.opening
      else if r.motion = .stopped then s.enterAtRest r.opening
      else s.enterStopping r.opening
    | .atRest => if r.isolated then s else s.evaluateAtRest r.opening
    | .waitSlot =>
      if r.isolated then s.enterAtRest r.opening
      else if r.motion ≠ .stopped then s.enterStopping r.opening
      else if s.withinDeadband r.opening then s.enterAtRest r.opening
      else s
    | .breakaway =>
      if r.isolated then s.enterAtRest r.opening
      else if r.overcurrent then s.moveFault r.opening .jammed
      else s
    | .travel => s.onReplyTravel r m
    | .stopping =>
      if r.isolated then s.enterAtRest r.opening
      else if r.motion = .stopped then s.enterAtRest r.opening
      else s
    | .retryWait => if r.isolated then s.enterAtRest r.opening else s
    | .faulted => s
  | none => s

/-- Whether an order for opening `n` whose outcome is still to be reported is queued or in flight; a
superseded order's never is (R131, R154). -/
def Bus.orderOutstanding (b : Bus) (n : Nat) : Bool :=
  hasOrder b.queue n ||
    (match b.inFlight with
    | some f => f.order.opening == n && !f.superseded
    | none => false)

/-- An order outcome sets order pending to no (R132), where no later order for the opening is still
outstanding (R131, R154; DEDUCED, notes/assumptions/29.md). -/
def State.onOutcome (s : State) (o : OutcomeTold) : State :=
  match s.move o.opening with
  | some m => s.setMove o.opening { m with orderPending := s.bus.orderOutstanding o.opening }
  | none => s

/-- A node lost event (R142). -/
def State.onLost (s : State) (n : Nat) : State :=
  match s.moveState n with
  | some .breakaway => s.moveFault n .lost
  | some .travel => s.moveFault n .lost
  | some .stopping => s.moveFault n .lost
  | _ => s

/-! ### The one-second event (R132) -/

/-- The breakaway timer has run out: the slot is released, the progress reference is the position, the
progress window starts at 5 seconds, and the opening enters TRAVEL (R137). -/
def State.endBreakaway (s : State) (n : Nat) : State :=
  match s.move n with
  | some m => s.setMove n { m with
      state := .travel, breakaway := none, progressRef := some ((s.position n).getD 0),
      progressWindow := some 5 }
  | none => s

/-- Whether the position has moved 10 au or more since the reference, in the direction of the move
(R139). -/
def headwayMade (m : MoveRecord) (p : Nat) : Bool :=
  match m.direction with
  | some .up => m.progressRef.getD 0 + 10 ≤ p
  | some .down => p + 10 ≤ m.progressRef.getD 0
  | none => false

/-- The position that a one-second event judges: while a reply of opening `n` waits, that of the reply
before the oldest one waiting, and otherwise the recorded position (R139). -/
def State.judgedPosition (s : State) (n : Nat) : Option Nat :=
  match s.mail.replies.find? fun e => e.opening == n with
  | some e => e.before
  | none => s.position n

/-- The progress window has run out: the headway is judged (R139). -/
def State.judgeHeadway (s : State) (n : Nat) : State :=
  match s.move n with
  | some m =>
    let p := (s.judgedPosition n).getD 0
    if s.deadbandHolds n (s.judgedPosition n) || headwayMade m p then
      s.setMove n { m with progressRef := some p, progressWindow := some 5 }
    else s.moveFault n .stalled
  | none => s

/-- A timer one second on. -/
def countDown (t : Option Nat) : Option Nat :=
  match t with
  | some k => some (k - 1)
  | none => none

/-- Whether a timer runs out at this second. -/
def runsOut (t : Option Nat) : Bool :=
  match t with
  | some k => k ≤ 1
  | none => false

/-- Opening `n` at a one-second event (R132, R135, R137, R139, R141, R144). -/
def State.moveSecond (s : State) (n : Nat) : State :=
  match s.move n with
  | some m =>
    match m.state with
    | .waitSlot =>
      s.setMove n { m with waitAge := some (min (m.waitAge.getD 0 + 1) Config.waitAgeMax) }
    | .breakaway =>
      let s1 := s.setMove n
        { m with breakaway := countDown m.breakaway, deadline := countDown m.deadline }
      if runsOut m.breakaway then s1.endBreakaway n else s1
    | .travel =>
      let s1 := s.setMove n
        { m with deadline := countDown m.deadline, progressWindow := countDown m.progressWindow }
      if runsOut m.deadline then s1.moveFault n .overtime
      else if runsOut m.progressWindow then s1.judgeHeadway n
      else s1
    | .stopping =>
      if runsOut m.stopTimer then s.moveFault n .noStop
      else s.setMove n { m with stopTimer := countDown m.stopTimer }
    | .retryWait =>
      if runsOut m.retryTimer then s.enterAtRest n
      else s.setMove n { m with retryTimer := countDown m.retryTimer }
    | .unknown => s
    | .atRest => s
    | .faulted => s
  | none => s

/-! ### Events that reach the movement controller within another block's command -/

/-- The openings of a zone that a fire reset returned to NORMAL: each FAULTED one is returned
(R146). -/
def State.fireResetMoves (s : State) (ns : List Nat) : State :=
  (ns.foldl
    (fun t n => if t.moveState n = some .faulted then t.returnFaulted n else t) s).endMoveEvent s

/-- LOW_SUPPLY was entered or left, or the movement block was written: grants follow (R149). -/
def State.budgetsTaken (s : State) : State := s.endMoveEvent s

/-- The entry of opening `n` was written and it stays enabled: an opening in AT_REST or WAIT_SLOT is
judged again at once (R150), and the event ends in every state (R132). -/
def State.entryJudged (s : State) (n : Nat) : State :=
  (match s.moveState n with
    | some .atRest => s.evaluateAtRest n
    | some .waitSlot => if s.withinDeadband n then s.enterAtRest n else s
    | _ => s).endMoveEvent s

/-! ### The meanings -/

/-- TARGET_EVENT: the oldest target told for opening `n` is taken (R132). -/
def execTargetEvent (n : Nat) (s : State) : Host.Outcome State Fault Refusal :=
  if isOpening n then
    match takeFirst (fun e => e.opening == n) s.mail.targets with
    | some (e, rest) =>
      let s1 := s.setMail { s.mail with targets := rest }
      .next ((s1.onTarget e).endMoveEvent s1)
    | none => .next s
  else .fault .noSuchOpening

/-- MOVEMENT_REPLY: the oldest reply handed on for opening `n` is taken (R138). -/
def execMovementReply (n : Nat) (s : State) : Host.Outcome State Fault Refusal :=
  if isOpening n then
    match takeFirst (fun e => e.opening == n) s.mail.replies with
    | some (r, rest) =>
      let s1 := s.setMail { s.mail with replies := rest }
      .next ((s1.onReply r).endMoveEvent s1)
    | none => .next s
  else .fault .noSuchOpening

/-- ORDER_OUTCOME: the oldest outcome told for opening `n` is taken (R132). -/
def execOrderOutcome (n : Nat) (s : State) : Host.Outcome State Fault Refusal :=
  if isOpening n then
    match takeFirst (fun e => e.opening == n) s.mail.outcomes with
    | some (o, rest) =>
      let s1 := s.setMail { s.mail with outcomes := rest }
      .next ((s1.onOutcome o).endMoveEvent s1)
    | none => .next s
  else .fault .noSuchOpening

/-- NODE_LOST_EVENT: the oldest node lost event of opening `n` is taken (R142). -/
def execNodeLostEvent (n : Nat) (s : State) : Host.Outcome State Fault Refusal :=
  if isOpening n then
    match takeFirst (fun e => e == n) s.mail.lost with
    | some (_, rest) =>
      let s1 := s.setMail { s.mail with lost := rest }
      .next ((s1.onLost n).endMoveEvent s1)
    | none => .next s
  else .fault .noSuchOpening

/-- MOVEMENT_TICK: every opening's second in ascending order, and the end of the event (R132). -/
def execMovementTick (s : State) : Host.Outcome State Fault Refusal :=
  .next ((openingNumbers.foldl State.moveSecond s).endMoveEvent s)

/-- BREAKAWAY_END: the breakaway timer of opening `n` runs out (R137). It does so where the opening is
in BREAKAWAY with its last second left; otherwise nothing happens (notes/assumptions/3.md). -/
def execBreakawayEnd (n : Nat) (s : State) : Host.Outcome State Fault Refusal :=
  if isOpening n then
    match s.move n with
    | some m =>
      if m.state = .breakaway ∧ runsOut m.breakaway = true then
        .next ((s.endBreakaway n).endMoveEvent s)
      else .next s
    | none => .next s
  else .fault .noSuchOpening

/-- OVERTIME: the travel deadline of opening `n` runs out in TRAVEL (R139). -/
def execOvertime (n : Nat) (s : State) : Host.Outcome State Fault Refusal :=
  if isOpening n then
    match s.move n with
    | some m =>
      if m.state = .travel ∧ runsOut m.deadline = true then
        .next ((s.moveFault n .overtime).endMoveEvent s)
      else .next s
    | none => .next s
  else .fault .noSuchOpening

/-- PROGRESS_WINDOW_END: the progress window of opening `n` runs out in TRAVEL, and the headway is
judged while its deadline still runs; where that runs out with it, the opening faults OVERTIME
(R139). -/
def execProgressWindowEnd (n : Nat) (s : State) : Host.Outcome State Fault Refusal :=
  if isOpening n then
    match s.move n with
    | some m =>
      if m.state = .travel ∧ runsOut m.progressWindow = true then
        .next ((if runsOut m.deadline then s.moveFault n .overtime
          else s.judgeHeadway n).endMoveEvent s)
      else .next s
    | none => .next s
  else .fault .noSuchOpening

/-- NO_STOP: the stop timer of opening `n` runs out in STOPPING (R141). -/
def execNoStop (n : Nat) (s : State) : Host.Outcome State Fault Refusal :=
  if isOpening n then
    match s.move n with
    | some m =>
      if m.state = .stopping ∧ runsOut m.stopTimer = true then
        .next ((s.moveFault n .noStop).endMoveEvent s)
      else .next s
    | none => .next s
  else .fault .noSuchOpening

/-- RETRY_TIMER_END: the retry timer of opening `n` runs out, and the opening enters AT_REST to be
evaluated (R144). -/
def execRetryTimerEnd (n : Nat) (s : State) : Host.Outcome State Fault Refusal :=
  if isOpening n then
    match s.move n with
    | some m =>
      if m.state = .retryWait ∧ runsOut m.retryTimer = true then
        .next ((s.enterAtRest n).endMoveEvent s)
      else .next s
    | none => .next s
  else .fault .noSuchOpening

/-- START_WAIT_RISE: the wait age of opening `n` passes 60 seconds (R149). -/
def execStartWaitRise (n : Nat) (s : State) : Host.Outcome State Fault Refusal :=
  if isOpening n then
    match s.move n with
    | some m =>
      if m.state = .waitSlot ∧ m.waitAge = some Config.startWaitSeconds then
        .next ((s.setMove n
          { m with waitAge := some (Config.startWaitSeconds + 1) }).endMoveEvent s)
      else .next s
    | none => .next s
  else .fault .noSuchOpening

/-- SLOT_GRANT: the arbiter grants one start slot, where a slot is free and an eligible opening waits
(R136, R148). DESIGN CHOICE: R148 grants at the end of each event of the movement controller, which every
such event does within its own command; the row by itself may act at any time
(notes/assumptions/48.md). -/
def execSlotGrant (s : State) : Host.Outcome State Fault Refusal :=
  match s.grantOne with
  | some s' => .next (s'.announceMoves s)
  | none => .next s

end Sys2Proof.Machine
end

