-- ==== Sys2Proof/Machine/Fire.lean ====
section
/-! DEFINITION. The fire unit (06): zone lines, zone states, the scenario engine, the fireman
switches, the fire reset, and the meanings of their commands. -/
namespace Sys2Proof.Machine

/-! ### Zone lines (R106, R107) -/

/-- A count sorted by three boundaries: below `a` SHORT, below `b` ALARM, below `c` NORMAL, else
OPEN. -/
def sortCount (a b c : Nat) (count : Nat) : LineClass :=
  if count < a then .short
  else if count < b then .alarm
  else if count < c then .normal
  else .openCircuit

/-- The class of a sample, the boundaries of the accepted class moved 16 counts outward (R106). -/
def sampleClass (accepted : Option LineClass) (count : Nat) : LineClass :=
  match accepted with
  | none => sortCount 60 400 800 count
  | some .short => sortCount 76 400 800 count
  | some .alarm => sortCount 44 416 800 count
  | some .normal => sortCount 60 384 816 count
  | some .openCircuit => sortCount 60 400 784 count

/-! ### What the fire unit reports (R120) -/

/-- ZONE_ALARM is live while any zone is in ALARM or LATCHED. -/
def FireUnit.alarmHeld (f : FireUnit) : Bool :=
  f.zones.any fun r => r.state == .alarm || r.state == .latched

/-- ZONE_LINE_FAULT is live while any zone is in FAULT or any line-fault flag is set. -/
def FireUnit.lineFaulted (f : FireUnit) : Bool :=
  f.zones.any fun r => r.state == .fault || r.lineFault

/-- Whether zone `z` entered ALARM from NORMAL or FAULT, by way of an enabling too (R111, R120). -/
def enteredAlarm (f f' : FireUnit) (z : Nat) : Bool :=
  match nth f.zones z, nth f'.zones z with
  | some r, some r' => r'.state == .alarm && r.state != .alarm && r.state != .latched
  | _, _ => false

/-- Whether zone `z` entered FAULT, or its line-fault flag was set from clear (R120). -/
def enteredLineFault (f f' : FireUnit) (z : Nat) : Bool :=
  match nth f.zones z, nth f'.zones z with
  | some r, some r' =>
    (r'.state == .fault && r.state != .fault) || (r'.lineFault && !r.lineFault)
  | _, _ => false

/-- An event of the fire unit that began in `before` ends: the lamps of the zones named are evaluated
and the condition unit is told (R109, R120, R123). -/
def State.endFireEvent (s before : State) (zs : List Nat) : State :=
  (s.evalLampsOf zs).report .fireUnit
    (changedLive .zoneAlarm before.fire.alarmHeld s.fire.alarmHeld ++
      changedLive .zoneLineFault before.fire.lineFaulted s.fire.lineFaulted)
    (raisedIf .zoneAlarm (zoneNumbers.any (enteredAlarm before.fire s.fire)) ++
      raisedIf .zoneLineFault (zoneNumbers.any (enteredLineFault before.fire s.fire)))

/-! ### The scenario engine (R112) -/

/-- The SMOKE record of one scenario step. -/
def smokeRecord (z : Nat) (x : ScenarioStep) : DemandRecord :=
  { source := .scenario z, cls := .smoke, target := .group x.group, aperture := some x.aperture,
    mode := .hold, lifetime := none, waitLimit := none, waitRemaining := none }

/-- The scenario placements of zone `z` that wait, in step order (R112). -/
def Mail.stepsOf (m : Mail) (z : Nat) : List ScenarioStep :=
  (m.steps.filter fun x => x.zone == z).map StepTold.step

/-- The demand manager takes the waiting placements of zone `z` in step order, each an operation of its
own, but for the last `left`, which go on waiting (R112, note 2; DESIGN CHOICE,
notes/assumptions/27.md). -/
def State.takeSteps (s : State) (z left : Nat) : State :=
  let xs := s.mail.stepsOf z
  let k := xs.length - left
  let s1 := s.setMail { s.mail with steps := s.mail.steps.filter fun x => x.zone != z }
  (xs.take k).foldl (fun t x => (t.placeRecord (smokeRecord z x)).1) (s1.tellSteps z (xs.drop k))

/-- The scenario in effect is handed over, one placement for each step in step order, and all but the
last `left` are taken (R112). -/
def State.placeScenario (s : State) (z left : Nat) : State :=
  (s.tellSteps z (s.store.scenario z)).takeSteps z left

/-! ### Zone states (R109, R110) -/

/-- SHORT and OPEN, the classes of a line fault. -/
def LineClass.isFault : LineClass → Bool
  | .short => true
  | .openCircuit => true
  | _ => false

/-- The zone record after an acceptance of class `c` (R109): the table of that rule. -/
def Zone.afterAcceptance (r : Zone) (c : LineClass) : Zone :=
  match r.state with
  | .normal =>
    match c with
    | .alarm => { r with state := .alarm, lineFault := false }
    | .normal => r
    | _ => { r with state := .fault }
  | .fault =>
    match c with
    | .alarm => { r with state := .alarm, lineFault := false }
    | .normal => { r with state := .normal }
    | _ => r
  | .alarm =>
    match c with
    | .alarm => { r with lineFault := false }
    | .normal => { r with state := .latched, lineFault := false }
    | _ => { r with lineFault := true }
  | .latched =>
    match c with
    | .alarm => { r with state := .alarm, lineFault := false }
    | .normal => { r with lineFault := false }
    | _ => { r with lineFault := true }
  | .disabled => r

/-- An acceptance of class `c` moves zone `z`, and a zone entering ALARM from NORMAL or FAULT has its
scenario placed, but for the last `left` placements, which wait (R109, R112). -/
def State.zoneTransition (s : State) (z : Nat) (c : LineClass) (left : Nat) : State :=
  match s.zone z with
  | some r =>
    let s1 := s.setZone z (r.afterAcceptance c)
    if c = .alarm ∧ (r.state = .normal ∨ r.state = .fault) then s1.placeScenario z left else s1
  | none => s

/-- Zone `z` accepts class `c`: the candidate is cleared, the count is 0, and the acceptance is handed
to the zone state machine within the event (R107). -/
def State.acceptLine (s : State) (z : Nat) (c : LineClass) (left : Nat) : State :=
  match s.zone z with
  | some r =>
    ((s.setZone z { r with accepted := some c, candidate := none, agreement := 0 }).zoneTransition
      z c left).endFireEvent s [z]
  | none => s

/-- A sample of zone `z`'s line, classified and passed to the debounce; an acceptance that it completes
places its whole scenario within the command (R105 to R107; notes/assumptions/27.md). -/
def State.sampleLine (s : State) (z : Nat) (count : BitVec 10) : State :=
  match s.zone z with
  | some r =>
    let c := sampleClass r.accepted count.toNat
    let r1 := { r with count := count }
    if r.accepted = some c then s.setZone z { r1 with candidate := none, agreement := 0 }
    else if r.candidate = some c then
      if 3 ≤ r.agreement + 1 then (s.setZone z r1).acceptLine z c 0
      else s.setZone z { r1 with agreement := r.agreement + 1 }
    else s.setZone z { r1 with candidate := some c, agreement := 1 }
  | none => s

/-! ### Fireman switches (R114, R115) -/

/-- The reading of a switch from its two contacts (R114). -/
def switchReading (openMade closeMade : Bool) : SwitchPos :=
  match openMade, closeMade with
  | false, false => .auto
  | true, false => .openPos
  | false, true => .closePos
  | true, true => .invalid

/-- The FIREMAN record of zone `z` (R115). -/
def firemanRecord (z aperture : Nat) : DemandRecord :=
  { source := .fireman z, cls := .fireman, target := .zone z, aperture := some aperture,
    mode := .hold, lifetime := none, waitLimit := none, waitRemaining := none }

/-- What a newly accepted position asks of the demand manager (R115). -/
def State.actOnSwitch (s : State) (z : Nat) : SwitchPos → State
  | .openPos => (s.placeRecord (firemanRecord z Config.fullAperture)).1
  | .closePos => (s.placeRecord (firemanRecord z 0)).1
  | .auto => s.retireSource (.fireman z)
  | .invalid => s

/-- The debounce timer of zone `z`'s switch has run out (R114). -/
def State.acceptSwitch (s : State) (z : Nat) (r : Zone) : State :=
  let p := switchReading r.openMade r.closeMade
  let s1 := s.setZone z { r with switchTimer := none }
  if p = .invalid ∨ p = r.switchPos then s1
  else
    ((s.setZone z { r with switchTimer := none, switchPos := p }).actOnSwitch z p).endFireEvent s [z]

/-! ### The fire reset (R116, R118) -/

/-- The zones a fire reset judges LATCHED, ascending (R118). -/
def State.latchedZones (s : State) : List Nat :=
  zoneNumbers.filter fun z =>
    match s.zone z with
    | some r => r.state == .latched
    | none => false

/-- Steps 1 to 4 of R118 for one LATCHED zone. A placement of its scenario that still waits was handed
over before, and is taken before its records are retired (R112, R113). -/
def State.resetZone (s : State) (z : Nat) : State :=
  match s.zone z with
  | some r =>
    let s1 := (s.setZone z { r with state := .normal, lineFault := false }).takeSteps z 0
    let s2 := s1.retireSource (.scenario z)
    let s3 := s2.fireResetMoves (s2.store.zoneOpenings z)
    match r.accepted with
    | some c => s3.zoneTransition z c 0
    | none => s3
  | none => s

/-- One fire reset (R118). -/
def State.fireReset (s : State) : State :=
  (s.latchedZones.foldl State.resetZone s).endFireEvent s s.latchedZones

/-! ### Entry writes (R111) -/

/-- The fire unit takes a completed write of zone `z`'s entry; a scenario that it starts leaves its last
`left` placements waiting (R111, R112). -/
def State.zoneWritten (s : State) (z : Nat) (enabled : Bool) (left : Nat) : State :=
  match s.zone z with
  | some r =>
    match r.state, enabled with
    | .normal, false => (s.setZone z { r with state := .disabled }).endFireEvent s [z]
    | .fault, false => (s.setZone z { r with state := .disabled }).endFireEvent s [z]
    | .disabled, true =>
      let s1 := s.setZone z { r with state := .normal }
      (match r.accepted with
        | some c => s1.zoneTransition z c left
        | none => s1).endFireEvent s [z]
    | _, _ => s
  | none => s

/-! ### The meanings -/

/-- ZONE_LINE_SAMPLE (R105). -/
def execZoneLineSample (z : Nat) (count : BitVec 10) (s : State) :
    Host.Outcome State Fault Refusal :=
  if isZone z then .next (s.sampleLine z count) else .fault .noSuchZone

/-- The candidate of zone `z`, where two samples have agreed on it and a third would accept it
(R107). -/
def Zone.due (r : Zone) : Option LineClass :=
  if 3 ≤ r.agreement + 1 then r.candidate else none

/-- LINE_ACCEPTANCE: placements of the zone's scenario that wait are taken on (R112), and the agreement
count reaches 3 and the candidate becomes the accepted class, where two samples have agreed (R107);
otherwise nothing happens (notes/assumptions/3.md). Of the zone's placements the last `left` wait
(notes/assumptions/27.md). -/
def execLineAcceptance (z : Nat) (s : State) (left : Nat := 0) :
    Host.Outcome State Fault Refusal :=
  if isZone z then
    let s1 := s.takeSteps z left
    match s1.zone z with
    | some r =>
      match r.due with
      | some c => .next (s1.acceptLine z c left)
      | none => .next s1
    | none => .next s1
  else .fault .noSuchZone

/-- FLASH_TIMEBASE: the common timebase steps on (R122). -/
def execFlashTimebase (s : State) : Host.Outcome State Fault Refusal :=
  .next (s.setFire { s.fire with phase := (s.fire.phase + 1) % 8 })

/-- FIREMAN_SWITCH_CHANGE: a change of reading restarts the debounce timer at 200 milliseconds
(R114). -/
def execFiremanSwitchChange (z : Nat) (openMade closeMade : Bool) (s : State) :
    Host.Outcome State Fault Refusal :=
  if isZone z then
    match s.zone z with
    | some r =>
      if r.openMade = openMade ∧ r.closeMade = closeMade then .next s
      else .next (s.setZone z
        { r with openMade := openMade, closeMade := closeMade, switchTimer := some 200 })
    | none => .next s
  else .fault .noSuchZone

/-- SWITCH_ACCEPTANCE: the debounce timer, where it runs, runs out (R114). -/
def execSwitchAcceptance (z : Nat) (s : State) : Host.Outcome State Fault Refusal :=
  if isZone z then
    match s.zone z with
    | some r => if r.switchTimer.isSome then .next (s.acceptSwitch z r) else .next s
    | none => .next s
  else .fault .noSuchZone

/-- RESET_KEY_CHANGE: a change of the contact restarts the timer at 200 milliseconds (R116). -/
def execResetKeyChange (made : Bool) (s : State) : Host.Outcome State Fault Refusal :=
  if s.fire.keyMade = made then .next s
  else .next (s.setFire { s.fire with keyMade := made, keyTimer := some 200 })

/-- RESET_KEY_ACCEPTANCE: the timer, where it runs, runs out; an acceptance of pressed carries out
one fire reset (R116). -/
def execResetKeyAcceptance (s : State) : Host.Outcome State Fault Refusal :=
  if s.fire.keyTimer.isSome then
    let s1 := s.setFire { s.fire with keyTimer := none, keyPressed := s.fire.keyMade }
    if s.fire.keyMade = true ∧ s.fire.keyPressed = false then .next s1.fireReset else .next s1
  else .next s

end Sys2Proof.Machine
end

