-- ==== Sys2Proof/Machine/Resolver.lean ====
section
/-! DEFINITION. The resolver (05): the windward test, the computation of an opening's result, its
recomputation as an event, and the meaning of RESOLVER_RECOMPUTE. -/
namespace Sys2Proof.Machine

/-! ### Windward status and profile (R90) -/

/-- Whether an opening stands windward of the held direction (R90). -/
def windwardOf (e : OpeningEntry) (heldDir : Option Nat) (halfSector : Nat) : Bool :=
  match e.exposure, heldDir with
  | .facade, some d => angularDistance e.facing d ≤ halfSector
  | _, _ => false

/-- The wind profile of an opening (R90). -/
def profileOf (e : OpeningEntry) (heldDir : Option Nat) (halfSector : Nat) : Profile :=
  match e.exposure with
  | .flat => .flat
  | .facade => if windwardOf e heldDir halfSector then .windward else .leeward

/-! ### Quantisation (R59, R102) -/

/-- The multiple of the step nearest to `x`, halves upward, less one step where it exceeds the stroke
limit (R59, R102). -/
def quantise (e : OpeningEntry) (x : Nat) : Nat :=
  let q := e.step * ((x + e.step / 2) / e.step)
  if e.limit < q then q - e.step else q

/-- The direction of quantisation (R102). -/
def roundingOf (x q : Nat) : Rounding :=
  if q = x then .exact else if x < q then .up else .down

/-! ### The frozen aperture (R59 to R61) -/

/-- The aperture a LOCKOUT freezes an opening at when it comes to the head: the last reported
position, bounded and quantised, where the node is ONLINE or ISOLATED; the target as it stood where
the node is LOST or UNPOLLED (R59). That target is bounded and quantised too, which changes it only
where the entry has been written since it was computed (R61). -/
def State.freeze (s : State) (n : Nat) (previous : Nat) : Nat :=
  let e := s.store.opening n
  match s.node n with
  | some d =>
    match d.state, d.lastReply with
    | .online, some r => quantise e (min r.position e.limit)
    | .isolated, some r => quantise e (min r.position e.limit)
    | _, _ => quantise e (min previous e.limit)
  | none => quantise e (min previous e.limit)

/-! ### The three steps of a recomputation (R98 to R102) -/

/-- The bounds of the comfort classes in the order FROST, RAIN, WIND, LIMIT that settles ties (R99,
R101). `previous` is the previous target, none for an opening just enabled (R103). -/
def State.comfortBounds (s : State) (n : Nat) (p : Profile) (previous : Option Nat) :
    List (CapReason × Nat) :=
  let e := s.store.opening n
  (match previous with
    | some t => if s.weather.frost then [(CapReason.frost, t)] else []
    | none => []) ++
  (if s.weather.wet then [(CapReason.rain, e.rain)] else []) ++
  [(CapReason.wind, (s.weather.cap p).held), (CapReason.limit, e.limit)]

/-- The smallest of the requested aperture and the bounds (R99). -/
def boundedBy (a : Nat) (bounds : List (CapReason × Nat)) : Nat :=
  bounds.foldl (fun x b => min x b.2) a

/-- The cap reason of a comfort class: NONE where E equals a, else the first bound that gave E
(R101). -/
def reasonOf (a x : Nat) (bounds : List (CapReason × Nat)) : CapReason :=
  if x = a then .none
  else
    match bounds.find? fun b => b.2 == x with
    | some b => b.1
    | none => .none

/-- The bounded aperture and cap reason of a head of class `cls` that asks `a` (R99, R100, R101).
LOCKOUT takes neither, and does not come here. -/
def State.bound (s : State) (n : Nat) (cls : Option DemandClass) (a : Nat) (windward : Bool)
    (p : Profile) (previous : Option Nat) : Nat × CapReason :=
  let e := s.store.opening n
  match cls with
  | some .fireman => (min a e.limit, if min a e.limit = a then .none else .limit)
  | some .smoke =>
    if windward && s.weather.storm then (0, if a = 0 then .none else .storm)
    else (min a e.limit, if min a e.limit = a then .none else .limit)
  | _ =>
    let bounds := s.comfortBounds n p previous
    (boundedBy a bounds, reasonOf a (boundedBy a bounds) bounds)

/-- The aperture the head of opening `n`'s list asks for, the rest aperture where the list is empty
(R57, R98). -/
def State.requested (s : State) (n : Nat) : Nat :=
  match s.demand.headRecord n with
  | some r => r.aperture.getD 0
  | none => (s.store.opening n).rest

/-- The frozen aperture of an opening headed by LOCKOUT: set where LOCKOUT came to the head and it has
not been set for that since (R59), and otherwise kept in line with the entry (R60, R61). DESIGN CHOICE:
the first recomputation after LOCKOUT came to the head sets it, whatever that recomputation is for, and
the told head change that is taken later does not set it again (notes/assumptions/42.md). -/
def State.frozenFor (s : State) (n : Nat) : Nat :=
  let e := s.store.opening n
  match s.result n with
  | some old =>
    match old.frozen with
    | some f =>
      if s.mail.freezes.contains n then s.freeze n old.target else quantise e (min f e.limit)
    | none => s.freeze n old.target
  | none => s.freeze n e.rest

/-- The result of opening `n` computed from the inputs as they stand (R88, R98). -/
def State.computeResult (s : State) (n : Nat) : OpeningResult :=
  let e := s.store.opening n
  let wind := windwardOf e s.weather.heldDir s.store.weather.value.halfSector
  let prof := profileOf e s.weather.heldDir s.store.weather.value.halfSector
  match s.demand.headClass n with
  | some .lockout =>
    { target := s.frozenFor n, cls := some .lockout, handle := s.demand.head n,
      cap := .none, rounding := .exact, frozen := some (s.frozenFor n),
      windward := wind, profile := prof }
  | cls =>
    let previous : Option Nat :=
      match s.result n with
      | some old => some old.target
      | none => none
    let x := s.bound n cls (s.requested n) wind prof previous
    { target := quantise e x.1, cls := cls,
      handle := (match cls with
        | some _ => s.demand.head n
        | none => none),
      cap := x.2, rounding := roundingOf x.1 (quantise e x.1), frozen := none,
      windward := wind, profile := prof }

/-! ### The event -/

/-- What the movement controller is told of a new result: nothing where T, class and handle are as
they were (R89). -/
def State.tellResult (s : State) (n : Nat) (old : Option OpeningResult) (r : OpeningResult) : State :=
  match old with
  | some o =>
    if o.target = r.target ∧ o.cls = r.cls ∧ o.handle = r.handle then s
    else s.tellTarget
      { opening := n, target := r.target, cls := r.cls, changed := o.target != r.target }
  | none => s.tellTarget { opening := n, target := r.target, cls := r.cls, changed := true }

/-- The frozen aperture of opening `n` is no longer to be set for the head that stands (R59, R60). -/
def State.freezeTaken (s : State) (n : Nat) : State :=
  s.setMail { s.mail with freezes := s.mail.freezes.filter fun k => k != n }

/-- One enabled opening is recomputed; an opening that is not enabled has no result (R86). -/
def State.recomputeOne (s : State) (n : Nat) : State :=
  if s.store.enabled n then
    let r := s.computeResult n
    ((s.setResult n r).tellResult n (s.result n) r).freezeTaken n
  else s

/-- The weather unit judges WEATHER_CLOSE after an event that began in `before` (R96). -/
def State.judgeWeatherClose (s before : State) : State :=
  s.report .weatherUnit (changedLive .weatherClose before.weatherClose s.weatherClose) []

/-- The named openings are recomputed within one event (R88), and the weather unit is told of the
profiles in use (R89, R96). DESIGN CHOICE: where several openings change profile in one event the
weather unit judges WEATHER_CLOSE once for them all, since R88 leaves their order open
(notes/assumptions/44.md). -/
def State.recompute (s : State) (ns : List Nat) : State :=
  (ns.foldl State.recomputeOne s).judgeWeatherClose s

/-- Whether opening `n`'s windward status or profile comes out different (R91). -/
def State.windwardDiffers (s : State) (n : Nat) : Bool :=
  let e := s.store.opening n
  match s.result n with
  | some r =>
    r.windward != windwardOf e s.weather.heldDir s.store.weather.value.halfSector ||
      r.profile != profileOf e s.weather.heldDir s.store.weather.value.halfSector
  | none => false

/-- The windward test after a change of D: each opening whose status or profile changed is recomputed
within the event (R91). -/
def State.retestWindward (s : State) : State :=
  s.recompute (s.store.enabledOpenings.filter s.windwardDiffers)

/-- The openings a told change of weather names (R88). -/
def State.namedBy (s : State) : WeatherTold → List Nat
  | .heldCap p => s.store.enabledOpenings.filter fun n =>
      match s.result n with
      | some r => r.profile == p
      | none => false
  | .rain => s.store.enabledOpenings
  | .frost => s.store.enabledOpenings
  | .storm => s.store.enabledOpenings
  | .firstGate => s.store.enabledOpenings

/-- RESOLVER_RECOMPUTE: the oldest change the teller told is taken as one event (R88). -/
def execResolverRecompute (teller : Teller) (s : State) : Host.Outcome State Fault Refusal :=
  match teller with
  | .demandManager =>
    match s.mail.heads with
    | ns :: rest => .next ((s.setMail { s.mail with heads := rest }).recompute ns)
    | [] => .next s
  | .weatherUnit =>
    match s.mail.weather with
    | w :: rest =>
      let s1 := s.setMail { s.mail with weather := rest }
      .next (s1.recompute (s1.namedBy w))
    | [] => .next s

end Sys2Proof.Machine
end

