-- ==== Sys2Proof/Machine/Flags.lean ====
section
/-! DEFINITION. The outcome flags of PLACE, ADJUST and PROBE (R37) and the flag byte (R174). -/
namespace Sys2Proof.Machine

/-- CAPPED: on some opening the record heads, the cap reason is other than NONE (R37). -/
def State.cappedBy (s : State) (h : Handle) : Bool :=
  (s.demand.headedBy h).any fun n =>
    match s.result n with
    | some r => r.cap != .none
    | none => false

/-- The rounding of the lowest-numbered of the openings covered (R37). -/
def State.roundingAt (s : State) (ns : List Nat) : Rounding :=
  match ns.head? with
  | some n =>
    match s.result n with
    | some r => r.rounding
    | none => .exact
  | none => .exact

/-- The four flags judged on the record and the results after the operation (R37); `ns` are the
openings its target covers. -/
def State.standingFlags (s : State) (h : Handle) (ns : List Nat) (clamped : Bool) : OutcomeFlags :=
  { new := false
    replaced := false
    governs := !(s.demand.headedBy h).isEmpty
    capped := s.cappedBy h
    clamped := clamped
    roundedUp := s.roundingAt ns == .up
    roundedDown := s.roundingAt ns == .down
    retiredOthers := false }

/-- RETIRED_OTHERS: the operation retired a record YIELDED or EVICTED (R37). -/
def retiredOthers (run : DemandRun) : Bool :=
  run.retired.any fun x => x.2 == .yielded || x.2 == .evicted

/-- The flags of a placement that led to the state `s` (R37). -/
def State.placementFlags (s : State) (run : DemandRun) (replaced : Bool) (h : Handle)
    (ns : List Nat) (clamped : Bool) : OutcomeFlags :=
  { s.standingFlags h ns clamped with
    new := !replaced
    replaced := replaced
    retiredOthers := retiredOthers run }

/-- Only CLAMPED can be set in the answer of a PROBE that would be refused (R64). -/
def clampedOnly (clamped : Bool) : OutcomeFlags := { OutcomeFlags.none with clamped := clamped }

/-- The flag byte, NEW in its least significant bit and RETIRED_OTHERS in its most significant
(R174). -/
def OutcomeFlags.toByte (f : OutcomeFlags) : Byte :=
  BitVec.ofBool f.retiredOthers ++ BitVec.ofBool f.roundedDown ++ BitVec.ofBool f.roundedUp ++
    BitVec.ofBool f.clamped ++ BitVec.ofBool f.capped ++ BitVec.ofBool f.governs ++
    BitVec.ofBool f.replaced ++ BitVec.ofBool f.new

end Sys2Proof.Machine
end

