-- ==== Sys2Proof/Machine/Operands.lean ====
section
/-! DEFINITION. The payload fields of the supervisory link (R174, R175): the codes of every
enumeration, the entries as a CONFIGURE brings them and a READ_CONFIG reports them, and the payloads
that the read requests answer with. -/
namespace Sys2Proof.Machine

/-! ### Codes (R174, R175) -/

/-- The class codes. -/
def DemandClass.code : DemandClass → Byte
  | .fireman => 0
  | .smoke => 1
  | .lockout => 2
  | .localUse => 3
  | .comfort => 4
  | .purge => 5

/-- The class a code names. -/
def classOfCode (b : Byte) : Option DemandClass :=
  match b.toNat with
  | 0 => some .fireman
  | 1 => some .smoke
  | 2 => some .lockout
  | 3 => some .localUse
  | 4 => some .comfort
  | 5 => some .purge
  | _ => none

/-- The governing class: 0xFF for NONE. -/
def governingCode : Option DemandClass → Byte
  | some c => c.code
  | none => 0xFF

/-- Source kind and number. -/
def Source.bytes : Source → List Byte
  | .supervisor m => [0, byteOf m]
  | .scenario z => [1, byteOf z]
  | .fireman z => [2, byteOf z]
  | .station n => [3, byteOf n]

/-- The source a kind and a number name, none where the kind is unknown or the number out of its range
(R49). -/
def sourceOf (kind number : Byte) : Option Source :=
  let k := number.toNat
  match kind.toNat with
  | 0 => if isSupervisor k then some (.supervisor k) else none
  | 1 => if isZone k then some (.scenario k) else none
  | 2 => if isZone k then some (.fireman k) else none
  | 3 => if isStation k then some (.station k) else none
  | _ => none

/-- Target kind and number. -/
def Target.bytes : Target → List Byte
  | .opening n => [0, byteOf n]
  | .group g => [1, byteOf g]
  | .zone z => [2, byteOf z]

def DemandMode.code : DemandMode → Byte
  | .hold => 0
  | .yield => 1

def RecordStatus.code : RecordStatus → Byte
  | .governing => 0
  | .partlyGoverning => 1
  | .outranked => 2

/-- The status codes, in the order of R165. -/
def Status.code : Status → Byte
  | .accepted => 0
  | .busy => 1
  | .noSlot => 2
  | .listFull => 3
  | .notFound => 4
  | .notOwner => 5
  | .notPermitted => 6
  | .badField => 7
  | .inUse => 8
  | .storeFault => 9

def CapReason.code : CapReason → Byte
  | .none => 0
  | .wind => 1
  | .rain => 2
  | .frost => 3
  | .storm => 4
  | .limit => 5

def Rounding.code : Rounding → Byte
  | .exact => 0
  | .up => 1
  | .down => 2

def profileCode : Profile → Byte
  | .windward => 0
  | .leeward => 1
  | .flat => 2

def LineClass.code : LineClass → Byte
  | .short => 0
  | .alarm => 1
  | .normal => 2
  | .openCircuit => 3

/-- A line class or none. -/
def lineCode : Option LineClass → Byte
  | some c => c.code
  | none => 0xFF

def ZoneState.code : ZoneState → Byte
  | .normal => 0
  | .alarm => 1
  | .latched => 2
  | .fault => 3
  | .disabled => 4

def SwitchPos.code : SwitchPos → Byte
  | .auto => 0
  | .openPos => 1
  | .closePos => 2
  | .invalid => 3

def LampPattern.code : LampPattern → Byte
  | .off => 0
  | .steady => 1
  | .slow => 2
  | .fast => 3

def ChannelClass.code : ChannelClass → Byte
  | .valid => 0
  | .under => 1
  | .over => 2
  | .stale => 3
  | .fault => 4
  | .absent => 5

def MonitorState.code : MonitorState → Byte
  | .normal => 0
  | .high => 1
  | .low => 2

def MoveState.code : MoveState → Byte
  | .unknown => 0
  | .atRest => 1
  | .waitSlot => 2
  | .breakaway => 3
  | .travel => 4
  | .stopping => 5
  | .retryWait => 6
  | .faulted => 7

def FaultReason.code : FaultReason → Byte
  | .jammed => 0
  | .stalled => 1
  | .overtime => 2
  | .noStop => 3
  | .lost => 4

/-- A fault reason or its absence. -/
def reasonCode : Option FaultReason → Byte
  | some r => r.code
  | none => 0xFF

/-- A direction or its absence. -/
def directionCode : Option Direction → Byte
  | some .up => 0
  | some .down => 1
  | none => 0xFF

def NodeState.code : NodeState → Byte
  | .unpolled => 0
  | .online => 1
  | .lost => 2
  | .isolated => 3

def Motion.code : Motion → Byte
  | .stopped => 0
  | .opening => 1
  | .closing => 2

/-- The outcome of the latest transaction, in the order of R152, or its absence. -/
def transactionCode : Option TransactionOutcome → Byte
  | some .noReply => 0
  | some .corrupt => 1
  | some .isolated => 2
  | some .notReady => 3
  | some .jam => 4
  | some .ok => 5
  | none => 0xFF

def Origin.code : Origin → Byte
  | .stored => 0
  | .default => 1

def ResetCause.code : ResetCause → Byte
  | .powerOn => 0
  | .restart => 1

/-! ### The fields of an entry as they arrive -/

/-- The one-byte field at an offset. -/
def byteAt (v : List Byte) (i : Nat) : Nat := (v.getD i 0).toNat

/-- The two-byte field at an offset. -/
def wordAt (v : List Byte) (i : Nat) : Nat := (joinBytes (v.getD i 0) (v.getD (i + 1) 0)).toNat

/-- The signed two-byte field at an offset. -/
def signedAt (v : List Byte) (i : Nat) : Int := (joinBytes (v.getD i 0) (v.getD (i + 1) 0)).toInt

/-- Whether the field at an offset is 0 or 1, as a field of two values must be. -/
def isBitAt (v : List Byte) (i : Nat) : Bool := byteAt v i ≤ 1

/-- A field of two values at an offset, true for code 1. -/
def bitAt (v : List Byte) (i : Nat) : Bool := byteAt v i == 1

/-- An opening entry (R175); none where the length or a code is none of the entry's. -/
def parseOpening (v : List Byte) : Option OpeningEntry :=
  if v.length = 16 ∧ isBitAt v 0 = true ∧ isBitAt v 1 = true then
    some
      { enabled := bitAt v 0, exposure := if bitAt v 1 then .flat else .facade,
        facing := wordAt v 2, limit := wordAt v 4, step := byteAt v 6, rest := wordAt v 7,
        rain := wordAt v 9, deadband := byteAt v 11, strokeTime := wordAt v 12,
        breakawayTime := byteAt v 14, zone := byteAt v 15 }
  else none

/-- A member list (R175). -/
def parseGroup (v : List Byte) : Option (List Nat) :=
  match v with
  | count :: members =>
    if members.length = count.toNat ∧ count.toNat ≤ Config.openingCount then
      some (members.map BitVec.toNat)
    else none
  | [] => none

/-- The steps of a scenario, three bytes each; none where the bytes do not come out even. -/
def parseSteps : List Byte → Option (List ScenarioStep)
  | [] => some []
  | g :: hi :: lo :: rest =>
    match parseSteps rest with
    | some l => some ({ group := g.toNat, aperture := (joinBytes hi lo).toNat } :: l)
    | none => none
  | _ => none

/-- A step list (R175); the count's limit is a range of the entry. -/
def parseScenario (v : List Byte) : Option (List ScenarioStep) :=
  match v with
  | count :: rest =>
    match parseSteps rest with
    | some l => if l.length = count.toNat then some l else none
    | none => none
  | [] => none

/-- A station entry (R175). -/
def parseStation (v : List Byte) : Option StationEntry :=
  if v.length = 6 ∧ isBitAt v 0 = true then
    some { enabled := bitAt v 0, group := byteAt v 1, step := wordAt v 2, lifetime := wordAt v 4 }
  else none

/-- A supervisor entry (R175); none where the class set names SMOKE, FIREMAN or an unknown class
(R10). -/
def parseSupervisor (v : List Byte) : Option SupervisorEntry :=
  let classes := v.getD 0 0
  if v.length = 4 ∧ classes &&& 0xC3#8 = 0 ∧ isBitAt v 1 = true ∧ isBitAt v 2 = true ∧
      isBitAt v 3 = true then
    some
      { mayLockout := classes.getLsbD 2, mayLocal := classes.getLsbD 3,
        mayComfort := classes.getLsbD 4, mayPurge := classes.getLsbD 5,
        mayConfigure := bitAt v 1, mayFireReset := bitAt v 2, mayRestart := bitAt v 3 }
  else none

/-- One monitor at an offset, its limits signed for TEMP. -/
def monitorAt (v : List Byte) (i : Nat) (signed : Bool) : MonitorLimits :=
  { mode := if bitAt v i then .hyst else .band
    high := if signed then signedAt v (i + 1) else wordAt v (i + 1)
    low := if signed then signedAt v (i + 3) else wordAt v (i + 3)
    hysteresis := wordAt v (i + 5) }

/-- The offsets of the weather block's fields of two values. -/
def weatherBits : List Nat := [0, 1, 8, 9, 10, 29, 30, 33, 34, 41, 48]

/-- The weather block (R175). -/
def parseWeather (v : List Byte) : Option WeatherBlock :=
  if v.length = 55 ∧ weatherBits.all (isBitAt v) = true then
    some
      { anemA :=
          { present := bitAt v 0, factor := wordAt v 2, trim := byteAt v 6, trimMinus := bitAt v 8 }
        anemB :=
          { present := bitAt v 1, factor := wordAt v 4, trim := byteAt v 7, trimMinus := bitAt v 9 }
        combine := if bitAt v 10 then .maximum else .average
        filterShift := byteAt v 11
        windward := { free := wordAt v 12, close := wordAt v 14 }
        leeward := { free := wordAt v 16, close := wordAt v 18 }
        flat := { free := wordAt v 20, close := wordAt v 22 }
        reopenDelay := wordAt v 24, halfSector := byteAt v 26, dirDeadband := byteAt v 27
        dirDwell := byteAt v 28, vanePresent := bitAt v 29, rainPresent := bitAt v 30
        dryHold := wordAt v 31, probePresent := bitAt v 33
        windMonitor := monitorAt v 34 false
        tempMonitor := monitorAt v 41 true
        supplyMonitor := monitorAt v 48 false }
  else none

/-- The movement block (R175). -/
def parseMovement (v : List Byte) : Option MovementBlock :=
  if v.length = 3 then
    some { normalBudget := byteAt v 0, lowBudget := byteAt v 1, partAddress := byteAt v 2 }
  else none

/-- The entry a kind and an index name and the value the bytes give it. None, which is BAD_FIELD,
where the kind is unknown, the index out of its range (R1), or the length or a code is none of the
entry's (R170, R174). -/
def parseEntry (kind index : Byte) (v : List Byte) : Option EntryValue :=
  let i := index.toNat
  match kind.toNat with
  | 0 => if isOpening i then (parseOpening v).map (EntryValue.opening i) else none
  | 1 =>
    if 1 ≤ i ∧ i ≤ Config.groupCount then (parseGroup v).map (EntryValue.group i) else none
  | 2 =>
    if isZone i ∧ v.length = 1 ∧ isBitAt v 0 = true then some (.zone i (bitAt v 0)) else none
  | 3 => if isZone i then (parseScenario v).map (EntryValue.scenario i) else none
  | 4 => if isStation i then (parseStation v).map (EntryValue.station i) else none
  | 5 => if isSupervisor i then (parseSupervisor v).map (EntryValue.supervisor i) else none
  | 6 => (parseWeather v).map EntryValue.weather
  | 7 => (parseMovement v).map EntryValue.movement
  | _ => none

/-! ### The fields of an entry as they are reported -/

def OpeningEntry.bytes (e : OpeningEntry) : List Byte :=
  [boolByte e.enabled, match e.exposure with
    | .facade => 0
    | .flat => 1] ++ wordBytes e.facing ++ wordBytes e.limit ++ [byteOf e.step] ++
    wordBytes e.rest ++ wordBytes e.rain ++ [byteOf e.deadband] ++ wordBytes e.strokeTime ++
    [byteOf e.breakawayTime, byteOf e.zone]

/-- A list: a count byte and its items (R174). -/
def memberBytes (l : List Nat) : List Byte := byteOf l.length :: l.map byteOf

def stepBytes (l : List ScenarioStep) : List Byte :=
  byteOf l.length :: l.flatMap fun x => byteOf x.group :: wordBytes x.aperture

def StationEntry.bytes (e : StationEntry) : List Byte :=
  [boolByte e.enabled, byteOf e.group] ++ wordBytes e.step ++ wordBytes e.lifetime

/-- The class set, with class code n in bit n (R175). -/
def SupervisorEntry.classSet (e : SupervisorEntry) : Byte :=
  0#2 ++ BitVec.ofBool e.mayPurge ++ BitVec.ofBool e.mayComfort ++ BitVec.ofBool e.mayLocal ++
    BitVec.ofBool e.mayLockout ++ 0#2

def SupervisorEntry.bytes (e : SupervisorEntry) : List Byte :=
  [e.classSet, boolByte e.mayConfigure, boolByte e.mayFireReset, boolByte e.mayRestart]

def MonitorLimits.bytes (m : MonitorLimits) : List Byte :=
  (match m.mode with
    | .band => 0
    | .hyst => 1) :: (signedBytes m.high ++ signedBytes m.low ++ signedBytes m.hysteresis)

def ProfileSpeeds.bytes (p : ProfileSpeeds) : List Byte := wordBytes p.free ++ wordBytes p.close

def WeatherBlock.bytes (b : WeatherBlock) : List Byte :=
  [boolByte b.anemA.present, boolByte b.anemB.present] ++ wordBytes b.anemA.factor ++
    wordBytes b.anemB.factor ++
    [byteOf b.anemA.trim, byteOf b.anemB.trim, boolByte b.anemA.trimMinus,
      boolByte b.anemB.trimMinus, match b.combine with
        | .average => 0
        | .maximum => 1, byteOf b.filterShift] ++
    b.windward.bytes ++ b.leeward.bytes ++ b.flat.bytes ++ wordBytes b.reopenDelay ++
    [byteOf b.halfSector, byteOf b.dirDeadband, byteOf b.dirDwell, boolByte b.vanePresent,
      boolByte b.rainPresent] ++ wordBytes b.dryHold ++ [boolByte b.probePresent] ++
    b.windMonitor.bytes ++ b.tempMonitor.bytes ++ b.supplyMonitor.bytes

def MovementBlock.bytes (b : MovementBlock) : List Byte :=
  [byteOf b.normalBudget, byteOf b.lowBudget, byteOf b.partAddress]

/-- The value of an entry in the encoding of R175. -/
def EntryValue.bytes : EntryValue → List Byte
  | .opening _ v => v.bytes
  | .group _ l => memberBytes l
  | .zone _ b => [boolByte b]
  | .scenario _ l => stepBytes l
  | .station _ v => v.bytes
  | .supervisor _ v => v.bytes
  | .weather v => v.bytes
  | .movement v => v.bytes

/-- The entry a kind and an index name, as it stands in effect, and its origin; none for an unknown
kind or an index out of its range (R1, R170). -/
def Store.entryInEffect (st : Store) (kind index : Byte) : Option (Origin × EntryValue) :=
  let i := index.toNat
  match kind.toNat with
  | 0 => (nth st.openings i).map fun e => (e.origin, .opening i e.value)
  | 1 => (nth st.groups i).map fun e => (e.origin, .group i e.value)
  | 2 => (nth st.zones i).map fun e => (e.origin, .zone i e.value)
  | 3 => (nth st.scenarios i).map fun e => (e.origin, .scenario i e.value)
  | 4 => (nth st.stations i).map fun e => (e.origin, .station i e.value)
  | 5 => (nth st.supervisors i).map fun e => (e.origin, .supervisor i e.value)
  | 6 => some (st.weather.origin, .weather st.weather.value)
  | 7 => some (st.movement.origin, .movement st.movement.value)
  | _ => none

/-! ### The payloads of the read requests (R174, R175) -/

/-- A record in a response payload; wait and lifetime remaining are 0 when absent. -/
def DemandTable.recordBytes (t : DemandTable) (h : Handle) (r : DemandRecord) : List Byte :=
  handleBytes h ++ r.source.bytes ++ [r.cls.code] ++ r.target.bytes ++ optWord r.aperture ++
    [r.mode.code] ++ wordBytes (r.lifetime.getD 0) ++ wordBytes (r.waitRemaining.getD 0) ++
    [(t.status h).code]

/-- A list of handles: a count and two bytes each. -/
def handleListBytes (l : List Handle) : List Byte :=
  byteOf l.length :: l.flatMap handleBytes

/-- The resolver's part of READ_OPENING. -/
def OpeningResult.bytes (r : OpeningResult) : List Byte :=
  wordBytes r.target ++ [governingCode r.cls] ++ optHandle r.handle ++
    [r.cap.code, r.rounding.code] ++ optWord r.frozen ++ [boolByte r.windward, profileCode r.profile]

/-- The movement controller's part of READ_OPENING (R151). -/
def MoveRecord.bytes (m : MoveRecord) : List Byte :=
  [m.state.code, reasonCode m.faultReason, byteOf m.retries, directionCode m.direction,
    optByte m.breakaway] ++ optWord m.deadline ++ optWord m.progressRef ++
    [optByte m.progressWindow, optByte m.stopTimer, optByte m.retryTimer] ++ optWord m.waitAge ++
    [boolByte m.orderPending]

/-- The fields of a last reply, or their absence. -/
def replyBytes : Option DriveReply → List Byte
  | some r => wordBytes r.position ++ [r.motion.code, boolByte r.endClosed, boolByte r.endOpen,
      boolByte r.overcurrent, boolByte r.isolated, boolByte r.notReady, boolByte r.supplyGood]
  | none => List.replicate 9 0xFF#8

/-- The drive bus controller's part of READ_OPENING (R160). -/
def NodeRecord.bytes (d : NodeRecord) : List Byte :=
  [d.state.code, byteOf d.failures] ++ replyBytes d.lastReply ++ [transactionCode d.lastOutcome]

/-- The READ_OPENING payload; for an opening that is not enabled, the enabled field 0 and every other
field absent (R169, R175). -/
def State.openingPayload (s : State) (n : Nat) : List Byte :=
  match s.result n, s.move n, s.node n with
  | some r, some m, some d => 1 :: (r.bytes ++ m.bytes ++ d.bytes)
  | _, _, _ => 0 :: List.replicate 38 0xFF#8

/-- The READ_GROUP payload (R169). -/
def State.groupPayload (s : State) (g : Nat) : List Byte :=
  memberBytes (s.store.group g) ++
    [byteOf (s.demand.usedSlots.countP fun k =>
      match s.demand.inSlot k with
      | some r => r.target == .group g
      | none => false)]

/-- The READ_ZONE payload (R121); `scenarioRecords` counts the records of SCENARIO z. -/
def Zone.bytes (r : Zone) (enabled : Bool) (reading : SwitchPos) (scenarioRecords : Nat)
    (fireman : Option Handle) : List Byte :=
  [boolByte enabled, r.state.code] ++ wordBytes r.count.toNat ++
    [lineCode r.accepted, lineCode r.candidate, byteOf r.agreement,
      (if r.state = .alarm ∨ r.state = .latched then boolByte r.lineFault else 0xFF),
      r.switchPos.code, reading.code, byteOf scenarioRecords] ++ optHandle fireman ++
    [r.alarmLamp.code, r.statusLamp.code]

/-- A channel: its class and its value, or the value absent. -/
def channelBytes (c : ChannelClass) (v : Option Nat) : List Byte := c.code :: optWord v

/-- A held cap: C, H and the reopen timer (R97). -/
def HeldCap.bytes (h : HeldCap) : List Byte :=
  wordBytes h.computed ++ wordBytes h.held ++ optWord h.timer

/-- The class of the rain channel (R65, note 3). -/
def rainClass (b : WeatherBlock) : ChannelClass := if b.rainPresent then .valid else .absent

/-- The READ_WEATHER payload (R83, R97). -/
def Weather.bytes (w : Weather) (b : WeatherBlock) : List Byte :=
  channelBytes w.anemA.cls w.anemA.value ++ channelBytes w.anemB.cls w.anemB.value ++
    channelBytes w.speedClass (if w.speedSeen then some w.filtered else none) ++
    channelBytes w.vaneClass w.vaneValue ++
    channelBytes (rainClass b) (w.rainSampled.map fun x => if x then 1 else 0) ++
    (w.tempClass.code :: optSigned w.tempValue) ++
    (w.supplyClass.code :: signedBytes w.supplyValue) ++
    optWord w.sample ++ optWord w.heldDir ++
    [optByte w.dwell, boolByte w.wet, w.windState.code, w.tempState.code, w.supplyState.code] ++
    w.capWindward.bytes ++ w.capLeeward.bytes ++ w.capFlat.bytes ++ [boolByte w.capTakeOver]

/-- The READ_CONDITIONS payload: the live, sticky and mask sets and the reset cause (R175, R180). -/
def Conditions.bytes (c : Conditions) : List Byte :=
  setBytes c.live ++ setBytes c.sticky ++ setBytes c.mask ++ [c.cause.code]

/-- A zone set, zone z in bit z − 1 (R175). -/
def zoneSetByte (zs : List Nat) : Byte :=
  zs.foldl (fun b z => b ||| BitVec.ofNat 8 (2 ^ (z - 1))) 0

/-! ### The frame of a response (R165, R173) -/

/-- The frame the link sends for a response. -/
def Response.frame (r : Response) : List Byte :=
  withCheck ([byteOf r.dest, byteOf r.source, r.code, byteOf (3 + r.body.length), r.status.code,
    r.flags.toByte, boolByte r.attention] ++ r.body)

/-! ### Request payloads (R174) -/

/-- The payload of a PLACE or PROBE; none where its length is not 10. -/
def placeFieldsOf (v : List Byte) : Option PlaceFields :=
  match v with
  | [cls, kind, number, ah, al, mode, lh, ll, wh, wl] => some
      { cls := cls, targetKind := kind, targetNumber := number, aperture := joinBytes ah al,
        mode := mode, lifetime := joinBytes lh ll, waitLimit := joinBytes wh wl }
  | _ => none

end Sys2Proof.Machine
end

