-- ==== Sys2Proof/Machine/LinkOps.lean ====
section
/-! DEFINITION. The supervisory link's shared operations (10): an owner's answer, the response formed
from it, and the discarding of a held response. -/
namespace Sys2Proof.Machine

/-- The judgement of R179: at least one condition is sticky and unmasked. -/
def Conditions.calls (c : Conditions) : Bool := c.sticky &&& ~~~c.mask != 0

/-- What the owning block answers a request with (R165): the status, the outcome flags and the
request's own payload. -/
structure Answer where
  status : Status
  flags : OutcomeFlags
  body : List Byte
  deriving DecidableEq, Repr

/-- A refusal: no flags and no payload beyond the three fields (R165). -/
def Answer.refused (st : Status) : Answer := { status := st, flags := .none, body := [] }

/-- An acceptance without outcome flags. -/
def Answer.accepted (body : List Byte) : Answer :=
  { status := .accepted, flags := .none, body := body }

/-- The response to supervisor `m`'s request of code `code`, formed in the state as it stands, with
`source` as its source address (R165). -/
def State.formResponse (s : State) (source m : Nat) (code : Byte) (a : Answer) : Response :=
  { source := source, dest := m, code := code + 0x80#8, status := a.status, flags := a.flags,
    attention := s.conditions.calls, body := a.body }

/-- Whether a response is that of an accepted RESTART, after which the part restarts (R172). -/
def Response.restarts (r : Response) : Bool := r.code == 0x92#8 && r.status == .accepted

/-- A held response waiting is discarded unsent; where it was that of an accepted RESTART, the part
restarts (R165, R172). -/
def Link.discardHeld (l : Link) : Link :=
  match l.held with
  | some r => { l with held := none, restartDue := l.restartDue || r.restarts }
  | none => l

/-- A request is taken: a held response that still waits is discarded, as the bytes of the frame that
the request stands for have discarded it (R165; notes/assumptions/6.md). -/
def State.dropHeld (s : State) : State := s.setLink s.link.discardHeld

/-- The response to a request is held, in the place of one that still waits (R165). -/
def State.hold (s : State) (r : Response) : State :=
  s.dropHeld.setLink { s.dropHeld.link with held := some r }

/-- The response to a request taken by its owner is formed at once and held (R165). -/
def State.respond (s : State) (m : Nat) (code : Byte) (a : Answer) : State :=
  s.hold (s.formResponse s.store.movement.value.partAddress m code a)

/-- The response to a CONFIGURE whose write has ended takes the deferred slot (R166), which is empty
while a write is under way, since a CONFIGURE is BUSY while one waits there
(notes/assumptions/15.md). -/
def State.defer (s : State) (r : Response) : State :=
  s.setLink { s.link with deferred := some r }

end Sys2Proof.Machine
end

