-- ==== Sys2Proof/Machine/StationUnit.lean ====
section
/-! DEFINITION. The station unit (07): buttons, the gesture machine, what each gesture asks of the
demand manager, and the meanings of its commands. -/
namespace Sys2Proof.Machine

/-! ### Buttons (R124) -/

/-- One button of a station. -/
def Station.button (st : Station) : ButtonId → Button
  | .openButton => st.openButton
  | .closeButton => st.closeButton

/-- A station with one button replaced. -/
def Station.setButton (st : Station) (b : ButtonId) (x : Button) : Station :=
  match b with
  | .openButton => { st with openButton := x }
  | .closeButton => { st with closeButton := x }

/-! ### The gesture machine (R125) -/

/-- The state a machine in IDLE enters when a button is pressed. -/
def heldBy : ButtonId → Gesture
  | .openButton => .heldOpen
  | .closeButton => .heldClose

/-- The station after an acceptance of a button, whose new state it already holds (R125); beside it
the button of a short press, where the acceptance completes one. -/
def Station.gestureStep (st : Station) (b : ButtonId) (pressed : Bool) :
    Station × Option ButtonId :=
  match st.gesture, pressed with
  | .idle, true => ({ st with gesture := heldBy b, holdTimer := some 2000 }, none)
  | .heldOpen, true =>
    if b = .closeButton then ({ st with gesture := .heldBoth, holdTimer := some 2000 }, none)
    else (st, none)
  | .heldClose, true =>
    if b = .openButton then ({ st with gesture := .heldBoth, holdTimer := some 2000 }, none)
    else (st, none)
  | .heldOpen, false =>
    if b = .openButton then ({ st with gesture := .idle, holdTimer := none }, some .openButton)
    else (st, none)
  | .heldClose, false =>
    if b = .closeButton then ({ st with gesture := .idle, holdTimer := none }, some .closeButton)
    else (st, none)
  | .heldBoth, false => ({ st with gesture := .spent, holdTimer := none }, none)
  | .spent, false =>
    if st.openButton.pressed = false ∧ st.closeButton.pressed = false then
      ({ st with gesture := .idle }, none)
    else (st, none)
  | .idle, false => (st, none)
  | .heldBoth, true => (st, none)
  | .spent, true => (st, none)

/-! ### Requests to the demand manager (R39, R126 to R130) -/

/-- Whether station `n` may act: its entry is enabled and its group has members (R130). -/
def State.stationMayAct (s : State) (n : Nat) : Bool :=
  (s.store.station n).enabled && !(s.store.group (s.store.station n).group).isEmpty

/-- The LOCAL record of station `n` with an aperture (R23, R127). -/
def stationRecord (n : Nat) (e : StationEntry) (aperture : Nat) : DemandRecord :=
  { source := .station n, cls := .localUse, target := .group e.group, aperture := some aperture,
    mode := .hold, lifetime := some e.lifetime, waitLimit := none, waitRemaining := none }

/-- Sets the handle the station unit keeps for station `n` (R129). -/
def State.setStationHandle (s : State) (n : Nat) (h : Option Handle) : State :=
  match s.stationOf n with
  | some st => s.setStation n { st with handle := h }
  | none => s

/-- A station's placement: refused, which raises STATION_REFUSED and changes nothing else, or carried
out, and the new handle reported back (R33, R127, R129). -/
def State.stationPlace (s : State) (n : Nat) (aperture : Nat) : State :=
  let r := stationRecord n (s.store.station n) aperture
  match s.demand.refusal r (s.store.covered r.target) with
  | some _ => s.report .stationUnit [] [.stationRefused]
  | none =>
    let x := s.placeRecord r
    x.1.setStationHandle n x.2

/-- The adjust-or-place of station `n` (R39): its living record is moved by the delta and its lifetime
refreshed, or a new one is placed with the fallback aperture. DESIGN CHOICE: the resolver is told of the
openings that the record heads even where its aperture stays as it was (note 5 of R126): R39 says nothing
of it, and R58 names only a head whose aperture was changed (notes/assumptions/52.md). -/
def State.adjustOrPlace (s : State) (n : Nat) (delta : Int) (fallback : Nat) : State :=
  let e := s.store.station n
  match s.demand.matching (stationRecord n e fallback) with
  | some k =>
    match s.demand.inSlot k with
    | some r =>
      let r' : DemandRecord :=
        { r with aperture := r.aperture.map (fun a => adjustedAperture a delta)
                 lifetime := some e.lifetime }
      let h := s.demand.handleOf k
      (s.closeOperation (s.demand.rewrite k r').run (s.demand.headedBy h)).setStationHandle n
        (some h)
    | none => s
  | none => s.stationPlace n fallback

/-- The delta of a short press (R126). -/
def pressDelta (b : ButtonId) (step : Nat) : Int :=
  match b with
  | .openButton => (step : Int)
  | .closeButton => -(step : Int)

/-- A short press: the fallback is the target of the group's lowest-numbered member, moved by the
step and saturated (R126). Discarded where the station may not act (R130). -/
def State.shortPress (s : State) (n : Nat) (b : ButtonId) : State :=
  if s.stationMayAct n then
    let e := s.store.station n
    let lowest := (s.store.group e.group).head?.getD 0
    let delta := pressDelta b e.step
    s.adjustOrPlace n delta (adjustedAperture ((s.target lowest).getD 0) delta)
  else s

/-- A long press (R127). -/
def State.longPress (s : State) (n : Nat) (aperture : Nat) : State :=
  if s.stationMayAct n then s.stationPlace n aperture else s

/-- A both-held gesture: the record of the handle the station unit holds is retired (R128). DESIGN
CHOICE: with an empty group the gesture is discarded, as R130 says, though note 2 of R128 makes the
retirement independent of the group's members; no run reaches a living record of a station whose group
is empty (notes/assumptions/43.md). -/
def State.bothHeld (s : State) (n : Nat) : State :=
  if s.stationMayAct n then
    match s.stationOf n with
    | some st =>
      match st.handle with
      | some h =>
        match s.demand.find h with
        | some _ => s.retireSlot h.slot .retired
        | none => s
      | none => s
    | none => s
  else s

/-- A completed write of a station's entry or group ends a gesture in progress (R130). -/
def Station.cancelGesture (st : Station) : Station :=
  match st.gesture with
  | .heldOpen => { st with gesture := .spent, holdTimer := none }
  | .heldClose => { st with gesture := .spent, holdTimer := none }
  | .heldBoth => { st with gesture := .spent, holdTimer := none }
  | .idle => st
  | .spent => st

/-- The gesture of station `n` is cancelled. -/
def State.cancelStation (s : State) (n : Nat) : State :=
  match s.stationOf n with
  | some st => s.setStation n st.cancelGesture
  | none => s

/-! ### The meanings -/

/-- BUTTON_CONTACT_CHANGE: a change of the contact restarts the debounce timer at 50 milliseconds
(R124). -/
def execButtonContactChange (n : Nat) (b : ButtonId) (made : Bool) (s : State) :
    Host.Outcome State Fault Refusal :=
  if isStation n then
    match s.stationOf n with
    | some st =>
      if (st.button b).made = made then .next s
      else .next (s.setStation n
        (st.setButton b { st.button b with made := made, timer := some 50 }))
    | none => .next s
  else .fault .noSuchStation

/-- The debounce timer of a button has run out: a new state is accepted and handed to the gesture
machine (R124, R125). -/
def State.acceptButton (s : State) (n : Nat) (b : ButtonId) (st : Station) : State :=
  let x := st.button b
  if x.made = x.pressed then s.setStation n (st.setButton b { x with timer := none })
  else
    let g := (st.setButton b { x with timer := none, pressed := x.made }).gestureStep b x.made
    match g.2 with
    | some p => (s.setStation n g.1).shortPress n p
    | none => s.setStation n g.1

/-- BUTTON_ACCEPTANCE: the debounce timer, where it runs, runs out (R124). -/
def execButtonAcceptance (n : Nat) (b : ButtonId) (s : State) :
    Host.Outcome State Fault Refusal :=
  if isStation n then
    match s.stationOf n with
    | some st => if (st.button b).timer.isSome then .next (s.acceptButton n b st) else .next s
    | none => .next s
  else .fault .noSuchStation

/-- HOLD_TIMER_EXPIRY: the hold timer, where it runs, runs out (R125). -/
def execHoldTimerExpiry (n : Nat) (s : State) : Host.Outcome State Fault Refusal :=
  if isStation n then
    match s.stationOf n with
    | some st =>
      if st.holdTimer.isSome then
        let s1 := s.setStation n { st with gesture := .spent, holdTimer := none }
        match st.gesture with
        | .heldOpen => .next (s1.longPress n Config.fullAperture)
        | .heldClose => .next (s1.longPress n 0)
        | .heldBoth => .next (s1.bothHeld n)
        | .idle => .next s
        | .spent => .next s
      else .next s
    | none => .next s
  else .fault .noSuchStation

end Sys2Proof.Machine
end

