-- ==== Sys2Proof/Machine/StoreOps.lean ====
section
/-! DEFINITION. The site store's shared operations (01): the ranges and relations of every entry, the
IN_USE conditions, the two copies of an entry, and the load at reset. -/
namespace Sys2Proof.Machine

/-! ### Ranges and relations within an entry (R2, R4, R7, R9 to R13) -/

/-- An opening entry's ranges and the relations of its fields (R2). -/
def OpeningEntry.valid (e : OpeningEntry) : Bool :=
  decide (e.facing ≤ 359) && decide (e.limit ≤ 1000) && decide (1 ≤ e.step) &&
    decide (e.step ≤ 100) && e.limit % e.step == 0 && decide (e.rest ≤ 1000) &&
    e.rest % e.step == 0 && decide (e.rest ≤ e.limit) && decide (e.rain ≤ 1000) &&
    decide (e.rain ≤ e.limit) && decide (5 ≤ e.deadband) && decide (e.deadband ≤ 50) &&
    decide (10 ≤ e.strokeTime) && decide (e.strokeTime ≤ 600) && decide (1 ≤ e.breakawayTime) &&
    decide (e.breakawayTime ≤ 10) && decide (e.zone ≤ Config.zoneCount)

/-- Whether numbers stand in strictly ascending order, so that none appears twice. -/
def ascending : List Nat → Bool
  | [] => true
  | [_] => true
  | a :: b :: rest => decide (a < b) && ascending (b :: rest)

/-- A member list's own tests (R4, tests 1 to 3). -/
def validMembers (l : List Nat) : Bool :=
  decide (l.length ≤ Config.openingCount) && l.all isOpening && ascending l

/-- A step list's own tests (R7, tests 1 and 2). -/
def validSteps (l : List ScenarioStep) : Bool :=
  decide (l.length ≤ 4) &&
    l.all fun x => decide (1 ≤ x.group) && decide (x.group ≤ Config.groupCount) &&
      decide (x.aperture ≤ 1000)

/-- A station entry's ranges (R9). -/
def StationEntry.valid (e : StationEntry) : Bool :=
  decide (1 ≤ e.group) && decide (e.group ≤ Config.groupCount) && decide (50 ≤ e.step) &&
    decide (e.step ≤ 500) && decide (60 ≤ e.lifetime) && decide (e.lifetime ≤ 14400)

/-- An anemometer's scaling (R11). -/
def AnemometerScale.valid (a : AnemometerScale) : Bool :=
  decide (1 ≤ a.factor) && decide (a.factor ≤ 1023) && decide (a.trim ≤ 7)

/-- A profile's speeds (R11). -/
def ProfileSpeeds.valid (p : ProfileSpeeds) : Bool :=
  decide (p.free ≤ 600) && decide (p.close ≤ 600) && decide (p.free < p.close)

/-- A monitor's limits, within a range of limits and of the hysteresis (R12). -/
def MonitorLimits.valid (m : MonitorLimits) (lowest highest hysteresisMax : Int) : Bool :=
  decide (lowest ≤ m.low) && decide (m.low ≤ highest) && decide (lowest ≤ m.high) &&
    decide (m.high ≤ highest) && decide (0 ≤ m.hysteresis) &&
    decide (m.hysteresis ≤ hysteresisMax) && decide (m.low < m.high) &&
    decide (m.hysteresis ≤ m.high - m.low)

/-- The weather block's ranges and relations (R11, R12). -/
def WeatherBlock.valid (b : WeatherBlock) : Bool :=
  b.anemA.valid && b.anemB.valid && decide (b.filterShift ≤ 4) && b.windward.valid &&
    b.leeward.valid && b.flat.valid && decide (60 ≤ b.reopenDelay) &&
    decide (b.reopenDelay ≤ 1800) && decide (10 ≤ b.halfSector) && decide (b.halfSector ≤ 90) &&
    decide (5 ≤ b.dirDeadband) && decide (b.dirDeadband ≤ 45) && decide (5 ≤ b.dirDwell) &&
    decide (b.dirDwell ≤ 120) && decide (60 ≤ b.dryHold) && decide (b.dryHold ≤ 3600) &&
    b.windMonitor.valid 0 600 600 && b.tempMonitor.valid (-80) 160 240 &&
    b.supplyMonitor.valid 0 400 400

/-- The movement block's ranges (R13). -/
def MovementBlock.valid (b : MovementBlock) : Bool :=
  decide (1 ≤ b.normalBudget) && decide (b.normalBudget ≤ 16) &&
    decide (b.lowBudget ≤ b.normalBudget) && decide (16 ≤ b.partAddress) &&
    decide (b.partAddress ≤ 31)

/-- Every field of an entry is within its range and meets the relations within the entry. -/
def EntryValue.valid : EntryValue → Bool
  | .opening _ v => v.valid
  | .group _ l => validMembers l
  | .zone _ _ => true
  | .scenario _ l => validSteps l
  | .station _ v => v.valid
  | .supervisor _ _ => true
  | .weather v => v.valid
  | .movement v => v.valid

/-! ### Relations to other entries (R4, R7, R10) -/

/-- How many of the steps cover opening `n`, by the member lists `groups` (R7). -/
def stepsCovering (groups : Nat → List Nat) (steps : List ScenarioStep) (n : Nat) : Nat :=
  steps.countP fun x => (groups x.group).contains n

/-- The coverage count of opening `n` over the scenarios of the zones `zs` (R7, test 5). -/
def coverage (groups : Nat → List Nat) (scenarios : Nat → List ScenarioStep) (zs : List Nat)
    (n : Nat) : Nat :=
  (zs.map fun z => stepsCovering groups (scenarios z) n).sum

/-- No two steps of a list cover a common opening (R7, test 4). -/
def stepsApart (groups : Nat → List Nat) (steps : List ScenarioStep) : Bool :=
  openingNumbers.all fun n => decide (stepsCovering groups steps n ≤ 1)

/-- The coverage limits of R7 hold over all eight scenarios (tests 4 and 5). -/
def withinCoverage (groups : Nat → List Nat) (scenarios : Nat → List ScenarioStep) : Bool :=
  (zoneNumbers.all fun z => stepsApart groups (scenarios z)) &&
    openingNumbers.all fun n => decide (coverage groups scenarios zoneNumbers n ≤ 4)

/-- A function with one value replaced. -/
def replaceAt {α : Type} (f : Nat → α) (k : Nat) (a : α) : Nat → α :=
  fun x => if x = k then a else f x

/-- Whether a new value meets its relations to the other entries in effect (R4 tests 4 to 6, R7 tests
3 to 5, R10). -/
def Store.relationsHold (st : Store) : EntryValue → Bool
  | .group g l =>
    l.all st.enabled &&
      !(l.isEmpty && zoneNumbers.any fun z => (st.scenario z).any fun x => x.group == g) &&
      withinCoverage (replaceAt st.group g l) st.scenario
  | .scenario z l =>
    (l.all fun x => !(st.group x.group).isEmpty) && stepsApart st.group l &&
      openingNumbers.all fun n =>
        decide (coverage st.group (replaceAt st.scenario z l) zoneNumbers n ≤ 4)
  | .supervisor m v =>
    supervisorNumbers.any fun k => (if k = m then v else st.supervisor k).mayConfigure
  | .opening _ _ => true
  | .zone _ _ => true
  | .station _ _ => true
  | .weather _ => true
  | .movement _ => true

/-! ### The IN_USE conditions (R3, R5, R6, R8, R9, R13) -/

/-- Whether some living record satisfies `p`. -/
def DemandTable.anyRecord (t : DemandTable) (p : DemandRecord → Bool) : Bool :=
  t.slots.any fun sl =>
    match sl.record with
    | some r => p r
    | none => false

/-- The movement states in which an opening is not disabled (R3). -/
def holdsEnabled : MoveState → Bool
  | .waitSlot => true
  | .breakaway => true
  | .travel => true
  | .stopping => true
  | .retryWait => true
  | _ => false

/-- Zone `z` is in ALARM or LATCHED, or its fireman switch stands at OPEN or CLOSE (R6, R8). -/
def State.zoneInUse (s : State) (z : Nat) : Bool :=
  match s.zone z with
  | some r => r.state == .alarm || r.state == .latched || r.switchPos == .openPos ||
      r.switchPos == .closePos
  | none => false

/-- The IN_USE condition of an opening entry whose enabled or zone field changes (R3). -/
def State.openingInUse (s : State) (n : Nat) (v : OpeningEntry) : Bool :=
  let e := s.store.opening n
  (e.enabled != v.enabled || e.zone != v.zone) &&
    (!(s.demand.list n).isEmpty ||
      (groupNumbers.any fun g => (s.store.group g).contains n) ||
      (s.demand.anyRecord fun r =>
        r.cls == .fireman && (r.target == .zone e.zone || r.target == .zone v.zone)) ||
      (e.enabled && !v.enabled &&
        match s.moveState n with
        | some m => holdsEnabled m
        | none => false))

/-- The IN_USE conditions of an entry, against the state as it stands (R14 step 3, R16). A scenario
placement that waits holds its group as the record it is to place will (R5, R112;
notes/assumptions/27.md). -/
def State.entryInUse (s : State) : EntryValue → Bool
  | .opening n v => s.openingInUse n v
  | .group g _ =>
    s.demand.anyRecord (fun r => r.target == .group g) ||
      s.mail.steps.any fun x => x.step.group == g
  | .zone z _ => s.zoneInUse z
  | .scenario z _ => s.zoneInUse z
  | .station n _ => s.demand.anyRecord fun r => r.source == .station n
  | .supervisor _ _ => false
  | .weather _ => false
  | .movement v => decide (v.normalBudget < s.breakawayOpenings.length)

/-! ### The two copies of an entry (1.9, R14, R16, R17, R20) -/

/-- One copy. -/
def Entry.copy {α : Type} (e : Entry α) : CopyName → StoredCopy α
  | .first => e.first
  | .second => e.second

/-- Replaces one copy. -/
def Entry.setCopy {α : Type} (e : Entry α) (c : CopyName) (x : StoredCopy α) : Entry α :=
  match c with
  | .first => { e with first := x }
  | .second => { e with second := x }

/-- The spare copy: the other copy than that in effect, or a free choice where none is in effect. -/
def Entry.spare {α : Type} (e : Entry α) (spareIsFirst : Bool) : CopyName :=
  match e.inEffect with
  | some .first => .second
  | some .second => .first
  | none => if spareIsFirst then .first else .second

/-- The spare copy begins to be written: its contents are the new value, and its check code does not
match until it has been completely written (R14; notes/assumptions/28.md). `free` is the sequence
count where no copy is in effect. -/
def Entry.beginWrite {α : Type} (e : Entry α) (v : α) (spareIsFirst : Bool) (free : BitVec 8) :
    Entry α :=
  e.setCopy (e.spare spareIsFirst)
    { checkMatches := false
      sequence :=
        match e.inEffect with
        | some c => (e.copy c).sequence + 1
        | none => free
      value := v }

/-- The spare copy has been completely written and checked. -/
def Entry.spareWritten {α : Type} (e : Entry α) (spareIsFirst : Bool) : Entry α :=
  let c := e.spare spareIsFirst
  e.setCopy c { e.copy c with checkMatches := true }

/-- The spare copy, read back equal to the new value `v`, becomes the copy in effect, with origin
STORED (R16). -/
def Entry.commit {α : Type} (e : Entry α) (v : α) (spareIsFirst : Bool) : Entry α :=
  { e.spareWritten spareIsFirst with
    value := v, origin := .stored, inEffect := some (e.spare spareIsFirst) }

/-- A table with one item changed. -/
def modifyNth {α : Type} (l : List α) (n : Nat) (f : α → α) : List α :=
  match nth l n with
  | some a => setNth l n (f a)
  | none => l

/-- The kind code and the index of an entry (R175). -/
def EntryValue.name : EntryValue → Nat × Nat
  | .opening n _ => (0, n)
  | .group g _ => (1, g)
  | .zone z _ => (2, z)
  | .scenario z _ => (3, z)
  | .station n _ => (4, n)
  | .supervisor m _ => (5, m)
  | .weather _ => (6, 0)
  | .movement _ => (7, 0)

/-- Whether the spare copy of an entry with no copy in effect is its first. -/
def EntryValue.spareIsFirst (v : EntryValue) : Bool :=
  Config.spareIsFirst v.name.1 v.name.2

/-- The entry a new value names, changed by one operation on entries. -/
def Store.onEntry (st : Store) (ev : EntryValue)
    (f : (α : Type) → α → Entry α → Entry α) : Store :=
  match ev with
  | .opening n v => { st with openings := modifyNth st.openings n (f _ v) }
  | .group g v => { st with groups := modifyNth st.groups g (f _ v) }
  | .zone z v => { st with zones := modifyNth st.zones z (f _ v) }
  | .scenario z v => { st with scenarios := modifyNth st.scenarios z (f _ v) }
  | .station n v => { st with stations := modifyNth st.stations n (f _ v) }
  | .supervisor m v => { st with supervisors := modifyNth st.supervisors m (f _ v) }
  | .weather v => { st with weather := f _ v st.weather }
  | .movement v => { st with movement := f _ v st.movement }

/-- An accepted CONFIGURE: the store enters WRITING (R14). -/
def Store.begin (st : Store) (w : EntryWrite) : Store :=
  { st.onEntry w.entry (fun _ v e =>
      e.beginWrite v w.entry.spareIsFirst (Config.firstSequence st.draws)) with
    writing := some w, draws := st.draws + 1 }

/-- The write completes, and the store returns to IDLE (R16). -/
def Store.commit (st : Store) (ev : EntryValue) : Store :=
  { st.onEntry ev (fun _ v e => e.commit v ev.spareIsFirst) with writing := none }

/-- The write is abandoned or has failed: the spare copy stays invalid, and the store returns to IDLE
(R16, R17). -/
def Store.abandon (st : Store) : Store := { st with writing := none }

/-! ### The load at reset (R18, R19, R20) -/

/-- Whether the second of two valid copies with counts `a` and `b` is the newer (R14). -/
def secondIsNewer (a b : BitVec 8) : Bool := 129 ≤ (a - b).toNat

/-- An entry loaded from its copies: the newer valid one, or the factory default (R18). -/
def Entry.load {α : Type} (valid : α → Bool) (factory : α) (e : Entry α) : Entry α :=
  match e.first.checkMatches && valid e.first.value,
    e.second.checkMatches && valid e.second.value with
  | true, true =>
    if secondIsNewer e.first.sequence e.second.sequence then
      { e with value := e.second.value, origin := .stored, inEffect := some .second }
    else { e with value := e.first.value, origin := .stored, inEffect := some .first }
  | true, false => { e with value := e.first.value, origin := .stored, inEffect := some .first }
  | false, true => { e with value := e.second.value, origin := .stored, inEffect := some .second }
  | false, false => { e with value := factory, origin := .default, inEffect := none }

/-- An entry that breaks a relation is replaced by its factory default (R19). Its copies stand as they
are, and the newer valid one stays the copy that the next write leaves alone and counts from (R14). -/
def Entry.toDefault {α : Type} (factory : α) (e : Entry α) : Entry α :=
  { e with value := factory, origin := .default }

/-- The supervisor entries loaded, each with its own factory default. -/
def loadSupervisors (l : List (Entry SupervisorEntry)) : List (Entry SupervisorEntry) :=
  match l with
  | [] => []
  | e :: rest =>
    e.load (fun _ => true) .factoryFirst ::
      rest.map (Entry.load (fun _ => true) .factoryOther)

/-- Every entry is loaded from its own copies (R18). -/
def Store.loadEntries (st : Store) : Store :=
  { openings := st.openings.map (Entry.load OpeningEntry.valid .factory)
    groups := st.groups.map (Entry.load validMembers [])
    zones := st.zones.map (Entry.load (fun _ => true) false)
    scenarios := st.scenarios.map (Entry.load validSteps [])
    stations := st.stations.map (Entry.load StationEntry.valid .factory)
    supervisors := loadSupervisors st.supervisors
    weather := st.weather.load WeatherBlock.valid .factory
    movement := st.movement.load MovementBlock.valid .factory
    writing := none
    draws := st.draws }

/-- Step 1 of R19: a group with a member that is not an enabled opening takes the empty list. -/
def Store.checkGroups (st : Store) : Store :=
  { st with groups := st.groups.map fun e =>
      if e.value.all st.enabled then e else e.toDefault [] }

/-- Whether the scenario of zone `z` stands, counting only the scenarios `accepted` before it (R19,
step 2). -/
def Store.scenarioStands (st : Store) (accepted : List Nat) (z : Nat) : Bool :=
  ((st.scenario z).all fun x => !(st.group x.group).isEmpty) &&
    stepsApart st.group (st.scenario z) &&
    openingNumbers.all fun n => decide (coverage st.group st.scenario (accepted ++ [z]) n ≤ 4)

/-- The scenarios accepted in the pass of R19, step 2, in ascending zone number. -/
def Store.acceptedScenarios (st : Store) : List Nat :=
  zoneNumbers.foldl (fun acc z => if st.scenarioStands acc z then acc ++ [z] else acc) []

/-- Step 2 of R19. -/
def Store.checkScenarios (st : Store) : Store :=
  let kept := st.acceptedScenarios
  let drop : List (Entry (List ScenarioStep)) → Nat → List (Entry (List ScenarioStep)) :=
    fun l z => if kept.contains z then l else modifyNth l z (Entry.toDefault [])
  { st with scenarios := zoneNumbers.foldl drop st.scenarios }

/-- Step 3 of R19. -/
def Store.checkSupervisors (st : Store) : Store :=
  if supervisorNumbers.any fun m => (st.supervisor m).mayConfigure then st
  else { st with supervisors := modifyNth st.supervisors 1 (Entry.toDefault .factoryFirst) }

/-- What a reset leaves of a write under way: the new value is found at the load where the spare copy
had been completely written and checked (R20). -/
def Store.interrupted (st : Store) (spareWritten : Bool) : Store :=
  match st.writing with
  | some w =>
    if spareWritten then
      (st.onEntry w.entry fun _ _ e => e.spareWritten w.entry.spareIsFirst).abandon
    else st.abandon
  | none => st

/-- The store after a reset (R18 to R20). -/
def Store.atReset (st : Store) (spareWritten : Bool) : Store :=
  (st.interrupted spareWritten).loadEntries.checkGroups.checkScenarios.checkSupervisors

/-- Whether an entry was loaded as a default. -/
def Entry.isDefault {α : Type} (e : Entry α) : Bool := e.origin == .default

/-- Whether some entry was loaded as a default, which raises STORE_FAULT (R18, R19). -/
def Store.anyDefault (st : Store) : Bool :=
  st.openings.any Entry.isDefault || st.groups.any Entry.isDefault || st.zones.any Entry.isDefault ||
    st.scenarios.any Entry.isDefault || st.stations.any Entry.isDefault ||
    st.supervisors.any Entry.isDefault || st.weather.isDefault || st.movement.isDefault

end Sys2Proof.Machine
end

