-- ==== Sys2Proof/Machine/WeatherOps.lean ====
section
/-! DEFINITION. The weather unit's shared operations (04, and the held caps of 05): speeds, the
filter, the limit monitors, the caps, the block write, and the end of each of its events. -/
namespace Sys2Proof.Machine

/-! ### Anemometers (R68, R69) -/

/-- The corrected speed of a gate's count: floor(c × k / 64), then the trim (R68). -/
def correctedSpeed (sc : AnemometerScale) (count : Nat) : Nat :=
  let raw := count * sc.factor / 64
  if sc.trim = 0 then raw
  else if sc.trimMinus then raw - raw / 2 ^ sc.trim
  else raw + raw / 2 ^ sc.trim

/-- An anemometer at the gate end: its class and value, and its counter cleared for the next gate
(R67, R69). The next gate is faulty from its start while the input stands OUT_OF_BAND. -/
def Anemometer.atGateEnd (a : Anemometer) (sc : AnemometerScale) : Anemometer :=
  let next : Anemometer := { a with count := 0, faultyGate := !a.inBand }
  let v := correctedSpeed sc a.count
  if sc.present = false then { next with cls := .absent }
  else if a.faultyGate then { next with cls := .fault }
  else if Config.speedMax < v then { next with cls := .over, value := some Config.speedMax }
  else { next with cls := .valid, value := some v }

/-- Whether an anemometer is usable: VALID or OVER (R69). -/
def Anemometer.usable (a : Anemometer) : Bool := a.cls == .valid || a.cls == .over

/-! ### Combined sample and speed class (R70) -/

/-- The combined sample S, none where neither anemometer is usable (R70). -/
def combinedSample (mode : CombineMode) (a b : Anemometer) : Option Nat :=
  match a.usable, b.usable with
  | true, true =>
    match mode with
    | .average => some ((a.value.getD 0 + b.value.getD 0) / 2)
    | .maximum => some (max (a.value.getD 0) (b.value.getD 0))
  | true, false => some (a.value.getD 0)
  | false, true => some (b.value.getD 0)
  | false, false => none

/-- The class of the wind speed channel, from the anemometers' classes and S (R70). -/
def speedClassOf (a b : Anemometer) (sample : Option Nat) : ChannelClass :=
  match a.usable, b.usable with
  | true, true =>
    if sample = some Config.speedMax ∧ (a.cls = .over ∨ b.cls = .over) then .over else .valid
  | true, false => if a.cls = .over then .over else .valid
  | false, true => if b.cls = .over then .over else .valid
  | false, false =>
    if a.cls = .fault ∨ b.cls = .fault then .fault
    else if a.cls = .stale ∨ b.cls = .stale then .stale
    else .absent

/-! ### The filter (R71, R72) -/

/-- The filtered speed brought toward a sample with filter shift `n` (R71). -/
def filterToward (n f sample : Nat) : Nat :=
  if n = 0 then sample
  else
    let d : Int := (sample : Int) - (f : Int)
    let q : Int := d.tdiv (2 ^ n)
    let q' : Int := if q = 0 then (if d = 0 then 0 else if 0 < d then 1 else -1) else q
    ((f : Int) + q').toNat

/-! ### Limit monitors (R79, R80) -/

/-- A monitor in BAND mode; LOW, which that mode lacks, is judged as NORMAL (R79, R84). -/
def bandNext (m : MonitorLimits) (st : MonitorState) (v : Int) : MonitorState :=
  match st with
  | .high => if v < m.low then .normal else .high
  | .normal => if m.high ≤ v then .high else .normal
  | .low => if m.high ≤ v then .high else .normal

/-- A monitor in HYST mode, the rows of each state from the top (R80). -/
def hystNext (m : MonitorLimits) (st : MonitorState) (v : Int) : MonitorState :=
  match st with
  | .normal => if m.high ≤ v then .high else if v ≤ m.low then .low else .normal
  | .high =>
    if v ≤ m.low then .low else if v < m.high - m.hysteresis then .normal else .high
  | .low =>
    if m.high ≤ v then .high else if m.low + m.hysteresis < v then .normal else .low

/-- One evaluation of a monitor; an unordered value, none here, holds the state (R79). -/
def monitorNext (m : MonitorLimits) (st : MonitorState) (v : Option Int) : MonitorState :=
  match v with
  | none => st
  | some x =>
    match m.mode with
    | .band => bandNext m st x
    | .hyst => hystNext m st x

/-- The value of the wind speed channel in a comparison (R65). DESIGN CHOICE: the channel's value is F,
and it is F that is compared, while the class is OVER too, though R65 and R79 compare a value clamped where
OVER and note 2 of R92 names it as 600 (notes/assumptions/49.md). -/
def Weather.speedValue (w : Weather) : Option Int :=
  if w.speedClass.ordered then some (w.filtered : Int) else none

/-- The value of the temperature channel in a comparison (R65). -/
def Weather.comparedTemp (w : Weather) : Option Int :=
  if w.tempClass.ordered then w.tempValue else none

/-! ### Wind caps (R92 to R95) -/

/-- The computed cap C of a profile, by the table of R92. DESIGN CHOICE: note 2 of R92 says that an OVER
speed gives C equal to 0, while the table takes C from F for VALID and OVER alike; where the class is
OVER and the filtered F is still below v_close the two differ, and the table is followed
(notes/assumptions/46.md). -/
def computedCap (sp : ProfileSpeeds) (cls : ChannelClass) (f : Nat) : Nat :=
  if cls.ordered = false then 0
  else if f ≤ sp.free then 1000
  else if sp.close ≤ f then 0
  else 1000 * (sp.close - f) / (sp.close - sp.free)

/-- The speeds of a profile (R11). -/
def WeatherBlock.speeds (b : WeatherBlock) : Profile → ProfileSpeeds
  | .windward => b.windward
  | .leeward => b.leeward
  | .flat => b.flat

/-- A held cap at a gate end, with no take-over pending (R93). -/
def HeldCap.atGateEnd (h : HeldCap) (c delay : Nat) : HeldCap :=
  if c < h.held then { computed := c, held := c, timer := none }
  else if c = h.held then { computed := c, held := h.held, timer := none }
  else
    match h.timer with
    | none => { computed := c, held := h.held, timer := some 0 }
    | some k =>
      if delay ≤ k + 1 then { computed := c, held := c, timer := none }
      else { computed := c, held := h.held, timer := some (k + 1) }

/-- A held cap at a weather block write, with no take-over pending (R95). -/
def HeldCap.atWrite (h : HeldCap) (c : Nat) : HeldCap :=
  if c < h.held then { computed := c, held := c, timer := none }
  else if c = h.held then { computed := c, held := h.held, timer := none }
  else { computed := c, held := h.held, timer := some (h.timer.getD 0) }

/-- A held cap at a gate end with the take-over pending: taken over where the speed is ordered (R94). -/
def HeldCap.takenOver (h : HeldCap) (c : Nat) (ordered : Bool) : HeldCap :=
  if ordered then { computed := c, held := c, timer := none } else { h with computed := c }

/-- The three caps at a gate end, and the take-over (R92 to R94). -/
def Weather.capsAtGateEnd (w : Weather) (b : WeatherBlock) : Weather :=
  let c := fun p => computedCap (b.speeds p) w.speedClass w.filtered
  let upd := fun p =>
    if w.capTakeOver then (w.cap p).takenOver (c p) w.speedClass.ordered
    else (w.cap p).atGateEnd (c p) b.reopenDelay
  { w with
    capWindward := upd .windward, capLeeward := upd .leeward, capFlat := upd .flat,
    capTakeOver := w.capTakeOver && !w.speedClass.ordered }

/-- The three caps at a weather block write (R95). -/
def Weather.capsAtWrite (w : Weather) (b : WeatherBlock) : Weather :=
  let c := fun p => computedCap (b.speeds p) w.speedClass w.filtered
  let upd := fun p =>
    if w.capTakeOver then { w.cap p with computed := c p } else (w.cap p).atWrite (c p)
  { w with
    capWindward := upd .windward, capLeeward := upd .leeward, capFlat := upd .flat }

/-! ### The dwell of the held direction (R75) -/

/-- Whether a reading is at least the direction deadband from D; no D, no distance. -/
def beyondDeadband (b : WeatherBlock) (heldDir : Option Nat) (reading : Nat) : Bool :=
  match heldDir with
  | some d => b.dirDeadband ≤ angularDistance reading d
  | none => false

/-- Whether a running dwell counts at a gate end: the latest reading is VALID and at least the
deadband from D (R75). -/
def Weather.dwellCounts (w : Weather) (b : WeatherBlock) : Bool :=
  match w.vaneClass, w.vaneValue with
  | .valid, some r => beyondDeadband b w.heldDir r
  | _, _ => false

/-- A running dwell timer that counts goes up by one; at the direction dwell D becomes the latest
reading and the timer stops (R75). -/
def Weather.dwellSecond (w : Weather) (b : WeatherBlock) : Weather :=
  match w.dwell with
  | some k =>
    if w.dwellCounts b then
      if b.dirDwell ≤ k + 1 then { w with heldDir := w.vaneValue, dwell := none }
      else { w with dwell := some (k + 1) }
    else w
  | none => w

/-! ### The gate end (R67) -/

/-- The weather unit's one-second event, in the order of R67: anemometers, combined sample, F and the
speed class, the WIND monitor; then the held caps (R92), the dwell (R75) and the count of gates. -/
def Weather.atGateEnd (w : Weather) (b : WeatherBlock) : Weather :=
  let a' := w.anemA.atGateEnd b.anemA
  let b' := w.anemB.atGateEnd b.anemB
  let sample := combinedSample b.combine a' b'
  let cls := speedClassOf a' b' sample
  let f :=
    match sample with
    | some x => if w.takeOver then x else filterToward b.filterShift w.filtered x
    | none => w.filtered
  let w1 : Weather := { w with
    anemA := a', anemB := b', sample := sample, filtered := f, speedClass := cls,
    speedSeen := w.speedSeen || cls.ordered, takeOver := w.takeOver && sample.isNone }
  let w2 : Weather := { w1 with windState := monitorNext b.windMonitor w1.windState w1.speedValue }
  let w3 := (w2.capsAtGateEnd b).dwellSecond b
  { w3 with gates := min (w.gates + 1) Config.sensorReportGate }

/-! ### The weather block write (R84) -/

/-- An anemometer whose presence a write changed (R84). -/
def Anemometer.afterWrite (a : Anemometer) (before after : Bool) : Anemometer :=
  match before, after with
  | true, false => { a with cls := .absent, count := 0 }
  | false, true => { a with cls := .stale }
  | _, _ => a

/-- A monitor after a write: NORMAL first where its channel became ABSENT or its LOW state lost its
mode, then evaluated once (R84). -/
def monitorAfterWrite (m : MonitorLimits) (st : MonitorState) (becameAbsent : Bool)
    (v : Option Int) : MonitorState :=
  let st1 : MonitorState :=
    if becameAbsent then .normal
    else if st = .low ∧ m.mode = .band then .normal
    else st
  monitorNext m st1 v

/-- The channels after a write, before the monitors (R84). DESIGN CHOICE: a rain contact that a write
makes present again is VALID with the sample kept from before its removal until its next sample, since
R84 names no value for that time (notes/assumptions/41.md). -/
def Weather.channelsAfterWrite (w : Weather) (old new : WeatherBlock) : Weather :=
  let a' := w.anemA.afterWrite old.anemA.present new.anemA.present
  let b' := w.anemB.afterWrite old.anemB.present new.anemB.present
  let first := !(old.anemA.present || old.anemB.present) &&
    (new.anemA.present || new.anemB.present)
  let fitted := old.anemA.present != new.anemA.present || old.anemB.present != new.anemB.present
  let w1 : Weather := { w with
    anemA := a', anemB := b',
    speedClass := if fitted then speedClassOf a' b' w.sample else w.speedClass,
    takeOver := w.takeOver || first, capTakeOver := w.capTakeOver || first }
  let w2 : Weather :=
    match old.vanePresent, new.vanePresent with
    | true, false =>
      { w1 with vaneClass := .absent, vaneTimer := none, heldDir := none, dwell := none }
    | false, true => { w1 with vaneClass := .stale, vaneTimer := some 5000 }
    | _, _ => w1
  let w3 : Weather :=
    if old.dirDeadband ≠ new.dirDeadband ∨ old.dirDwell ≠ new.dirDwell then
      { w2 with dwell := none }
    else w2
  let w4 : Weather :=
    match old.rainPresent, new.rainPresent with
    | true, false => { w3 with wet := false, wetHold := none, dryHold := none }
    | false, true => { w3 with wet := false, wetHold := some 0, dryHold := none }
    | _, _ => w3
  match old.probePresent, new.probePresent with
  | true, false => { w4 with tempClass := .absent, tempTimer := none }
  | false, true => { w4 with tempClass := .stale, tempTimer := some 10000 }
  | _, _ => w4

/-- The weather unit brought into line with a written block; a write equal to the block in effect
changes nothing (R84, R95). -/
def Weather.applyBlock (w : Weather) (old new : WeatherBlock) : Weather :=
  if old = new then w
  else
    let w1 := w.channelsAfterWrite old new
    let w2 : Weather := { w1 with
      windState := monitorAfterWrite new.windMonitor w1.windState
        (w.speedClass != .absent && w1.speedClass == .absent) w1.speedValue
      tempState := monitorAfterWrite new.tempMonitor w1.tempState
        (w.tempClass != .absent && w1.tempClass == .absent) w1.comparedTemp
      supplyState := monitorAfterWrite new.supplyMonitor w1.supplyState false
        (some w1.supplyValue) }
    w2.capsAtWrite new

/-! ### The end of an event of the weather unit (R66) -/

/-- SENSOR_INVALID, judged from the tenth gate end after reset on (R82). -/
def State.sensorInvalid (s : State) : Bool :=
  let w := s.weather
  let b := s.store.weather.value
  Config.sensorReportGate ≤ w.gates &&
    ((b.anemA.present && !w.anemA.cls.ordered) || (b.anemB.present && !w.anemB.cls.ordered) ||
      ((b.anemA.present || b.anemB.present) && !w.speedClass.ordered) ||
      (b.vanePresent && !w.vaneClass.ordered) || (b.probePresent && !w.tempClass.ordered))

/-- What the weather unit reports of an event that began in `before` (R66, R81, R82, R96). DESIGN CHOICE:
where several held caps change in one event WEATHER_CLOSE is judged once for them all, on the profiles
that the openings have until then (notes/assumptions/44.md). -/
def State.reportWeather (s before : State) : State :=
  s.report .weatherUnit
    (changedLive .weatherClose before.weatherClose s.weatherClose ++
      changedLive .rain before.weather.wet s.weather.wet ++
      changedLive .frost before.weather.frost s.weather.frost ++
      changedLive .storm before.weather.storm s.weather.storm ++
      changedLive .lowSupply before.weather.lowSupply s.weather.lowSupply ++
      changedLive .sensorInvalid before.sensorInvalid s.sensorInvalid)
    []

/-- One told change, where something differs. -/
def toldIf (t : WeatherTold) (differs : Bool) : List WeatherTold := if differs then [t] else []

/-- What changed between two states of the weather unit that the resolver is told as events of its
own (R66, R87, R93). DESIGN CHOICE: changes told by one event wait in the order STORM, FROST, rain state,
held caps (WINDWARD, LEEWARD, FLAT), first gate, and the resolver takes them in that order only, though
note 2 of R88 lets it take them in either order (notes/assumptions/51.md). -/
def Weather.told (w w' : Weather) : List WeatherTold :=
  toldIf .storm (w.storm != w'.storm) ++ toldIf .frost (w.frost != w'.frost) ++
    toldIf .rain (w.wet != w'.wet) ++
    (profiles.filter fun p => (w.cap p).held != (w'.cap p).held).map WeatherTold.heldCap ++
    toldIf .firstGate (w.gates == 0 && w'.gates != 0)

/-- The arbiter takes an entry of LOW_SUPPLY or an exit from it (R149). -/
def State.takeSupply (s before : State) : State :=
  if before.weather.lowSupply = s.weather.lowSupply then s else s.budgetsTaken

/-- The resolver's windward test after a change of D (R66, R91). -/
def State.takeDirection (s before : State) : State :=
  if before.weather.heldDir = s.weather.heldDir then s else s.retestWindward

/-- An event of the weather unit that gives it the state `w` (R66). DESIGN CHOICE: where a gate end changes
held caps and, by the dwell, D as well, WEATHER_CLOSE is judged on the new caps with the profiles as they
were, and once more when the windward test has changed the profiles; no rule orders the two
(notes/assumptions/44.md). -/
def State.weatherEvent (s : State) (w : Weather) : State :=
  ((((s.setWeather w).tellWeather (s.weather.told w)).reportWeather s).takeSupply s).takeDirection s

end Sys2Proof.Machine
end

