-- ==== Sys2Proof/Machine/SiteStore.lean ====
section
/-! DEFINITION. The end of a write of the site store (R16, R17): the commitment, what each block does
with the new value, and the meanings of WRITE_COMPLETE and WRITE_FAIL. -/
namespace Sys2Proof.Machine

/-! ### An opening entry (R61, R87, R104, R111, R150, R161) -/

/-- The told events that concern opening `n` are gone with its records (notes/assumptions/17.md). -/
def Mail.without (m : Mail) (n : Nat) : Mail :=
  { m with
    freezes := m.freezes.filter fun k => k != n
    targets := m.targets.filter fun e => e.opening != n
    replies := m.replies.filter fun e => e.opening != n
    outcomes := m.outcomes.filter fun e => e.opening != n
    lost := m.lost.filter fun k => k != n }

/-- Opening `n` has been enabled: its node and movement records are created, and its result is created
and computed, with no previous target (R87, R150, R161). -/
def State.openingEnabled (s : State) (n : Nat) : State :=
  let s1 := s.setBus (s.bus.openingEnabled s.store n)
  let s2 := (s1.setMoves (setNth s1.moves n (some .atReset))).endMoveEvent s1
  s2.recompute [n]

/-- Opening `n` has been disabled: its result, movement record and node record are discarded, and the
conditions that they bore on are judged again (R87, R96, R150, R161). -/
def State.openingDisabled (s : State) (n : Nat) : State :=
  let s1 := (s.setResults (setNth s.results n none)).judgeWeatherClose s
  let s2 := (s1.setMoves (setNth s1.moves n none)).setMail (s1.mail.without n)
  let s3 := s2.endMoveEvent s1
  (s3.setBus (s3.bus.openingDisabled s3.store n)).endBusEvent s3

/-- The blocks take a completed write of opening `n`'s entry, which was `old` (R16): the resolver, the
movement controller, whose event ends with its grants whatever the write was (R132, R148), the drive
bus controller, and the fire unit for the lamps of the old and the new zone (R111). -/
def State.openingWritten (s : State) (n : Nat) (old new : OpeningEntry) : State :=
  let s1 :=
    match old.enabled, new.enabled with
    | false, true => s.openingEnabled n
    | true, false => s.openingDisabled n
    | true, true => (s.recompute [n]).entryJudged n
    | false, false => s.endMoveEvent s
  s1.evalLampsOf ([old.zone, new.zone].filter isZone)

/-! ### The weather block (R84, R95) -/

/-- The weather unit takes the written block in one event, the quantities that changed are told, and
the resolver recomputes every enabled opening (R16, R66, R84). `before` is the state before the
write. DESIGN CHOICE: WEATHER_CLOSE is judged on the new held caps with the profiles as they were, and once
more after the recomputation (notes/assumptions/44.md). -/
def State.weatherWritten (s before : State) (old new : WeatherBlock) : State :=
  let w := s.weather.applyBlock old new
  let s1 := (((s.setWeather w).tellWeather (s.weather.told w)).reportWeather before).takeSupply before
  s1.recompute s1.store.enabledOpenings

/-! ### Every entry -/

/-- The blocks of R16 take the completed write of an entry; `s` holds the new value in effect and
`before` the old. A scenario that it starts leaves its last `left` placements waiting (R111, R112).
DESIGN CHOICE: a value equal to the one in effect is taken like any other, so that a station's gesture in
progress ends (R130), though note 1 of R14 says that nothing changes for the blocks told
(notes/assumptions/47.md). -/
def State.writeTold (s before : State) (left : Nat) : EntryValue → State
  | .opening n v => s.openingWritten n (before.store.opening n) v
  | .group g _ =>
    (stationNumbers.filter fun n => (s.store.station n).group == g).foldl State.cancelStation s
  | .zone z v => s.zoneWritten z v left
  | .scenario _ _ => s
  | .station n _ => s.cancelStation n
  | .supervisor _ _ => s
  | .weather v => s.weatherWritten before before.store.weather.value v
  | .movement _ => s.budgetsTaken

/-- The response to the CONFIGURE of a write that has ended is formed and deferred. Its source is the
part address as it stood before the write (R13, R165, R166). -/
def State.writeAnswered (s before : State) (w : EntryWrite) (status : Status) : State :=
  s.defer (s.formResponse before.store.movement.value.partAddress w.sender 0x0E#8
    { status := status, flags := .none
      body := if status = .accepted then [w.kind, w.index] else [] })

/-- The spare copy has been written and read back correctly: the write is abandoned where the entry
is in use by now, and takes effect otherwise (R16). -/
def State.completeWrite (s : State) (w : EntryWrite) (left : Nat) : State :=
  if s.entryInUse w.entry then (s.setStore s.store.abandon).writeAnswered s w .inUse
  else
    ((s.setStore (s.store.commit w.entry)).writeTold s left w.entry).writeAnswered s w .accepted

/-- The write has failed: STORE_FAULT is raised and answered (R17). -/
def State.failWrite (s : State) (w : EntryWrite) : State :=
  ((s.setStore s.store.abandon).report .siteStore [] [.storeFault]).writeAnswered s w .storeFault

/-! ### The meanings -/

/-- WRITE_COMPLETE; the store is in WRITING (R16). -/
def execWriteComplete (s : State) (left : Nat := 0) : Host.Outcome State Fault Refusal :=
  match s.store.writing with
  | some w => .next (s.completeWrite w left)
  | none => .next s

/-- WRITE_FAIL; the store is in WRITING (R17). -/
def execWriteFail (s : State) : Host.Outcome State Fault Refusal :=
  match s.store.writing with
  | some w => .next (s.failWrite w)
  | none => .next s

end Sys2Proof.Machine
end

