-- ==== Sys2Proof/Machine/RequestOps.lean ====
section
/-! DEFINITION. What each request does (R167 to R172): the checks in the order its rule gives, its
effect, and its owner's answer. A refused request changes nothing. -/
namespace Sys2Proof.Machine

/-- A state and the owner's answer. -/
abbrev Answered := State × Answer

/-- A request refused with a status. -/
def State.refuse (s : State) (st : Status) : Answered := (s, .refused st)

/-! ### PLACE and PROBE (R30, R62) -/

/-- Whether a supervisor's class set holds a class (R10, R168). -/
def SupervisorEntry.mayPlace (e : SupervisorEntry) : DemandClass → Bool
  | .fireman => false
  | .smoke => false
  | .lockout => e.mayLockout
  | .localUse => e.mayLocal
  | .comfort => e.mayComfort
  | .purge => e.mayPurge

/-- The permission step of PLACE and PROBE: a code that names no class passes (R168). -/
def State.classPermitted (s : State) (m : Nat) (cls : Byte) : Bool :=
  match classOfCode cls with
  | some c => (s.store.supervisor m).mayPlace c
  | none => true

/-- The target of a PLACE; none for the field errors 2 to 5 of R30. -/
def State.targetOf (s : State) (kind number : Byte) : Option Target :=
  let k := number.toNat
  match kind.toNat with
  | 0 => if s.store.enabled k then some (.opening k) else none
  | 1 =>
    if 1 ≤ k ∧ k ≤ Config.groupCount ∧ (s.store.group k).isEmpty = false then some (.group k)
    else none
  | _ => none

/-- The mode of a PLACE; none for the field error 8 of R30. -/
def modeOf (b : Byte) : Option DemandMode :=
  match b.toNat with
  | 0 => some .hold
  | 1 => some .yield
  | _ => none

/-- The aperture of a PLACE for a class: absent for LOCKOUT and present, taken as 1000 above 1000, for
every other class. None for the field errors 6 and 7 of R30. -/
def apertureOf (c : DemandClass) (a : Word16) : Option (Option Nat) :=
  match c, a == 0xFFFF#16 with
  | .lockout, true => some none
  | .lockout, false => none
  | _, true => none
  | _, false => some (some (min a.toNat Config.fullAperture))

/-- Whether the aperture field is above 1000 and present (R30, R64). -/
def apertureClamped (a : Word16) : Bool := a != 0xFFFF#16 && Config.fullAperture < a.toNat

/-- A count of seconds, absent where it is 0. -/
def secondsOf (w : Word16) : Option Nat := if w = 0 then none else some w.toNat

/-- The record a PLACE or PROBE of supervisor `m` asks for; none where a field test of R30 fails. -/
def State.placedRecord (s : State) (m : Nat) (f : PlaceFields) : Option DemandRecord :=
  match classOfCode f.cls, s.targetOf f.targetKind f.targetNumber, modeOf f.mode with
  | some c, some t, some mode =>
    match apertureOf c f.aperture with
    | some a => some
        { source := .supervisor m, cls := c, target := t, aperture := a, mode := mode,
          lifetime := secondsOf f.lifetime, waitLimit := secondsOf f.waitLimit,
          waitRemaining := secondsOf f.waitLimit }
    | none => none
  | _, _, _ => none

/-- The placement of a record that the resource test has passed, and the resolver's recomputation
within the command (R32, R37; notes/assumptions/5.md): the new state, the handle, and the flags. -/
def State.carryOutPlace (s : State) (r : DemandRecord) (clamped : Bool) :
    Option (State × Handle × OutcomeFlags) :=
  let ns := s.store.covered r.target
  let x := s.demand.place r ns
  match x.2 with
  | some h =>
    let y := s.endOperation x.1 []
    let s1 := y.1.recompute y.2
    some (s1, h, s1.placementFlags x.1 (s.demand.matching r).isSome h ns clamped)
  | none => none

/-- The record named by a handle, in a payload. -/
def State.recordPayload (s : State) (h : Handle) : List Byte :=
  match s.demand.find h with
  | some r => s.demand.recordBytes h r
  | none => []

/-- PLACE (R30 to R37): permission, fields, resources, and then the placement. -/
def State.requestPlace (s : State) (m : Nat) (f : PlaceFields) : Answered :=
  if s.classPermitted m f.cls then
    match s.placedRecord m f with
    | some r =>
      match s.demand.refusal r (s.store.covered r.target) with
      | some st => s.refuse st
      | none =>
        match s.carryOutPlace r (apertureClamped f.aperture) with
        | some x =>
          (x.1, { status := .accepted, flags := x.2.2, body := x.1.recordPayload x.2.1 })
        | none => s.refuse .noSlot
    | none => s.refuse .badField
  else s.refuse .notPermitted

/-- The target apertures of openings. -/
def State.targetsOf (s : State) (ns : List Nat) : List Nat :=
  ns.filterMap fun n =>
    match s.result n with
    | some r => some r.target
    | none => none

/-- The smallest and the largest of several apertures, two bytes each. -/
def rangeBytes (l : List Nat) : List Byte :=
  match l with
  | [] => optWord none ++ optWord none
  | a :: rest => wordBytes (rest.foldl min a) ++ wordBytes (rest.foldl max a)

/-- What a PROBE reports of a refusal (R174). -/
def wouldRefuseCode : Status → Byte
  | .noSlot => 1
  | .listFull => 2
  | _ => 0

/-- PROBE (R62 to R64): the checks of PLACE, and the outcome on a state that is then let go. -/
def State.requestProbe (s : State) (m : Nat) (f : PlaceFields) : Answered :=
  if s.classPermitted m f.cls then
    match s.placedRecord m f with
    | some r =>
      let ns := s.store.covered r.target
      match s.demand.refusal r ns with
      | some st =>
        (s, { status := .accepted, flags := clampedOnly (apertureClamped f.aperture)
              body := wouldRefuseCode st :: rangeBytes (s.targetsOf ns) })
      | none =>
        match s.carryOutPlace r (apertureClamped f.aperture) with
        | some x =>
          (s, { status := .accepted, flags := x.2.2
                body := 0 :: rangeBytes (x.1.targetsOf ns) })
        | none => s.refuse .noSlot
    | none => s.refuse .badField
  else s.refuse .notPermitted

/-! ### ADJUST and RETIRE (R38, R42) -/

/-- The handle of two payload bytes. -/
def handleOfBytes (slot gen : Byte) : Handle := { slot := slot.toNat, gen := gen }

/-- Whether a handle names a living LOCKOUT record (R38). -/
def DemandTable.isLockout (t : DemandTable) (h : Handle) : Bool :=
  match t.find h with
  | some r => r.cls == .lockout
  | none => false

/-- The adjustment of supervisor `m`'s record `r`, named by `h`, and the resolver's recomputation
within the command (R38; notes/assumptions/5.md). DESIGN CHOICE: the openings that the record heads are
recomputed even where its aperture stays as it was, as R38 has it of every adjustment, though R58 names
only a head whose aperture was changed and note 2 of R38 has a delta of 0 change nothing
(notes/assumptions/52.md). -/
def State.carryOutAdjust (s : State) (h : Handle) (r : DemandRecord) (delta : Int) : Answered :=
  let a := r.aperture.getD 0
  let r' : DemandRecord := { r with aperture := some (adjustedAperture a delta) }
  let y := s.endOperation (s.demand.rewrite h.slot r').run (s.demand.headedBy h)
  let s1 := y.1.recompute y.2
  (s1, { status := .accepted
         flags := s1.standingFlags h (s.store.covered r.target) (adjustmentClamped a delta)
         body := s1.recordPayload h })

/-- ADJUST (R38): fields, existence, ownership. -/
def State.requestAdjust (s : State) (m : Nat) (slot gen : Byte) (delta : Word16) : Answered :=
  let h := handleOfBytes slot gen
  if delta.toInt < -1000 ∨ 1000 < delta.toInt ∨ s.demand.isLockout h = true then
    s.refuse .badField
  else
    match s.demand.find h with
    | some r =>
      if r.source = .supervisor m then s.carryOutAdjust h r delta.toInt else s.refuse .notOwner
    | none => s.refuse .notFound

/-- RETIRE (R42): existence, ownership. The answer carries the record as it stood. -/
def State.requestRetire (s : State) (m : Nat) (slot gen : Byte) : Answered :=
  let h := handleOfBytes slot gen
  match s.demand.find h with
  | some r =>
    if r.source = .supervisor m then
      (s.retireSlot h.slot .retired, .accepted (s.demand.recordBytes h r))
    else s.refuse .notOwner
  | none => s.refuse .notFound

/-! ### Reading the table (R49) -/

/-- The handles of the living records that `p` holds of, in ascending slot order. -/
def DemandTable.handlesWhere (t : DemandTable) (p : DemandRecord → Bool) : List Handle :=
  (t.usedSlots.filter fun k =>
    match t.inSlot k with
    | some r => p r
    | none => false).map t.handleOf

/-- LIST_RECORDS (R49). -/
def State.requestList (s : State) (filter : Option (Byte × Byte)) : Answered :=
  match filter with
  | none => (s, .accepted (handleListBytes (s.demand.handlesWhere fun _ => true)))
  | some (kind, number) =>
    match sourceOf kind number with
    | some src => (s, .accepted (handleListBytes (s.demand.handlesWhere fun r => r.source == src)))
    | none => s.refuse .badField

/-- READ_RECORD (R49). -/
def State.requestReadRecord (s : State) (slot gen : Byte) : Answered :=
  let h := handleOfBytes slot gen
  match s.demand.find h with
  | some r => (s, .accepted (s.demand.recordBytes h r))
  | none => s.refuse .notFound

/-! ### Reading the other blocks (R83, R121, R169) -/

/-- READ_OPENING (R169). -/
def State.requestReadOpening (s : State) (opening : Byte) : Answered :=
  if isOpening opening.toNat then (s, .accepted (s.openingPayload opening.toNat))
  else s.refuse .badField

/-- READ_GROUP (R169). -/
def State.requestReadGroup (s : State) (group : Byte) : Answered :=
  if 1 ≤ group.toNat ∧ group.toNat ≤ Config.groupCount then
    (s, .accepted (s.groupPayload group.toNat))
  else s.refuse .badField

/-- The READ_ZONE payload (R121). -/
def State.zonePayload (s : State) (z : Nat) : List Byte :=
  match s.zone z with
  | some r => r.bytes (s.store.zoneEnabled z) (switchReading r.openMade r.closeMade)
      (s.demand.slotsOf (.scenario z)).length
      (match s.demand.slotsOf (.fireman z) with
        | k :: _ => some (s.demand.handleOf k)
        | [] => none)
  | none => []

/-- READ_ZONE (R121). -/
def State.requestReadZone (s : State) (zone : Byte) : Answered :=
  if isZone zone.toNat then (s, .accepted (s.zonePayload zone.toNat)) else s.refuse .badField

/-- READ_WEATHER (R83, R97). -/
def State.requestReadWeather (s : State) : Answered :=
  (s, .accepted (s.weather.bytes s.store.weather.value))

/-! ### Conditions (R171, R178, R179) -/

/-- The condition unit judges attention at the end of one of its events (R179). -/
def Conditions.judged (c : Conditions) : Conditions := { c with attention := c.calls }

/-- Whether a set names a condition number above 18 (R171). -/
def namesNoCondition (set : BitVec 24) : Bool := set.extractLsb' 19 5 != 0

/-- READ_CONDITIONS (R171). -/
def State.requestReadConditions (s : State) : Answered := (s, .accepted s.conditions.bytes)

/-- CLEAR_CONDITIONS (R171, R178). -/
def State.requestClearConditions (s : State) (set : BitVec 24) : Answered :=
  if namesNoCondition set then s.refuse .badField
  else
    (s.setConditions (Conditions.judged { s.conditions with
      sticky := s.conditions.sticky &&& ~~~(set.extractLsb' 0 19) }), .accepted [])

/-- SET_MASK (R171, R179). -/
def State.requestSetMask (s : State) (set : BitVec 24) : Answered :=
  if namesNoCondition set then s.refuse .badField
  else
    (s.setConditions (Conditions.judged { s.conditions with mask := set.extractLsb' 0 19 }),
      .accepted [])

/-! ### CONFIGURE and READ_CONFIG (R14, R170) -/

/-- What CONFIGURE leads to: none where the write starts and the response is deferred (R14, R166). It is
BUSY while a write is under way, and while the deferred response of one has not yet been sent (R166,
note 2). -/
def State.requestConfigure (s : State) (m : Nat) (kind index : Byte) (value : List Byte) :
    State × Option Answer :=
  if (s.store.supervisor m).mayConfigure then
    match parseEntry kind index value with
    | some ev =>
      if ev.valid && s.store.relationsHold ev then
        match s.store.writing, s.link.deferred with
        | some _, _ => (s, some (.refused .busy))
        | none, some _ => (s, some (.refused .busy))
        | none, none =>
          if s.entryInUse ev then (s, some (.refused .inUse))
          else
            (s.setStore (s.store.begin { entry := ev, sender := m, kind := kind, index := index }),
              none)
      else (s, some (.refused .badField))
    | none => (s, some (.refused .badField))
  else (s, some (.refused .notPermitted))

/-- READ_CONFIG (R170). -/
def State.requestReadConfig (s : State) (kind index : Byte) : Answered :=
  match s.store.entryInEffect kind index with
  | some x => (s, .accepted ([kind, index, x.1.code] ++ x.2.bytes))
  | none => s.refuse .badField

/-! ### CLEAR_FAULT, FIRE_RESET and RESTART (R117, R145, R172) -/

/-- A CLEAR_FAULT acts on the movement state it finds (R145), and its event ends in every state
(R132). -/
def State.clearFault (s : State) (n : Nat) : State :=
  (match s.moveState n with
    | some .faulted => s.returnFaulted n
    | some .retryWait => s.returnFaulted n
    | _ => s).endMoveEvent s

/-- The movement state and fault reason of opening `n`, in a payload. -/
def State.faultPayload (s : State) (n : Nat) : List Byte :=
  match s.move n with
  | some m => [m.state.code, reasonCode m.faultReason]
  | none => [0xFF, 0xFF]

/-- The fault reason of opening `n`. -/
def State.faultReasonOf (s : State) (n : Nat) : Option FaultReason :=
  match s.move n with
  | some m => m.faultReason
  | none => none

/-- CLEAR_FAULT (R145). -/
def State.requestClearFault (s : State) (opening : Byte) : Answered :=
  let n := opening.toNat
  if s.store.enabled n then
    (s.clearFault n,
      .accepted ((s.clearFault n).faultPayload n ++ [reasonCode (s.faultReasonOf n)]))
  else s.refuse .badField

/-- FIRE_RESET (R117, R118). -/
def State.requestFireReset (s : State) (m : Nat) : Answered :=
  if (s.store.supervisor m).mayFireReset then
    (s.fireReset, .accepted [zoneSetByte s.latchedZones])
  else s.refuse .notPermitted

/-- RESTART: the restart itself comes when the response has been sent or discarded (R172). -/
def State.requestRestart (s : State) (m : Nat) : Answered :=
  if (s.store.supervisor m).mayRestart then (s, .accepted []) else s.refuse .notPermitted

/-! ### Each request with its response (R165, R173) -/

/-- An answered request has its response formed, after its own effect, and held. -/
def Answered.respond (x : Answered) (m : Nat) (code : Byte) : State := x.1.respond m code x.2

def State.takePlace (s : State) (m : Nat) (f : PlaceFields) : State :=
  (s.requestPlace m f).respond m 0x01#8

def State.takeAdjust (s : State) (m : Nat) (slot gen : Byte) (delta : Word16) : State :=
  (s.requestAdjust m slot gen delta).respond m 0x02#8

def State.takeRetire (s : State) (m : Nat) (slot gen : Byte) : State :=
  (s.requestRetire m slot gen).respond m 0x03#8

def State.takeProbe (s : State) (m : Nat) (f : PlaceFields) : State :=
  (s.requestProbe m f).respond m 0x04#8

def State.takeList (s : State) (m : Nat) (filter : Option (Byte × Byte)) : State :=
  (s.requestList filter).respond m 0x05#8

def State.takeReadRecord (s : State) (m : Nat) (slot gen : Byte) : State :=
  (s.requestReadRecord slot gen).respond m 0x06#8

def State.takeReadOpening (s : State) (m : Nat) (opening : Byte) : State :=
  (s.requestReadOpening opening).respond m 0x07#8

def State.takeReadGroup (s : State) (m : Nat) (group : Byte) : State :=
  (s.requestReadGroup group).respond m 0x08#8

def State.takeReadZone (s : State) (m : Nat) (zone : Byte) : State :=
  (s.requestReadZone zone).respond m 0x09#8

def State.takeReadWeather (s : State) (m : Nat) : State := s.requestReadWeather.respond m 0x0A#8

def State.takeReadConditions (s : State) (m : Nat) : State :=
  s.requestReadConditions.respond m 0x0B#8

def State.takeClearConditions (s : State) (m : Nat) (set : BitVec 24) : State :=
  (s.requestClearConditions set).respond m 0x0C#8

def State.takeSetMask (s : State) (m : Nat) (set : BitVec 24) : State :=
  (s.requestSetMask set).respond m 0x0D#8

/-- An accepted CONFIGURE has no response yet (R166); its frame discards a held response that still waits
like any other (R165; notes/assumptions/6.md). -/
def State.takeConfigure (s : State) (m : Nat) (kind index : Byte) (value : List Byte) : State :=
  let x := s.requestConfigure m kind index value
  match x.2 with
  | some a => x.1.respond m 0x0E#8 a
  | none => x.1.dropHeld

def State.takeReadConfig (s : State) (m : Nat) (kind index : Byte) : State :=
  (s.requestReadConfig kind index).respond m 0x0F#8

def State.takeClearFault (s : State) (m : Nat) (opening : Byte) : State :=
  (s.requestClearFault opening).respond m 0x10#8

def State.takeFireReset (s : State) (m : Nat) : State := (s.requestFireReset m).respond m 0x11#8

def State.takeRestart (s : State) (m : Nat) : State := (s.requestRestart m).respond m 0x12#8

end Sys2Proof.Machine
end

