-- ==== Sys2Proof/Machine/ConditionUnit.lean ====
section
/-! DEFINITION. The condition unit (11): the taking of a report, and the meaning of
CONDITION_REPORT. -/
namespace Sys2Proof.Machine

/-- Whether a condition is in a set. -/
def Condition.isIn (c : Condition) (set : BitVec 19) : Bool := set.getLsbD c.number

/-- A reported live state is taken: for a live condition the sticky state is set at a rise (R177). -/
def Conditions.takeLive (u : Conditions) (x : Condition × Bool) : Conditions :=
  { u with
    live := if x.2 then u.live ||| x.1.bit else u.live &&& ~~~x.1.bit
    sticky :=
      if x.1.setsOnRise && x.2 && !x.1.isIn u.live then u.sticky ||| x.1.bit else u.sticky }

/-- A reported event sets the sticky state of its condition (R177). -/
def Conditions.takeEvent (u : Conditions) (c : Condition) : Conditions :=
  { u with sticky := u.sticky ||| c.bit }

/-- A report is taken as one event, and attention is judged (R177, R179). -/
def Conditions.take (u : Conditions) (r : Report) : Conditions :=
  Conditions.judged (r.events.foldl Conditions.takeEvent (r.lives.foldl Conditions.takeLive u))

/-- CONDITION_REPORT: the oldest report of an owner is taken (R177). -/
def execConditionReport (owner : Owner) (s : State) : Host.Outcome State Fault Refusal :=
  match takeFirst (fun r => r.owner == owner) s.mail.reports with
  | some (r, rest) =>
    .next ((s.setMail { s.mail with reports := rest }).setConditions (s.conditions.take r))
  | none => .next s

end Sys2Proof.Machine
end

