-- ==== Sys2Proof/Machine/Demand.lean ====
section
/-! DEFINITION. The meanings of the demand manager's own timer events (R44 to R46). -/
namespace Sys2Proof.Machine

/-- The demand manager's one-second event: the count-down fixes the records to retire, and these are
retired in ascending slot order within one operation (R46). -/
def State.demandSecond (s : State) : State :=
  let t := s.demand.countDown
  s.closeOperation (t.doomed.foldl (fun run x => run.retire x.1 x.2) t.run) []

/-- DEMAND_TICK (R46). -/
def execDemandTick (s : State) : Host.Outcome State Fault Refusal := .next s.demandSecond

/-- RECORD_EXPIRED: the lifetime remaining of the record in slot `k` reaches 0 and it is retired
EXPIRED (R44, R46). It does so where its last second is left; otherwise nothing happens
(notes/assumptions/3.md). -/
def execRecordExpired (k : Nat) (s : State) : Host.Outcome State Fault Refusal :=
  if isSlot k then
    match s.demand.inSlot k with
    | some r => if r.lifetime = some 1 then .next (s.retireSlot k .expired) else .next s
    | none => .next s
  else .fault .noSuchSlot

/-- RECORD_STARVED: the wait remaining of the OUTRANKED record in slot `k` reaches 0 and it is retired
STARVED (R45, R46). -/
def execRecordStarved (k : Nat) (s : State) : Host.Outcome State Fault Refusal :=
  if isSlot k then
    match s.demand.inSlot k with
    | some r =>
      if s.demand.status (s.demand.handleOf k) = .outranked ∧ r.waitRemaining = some 1 then
        .next (s.retireSlot k .starved)
      else .next s
    | none => .next s
  else .fault .noSuchSlot

end Sys2Proof.Machine
end

