-- ==== Sys2Proof/Machine/LinkLine.lean ====
section
/-! DEFINITION. The supervisory link as a line (10): the receiver, the frame checks, the request a
frame carries, the sending of responses, and the meanings of these commands. -/
namespace Sys2Proof.Machine

/-! ### The receiver (R163) -/

/-- The link with its buffer emptied and its receiver in state `rx`. -/
def Link.emptied (l : Link) (rx : RxState) : Link :=
  { l with rx := rx, buffer := [], misframed := false }

/-- A byte reaches the receiver. One with a framing error counts as a byte, and the buffer that takes
it fails its frame check later. -/
def Link.receive (l : Link) (b : Byte) (misframed : Bool) : Link :=
  match l.rx with
  | .idle => { l with rx := .receiving, buffer := [b], misframed := misframed }
  | .receiving =>
    if l.buffer.length < Config.bufferMax then
      { l with buffer := l.buffer ++ [b], misframed := l.misframed || misframed }
    else l.emptied .discarding
  | .discarding => l

/-- A byte arrives on the line: nothing is received while the part transmits; a held response that has
not started is discarded, and the receiver takes the byte (R163, R165). -/
def Link.byteArrives (l : Link) (b : Byte) (misframed : Bool) : Link :=
  match l.sending with
  | some _ => l
  | none => l.discardHeld.receive b misframed

/-- The part begins to transmit a response; a partial frame is emptied (R163). -/
def Link.startSending (l : Link) (r : Response) : Link :=
  { l with sending := some r, buffer := [], misframed := false }

/-- The part ends a transmission: the receiver is DISCARDING, and after the response to an accepted
RESTART the part restarts (R163, R172). -/
def Link.endSending (l : Link) (r : Response) : Link :=
  { l with
    sending := none, rx := .discarding, buffer := [], misframed := false
    restartDue := l.restartDue || r.restarts }

/-! ### The frame and addressing checks (R164) -/

/-- The frame check. -/
def frameChecks (frame : List Byte) : Bool :=
  decide (6 ≤ frame.length) && decide ((frame.getD 3 0).toNat ≤ Config.payloadMax) &&
    frame.length == 6 + (frame.getD 3 0).toNat && checkHolds frame

/-- The addressing check, against the part address in effect. -/
def addressChecks (partAddress : Nat) (frame : List Byte) : Bool :=
  (frame.getD 0 0).toNat == partAddress && isSupervisor (frame.getD 1 0).toNat &&
    decide ((frame.getD 2 0).toNat < 0x80)

/-! ### The request a frame carries (R167, R173) -/

/-- Whether the sender has the permission that a request needs (R168); judged on the class field of a
PLACE or PROBE where there is one, whatever the length (notes/assumptions/16.md). -/
def State.permitted (s : State) (m : Nat) (code : Byte) (payload : List Byte) : Bool :=
  match code.toNat, payload with
  | 0x01, cls :: _ => s.classPermitted m cls
  | 0x04, cls :: _ => s.classPermitted m cls
  | 0x0E, _ => (s.store.supervisor m).mayConfigure
  | 0x11, _ => (s.store.supervisor m).mayFireReset
  | 0x12, _ => (s.store.supervisor m).mayRestart
  | _, _ => true

/-- A request whose code is unknown or whose payload has not the length of its form: NOT_PERMITTED at
the permission step, or else BAD_FIELD (R167). -/
def State.takeMalformed (s : State) (m : Nat) (code : Byte) (payload : List Byte) : State :=
  (s.refuse (if s.permitted m code payload then .badField else .notPermitted)).respond m code

/-- A request of supervisor `m` goes to its owner by its code (R173), where the payload has the form
of R174. -/
def State.takeRequest (s : State) (m : Nat) (code : Byte) (payload : List Byte) : State :=
  match code.toNat, payload with
  | 0x01, _ =>
    match placeFieldsOf payload with
    | some f => s.takePlace m f
    | none => s.takeMalformed m code payload
  | 0x02, [slot, gen, hi, lo] => s.takeAdjust m slot gen (joinBytes hi lo)
  | 0x03, [slot, gen] => s.takeRetire m slot gen
  | 0x04, _ =>
    match placeFieldsOf payload with
    | some f => s.takeProbe m f
    | none => s.takeMalformed m code payload
  | 0x05, [] => s.takeList m none
  | 0x05, [kind, number] => s.takeList m (some (kind, number))
  | 0x06, [slot, gen] => s.takeReadRecord m slot gen
  | 0x07, [n] => s.takeReadOpening m n
  | 0x08, [g] => s.takeReadGroup m g
  | 0x09, [z] => s.takeReadZone m z
  | 0x0A, [] => s.takeReadWeather m
  | 0x0B, [] => s.takeReadConditions m
  | 0x0C, [a, b, c] => s.takeClearConditions m (a ++ b ++ c)
  | 0x0D, [a, b, c] => s.takeSetMask m (a ++ b ++ c)
  | 0x0E, kind :: index :: value => s.takeConfigure m kind index value
  | 0x0F, [kind, index] => s.takeReadConfig m kind index
  | 0x10, [n] => s.takeClearFault m n
  | 0x11, [] => s.takeFireReset m
  | 0x12, [] => s.takeRestart m
  | _, _ => s.takeMalformed m code payload

/-- A frame is taken: one that fails a check changes nothing but the receiver, and any other is a
request (R164). One with a framing error in a byte fails the frame check (R163). -/
def State.takeFrame (s : State) (frame : List Byte) (misframed : Bool) : State :=
  if !misframed && frameChecks frame && addressChecks s.store.movement.value.partAddress frame then
    s.takeRequest (frame.getD 1 0).toNat (frame.getD 2 0) ((frame.drop 4).take (frame.length - 6))
  else s

/-! ### The meanings -/

/-- FRAME_TAKEN: 4 idle character times in RECEIVING (R163, R164). -/
def execFrameTaken (s : State) : Host.Outcome State Fault Refusal :=
  if s.link.rx = .receiving ∧ s.link.sending = none then
    .next ((s.setLink (s.link.emptied .idle)).takeFrame s.link.buffer s.link.misframed)
  else .next s

/-- RECEIVE_BUFFER_OVERFLOW: a byte arrives with the buffer full (R163). -/
def execReceiveBufferOverflow (s : State) : Host.Outcome State Fault Refusal :=
  if s.link.rx = .receiving ∧ Config.bufferMax ≤ s.link.buffer.length ∧ s.link.sending = none then
    .next (s.setLink (s.link.byteArrives 0 false))
  else .next s

/-- DISCARD_IDLE_GAP: 4 idle character times in DISCARDING (R163). -/
def execDiscardIdleGap (s : State) : Host.Outcome State Fault Refusal :=
  if s.link.rx = .discarding ∧ s.link.sending = none then
    .next (s.setLink { s.link with rx := .idle })
  else .next s

/-- HELD_RESPONSE_SEND (R165). -/
def execHeldResponseSend (s : State) : Host.Outcome State Fault Refusal :=
  match s.link.held, s.link.sending with
  | some r, none => .next (s.setLink (Link.startSending { s.link with held := none } r))
  | _, _ => .next s

/-- HELD_RESPONSE_DISCARD: the byte `b` arrives before the held response has started (R165). -/
def execHeldResponseDiscard (b : Byte) (s : State) (misframed : Bool := false) :
    Host.Outcome State Fault Refusal :=
  if s.link.held.isSome then .next (s.setLink (s.link.byteArrives b misframed)) else .next s

/-- DEFERRED_RESPONSE_SEND: no frame is being received, no held response waits or is being sent, and
the line is idle (R166). -/
def execDeferredResponseSend (s : State) : Host.Outcome State Fault Refusal :=
  match s.link.deferred with
  | some r =>
    if s.link.rx = .idle ∧ s.link.held = none ∧ s.link.sending = none then
      .next (s.setLink (Link.startSending { s.link with deferred := none } r))
    else .next s
  | none => .next s

/-- TRANSMISSION_END (R163). -/
def execTransmissionEnd (s : State) : Host.Outcome State Fault Refusal :=
  match s.link.sending with
  | some r => .next (s.setLink (s.link.endSending r))
  | none => .next s

/-- BYTE_ARRIVES (R163). -/
def execByteArrives (b : Byte) (s : State) (misframed : Bool := false) :
    Host.Outcome State Fault Refusal :=
  .next (s.setLink (s.link.byteArrives b misframed))

end Sys2Proof.Machine
end

