-- ==== Sys2Proof/Machine/Requests.lean ====
section
/-! DEFINITION. The meanings of the request commands (10): a request of a supervisor 1 to 4 is taken
by its owner and answered. A frame from any other source changes nothing (R164). -/
namespace Sys2Proof.Machine

/-- PLACE (R30 to R37). -/
def execPlace (m : Nat) (f : PlaceFields) (s : State) : Host.Outcome State Fault Refusal :=
  if isSupervisor m then .next (s.takePlace m f) else .next s

/-- ADJUST (R38). -/
def execAdjust (m : Nat) (slot gen : Byte) (delta : Word16) (s : State) :
    Host.Outcome State Fault Refusal :=
  if isSupervisor m then .next (s.takeAdjust m slot gen delta) else .next s

/-- RETIRE (R42). -/
def execRetire (m : Nat) (slot gen : Byte) (s : State) : Host.Outcome State Fault Refusal :=
  if isSupervisor m then .next (s.takeRetire m slot gen) else .next s

/-- PROBE (R62 to R64). -/
def execProbe (m : Nat) (f : PlaceFields) (s : State) : Host.Outcome State Fault Refusal :=
  if isSupervisor m then .next (s.takeProbe m f) else .next s

/-- LIST_RECORDS (R49). -/
def execListRecords (m : Nat) (filter : Option (Byte × Byte)) (s : State) :
    Host.Outcome State Fault Refusal :=
  if isSupervisor m then .next (s.takeList m filter) else .next s

/-- READ_RECORD (R49). -/
def execReadRecord (m : Nat) (slot gen : Byte) (s : State) : Host.Outcome State Fault Refusal :=
  if isSupervisor m then .next (s.takeReadRecord m slot gen) else .next s

/-- READ_OPENING (R169). -/
def execReadOpening (m : Nat) (opening : Byte) (s : State) : Host.Outcome State Fault Refusal :=
  if isSupervisor m then .next (s.takeReadOpening m opening) else .next s

/-- READ_GROUP (R169). -/
def execReadGroup (m : Nat) (group : Byte) (s : State) : Host.Outcome State Fault Refusal :=
  if isSupervisor m then .next (s.takeReadGroup m group) else .next s

/-- READ_ZONE (R121). -/
def execReadZone (m : Nat) (zone : Byte) (s : State) : Host.Outcome State Fault Refusal :=
  if isSupervisor m then .next (s.takeReadZone m zone) else .next s

/-- READ_WEATHER (R83, R97). -/
def execReadWeather (m : Nat) (s : State) : Host.Outcome State Fault Refusal :=
  if isSupervisor m then .next (s.takeReadWeather m) else .next s

/-- READ_CONDITIONS (R171). -/
def execReadConditions (m : Nat) (s : State) : Host.Outcome State Fault Refusal :=
  if isSupervisor m then .next (s.takeReadConditions m) else .next s

/-- CLEAR_CONDITIONS (R171, R178). -/
def execClearConditions (m : Nat) (set : BitVec 24) (s : State) :
    Host.Outcome State Fault Refusal :=
  if isSupervisor m then .next (s.takeClearConditions m set) else .next s

/-- SET_MASK (R171, R179). -/
def execSetMask (m : Nat) (set : BitVec 24) (s : State) : Host.Outcome State Fault Refusal :=
  if isSupervisor m then .next (s.takeSetMask m set) else .next s

/-- CONFIGURE (R14, R170). -/
def execConfigure (m : Nat) (kind index : Byte) (value : List Byte) (s : State) :
    Host.Outcome State Fault Refusal :=
  if isSupervisor m then .next (s.takeConfigure m kind index value) else .next s

/-- READ_CONFIG (R170). -/
def execReadConfig (m : Nat) (kind index : Byte) (s : State) : Host.Outcome State Fault Refusal :=
  if isSupervisor m then .next (s.takeReadConfig m kind index) else .next s

/-- CLEAR_FAULT (R145). -/
def execClearFault (m : Nat) (opening : Byte) (s : State) : Host.Outcome State Fault Refusal :=
  if isSupervisor m then .next (s.takeClearFault m opening) else .next s

/-- FIRE_RESET (R117, R118). -/
def execFireReset (m : Nat) (s : State) : Host.Outcome State Fault Refusal :=
  if isSupervisor m then .next (s.takeFireReset m) else .next s

/-- RESTART (R172). -/
def execRestart (m : Nat) (s : State) : Host.Outcome State Fault Refusal :=
  if isSupervisor m then .next (s.takeRestart m) else .next s

end Sys2Proof.Machine
end

