-- ==== Sys2Proof/Machine/WeatherUnit.lean ====
section
/-! DEFINITION. The meanings of the weather unit's commands (04, and R93). -/
namespace Sys2Proof.Machine

/-! ### Anemometers (R67) -/

/-- A pulse in the current gate; an absent anemometer's pulses are not counted (R67). -/
def Anemometer.pulse (a : Anemometer) (present : Bool) : Anemometer :=
  if present then { a with count := min (a.count + 1) Config.pulseMax } else a

/-- The supervision input takes a level; OUT_OF_BAND marks the gate faulty (R67). -/
def Anemometer.supervise (a : Anemometer) (inBand : Bool) : Anemometer :=
  { a with inBand := inBand, faultyGate := a.faultyGate || !inBand }

/-- ANEMOMETER_PULSE (R67). -/
def execAnemometerPulse (which : AnemometerId) (s : State) : Host.Outcome State Fault Refusal :=
  match which with
  | .a => .next (s.setWeather { s.weather with
      anemA := s.weather.anemA.pulse s.store.weather.value.anemA.present })
  | .b => .next (s.setWeather { s.weather with
      anemB := s.weather.anemB.pulse s.store.weather.value.anemB.present })

/-- ANEMOMETER_SUPERVISION (R67). -/
def execAnemometerSupervision (which : AnemometerId) (inBand : Bool) (s : State) :
    Host.Outcome State Fault Refusal :=
  match which with
  | .a => .next (s.setWeather { s.weather with anemA := s.weather.anemA.supervise inBand })
  | .b => .next (s.setWeather { s.weather with anemB := s.weather.anemB.supervise inBand })

/-- GATE_END (R67). -/
def execGateEnd (s : State) : Host.Outcome State Fault Refusal :=
  .next (s.weatherEvent (s.weather.atGateEnd s.store.weather.value))

/-! ### What comes about at a gate end, named by itself (notes/assumptions/3.md) -/

/-- Whether a profile's reopen timer reaches the reopen delay with C above H (R93). -/
def Weather.reopenDue (w : Weather) (b : WeatherBlock) (p : Profile) : Bool :=
  match (w.cap p).timer with
  | some k => !w.capTakeOver && b.reopenDelay ≤ k + 1 && (w.cap p).held < (w.cap p).computed
  | none => false

/-- REOPEN_TIMER_EXPIRY: the count reaches the reopen delay and H rises to C (R93). -/
def execReopenTimerExpiry (p : Profile) (s : State) : Host.Outcome State Fault Refusal :=
  if s.weather.reopenDue s.store.weather.value p then
    let c := s.weather.cap p
    .next (s.weatherEvent
      (s.weather.setCap p { computed := c.computed, held := c.computed, timer := none }))
  else .next s

/-- SENSOR_REPORT_START: the tenth gate end after reset, at which SENSOR_INVALID is judged and
reported for the first time (R82). -/
def execSensorReportStart (s : State) : Host.Outcome State Fault Refusal :=
  if s.weather.gates + 1 = Config.sensorReportGate then
    .next (s.weatherEvent { s.weather with gates := Config.sensorReportGate })
  else .next s

/-- DWELL_REACHED: the dwell count reaches the direction dwell and D takes the latest reading (R75). -/
def execDwellReached (s : State) : Host.Outcome State Fault Refusal :=
  match s.weather.dwell with
  | some k =>
    if s.weather.dwellCounts s.store.weather.value = true ∧
        s.store.weather.value.dirDwell ≤ k + 1 then
      .next (s.weatherEvent { s.weather with heldDir := s.weather.vaneValue, dwell := none })
    else .next s
  | none => .next s

/-! ### The vane (R73 to R75) -/

/-- A VALID vane reading: D takes it at once while absent, and the dwell is judged otherwise (R73 to
R75). -/
def Weather.validReading (w : Weather) (b : WeatherBlock) (d : Nat) : Weather :=
  let w1 : Weather := { w with vaneClass := .valid, vaneValue := some d, vaneTimer := some 5000 }
  match w.heldDir with
  | none => { w1 with heldDir := some d }
  | some _ =>
    if beyondDeadband b w.heldDir d then { w1 with dwell := some (w.dwell.getD 0) }
    else { w1 with dwell := none }

/-- A vane reading, unreadable where none (R73). -/
def Weather.vaneReading (w : Weather) (b : WeatherBlock) (r : Option Nat) : Weather :=
  match r with
  | some d =>
    if d < 360 then w.validReading b d
    else { w with vaneClass := .fault, vaneTimer := some 5000 }
  | none => { w with vaneClass := .fault, vaneTimer := some 5000 }

/-- VANE_READING; readings of a vane not present are not taken (R73). -/
def execVaneReading (r : Option Nat) (s : State) : Host.Outcome State Fault Refusal :=
  if s.store.weather.value.vanePresent then
    .next (s.weatherEvent (s.weather.vaneReading s.store.weather.value r))
  else .next s

/-- VANE_STALE: the stale timer, where it runs, runs out (R73). -/
def execVaneStale (s : State) : Host.Outcome State Fault Refusal :=
  if s.weather.vaneTimer.isSome then
    .next (s.weatherEvent { s.weather with vaneClass := .stale, vaneTimer := none })
  else .next s

/-! ### Rain (R76) -/

/-- A sample of the rain contact (R76). DESIGN CHOICE: where a write has shortened the dry hold
below the kept count, the next sample ends WET (note 2 of R76) only where it is a clear one; an
asserted sample starts the hold again, as the table says of WET (notes/assumptions/40.md). -/
def Weather.rainSample (w : Weather) (b : WeatherBlock) (asserted : Bool) : Weather :=
  let w1 : Weather := { w with rainSampled := some asserted }
  match w.wet, asserted with
  | false, true =>
    if 20 ≤ w.wetHold.getD 0 + 1 then { w1 with wet := true, wetHold := none, dryHold := some 0 }
    else { w1 with wetHold := some (w.wetHold.getD 0 + 1) }
  | false, false => { w1 with wetHold := some 0 }
  | true, false =>
    if 10 * b.dryHold ≤ w.dryHold.getD 0 + 1 then
      { w1 with wet := false, wetHold := some 0, dryHold := none }
    else { w1 with dryHold := some (w.dryHold.getD 0 + 1) }
  | true, true => { w1 with dryHold := some 0 }

/-- RAIN_SAMPLE; a contact not present is not sampled (R76). -/
def execRainSample (asserted : Bool) (s : State) : Host.Outcome State Fault Refusal :=
  if s.store.weather.value.rainPresent then
    .next (s.weatherEvent (s.weather.rainSample s.store.weather.value asserted))
  else .next s

/-- WET_HOLD_END: the sample that is the twentieth consecutive asserted one makes the state WET
(R76). -/
def execWetHoldEnd (s : State) : Host.Outcome State Fault Refusal :=
  if s.store.weather.value.rainPresent = true ∧ s.weather.wet = false ∧
      20 ≤ s.weather.wetHold.getD 0 + 1 then
    .next (s.weatherEvent (s.weather.rainSample s.store.weather.value true))
  else .next s

/-- DRY_HOLD_END: the clear sample at which the dry hold runs out makes the state DRY (R76). -/
def execDryHoldEnd (s : State) : Host.Outcome State Fault Refusal :=
  if s.store.weather.value.rainPresent = true ∧ s.weather.wet = true ∧
      10 * s.store.weather.value.dryHold ≤ s.weather.dryHold.getD 0 + 1 then
    .next (s.weatherEvent (s.weather.rainSample s.store.weather.value false))
  else .next s

/-! ### Temperature and supply (R77, R78) -/

/-- The temperature channel after a reading, unreadable where none (R77). -/
def Weather.probeReading (w : Weather) (r : Option Int) : Weather :=
  match r with
  | none => { w with tempClass := .fault, tempTimer := some 10000 }
  | some t =>
    if t < -80 then
      { w with tempClass := .under, tempValue := some (-80), tempTimer := some 10000 }
    else if 160 < t then
      { w with tempClass := .over, tempValue := some 160, tempTimer := some 10000 }
    else { w with tempClass := .valid, tempValue := some t, tempTimer := some 10000 }

/-- The TEMP monitor is evaluated (R77, R79). -/
def Weather.evalTemp (w : Weather) (b : WeatherBlock) : Weather :=
  { w with tempState := monitorNext b.tempMonitor w.tempState w.comparedTemp }

/-- PROBE_READING; readings of a probe not present are not taken (R77). -/
def execProbeReading (r : Option Int) (s : State) : Host.Outcome State Fault Refusal :=
  if s.store.weather.value.probePresent then
    .next (s.weatherEvent ((s.weather.probeReading r).evalTemp s.store.weather.value))
  else .next s

/-- PROBE_STALE: the stale timer, where it runs, runs out (R77). -/
def execProbeStale (s : State) : Host.Outcome State Fault Refusal :=
  if s.weather.tempTimer.isSome then
    .next (s.weatherEvent
      (Weather.evalTemp { s.weather with tempClass := .stale, tempTimer := none }
        s.store.weather.value))
  else .next s

/-- The supply channel and the SUPPLY monitor after a sample (R78). -/
def Weather.supplySample (w : Weather) (b : WeatherBlock) (v : Int) : Weather :=
  let cls : ChannelClass := if v < 0 then .under else if 400 < v then .over else .valid
  let x : Int := if v < 0 then 0 else if 400 < v then 400 else v
  { w with
    supplyClass := cls, supplyValue := x,
    supplyState := monitorNext b.supplyMonitor w.supplyState (some x) }

/-- SUPPLY_SAMPLE (R78). -/
def execSupplySample (v : Int) (s : State) : Host.Outcome State Fault Refusal :=
  .next (s.weatherEvent (s.weather.supplySample s.store.weather.value v))

end Sys2Proof.Machine
end

