-- ==== Sys2Proof/Machine/Reset.lean ====
section
/-! DEFINITION. Power-on reset and RESTART (R18 to R20, R29, R50, R85, R87, R94, R107, R108, R114,
R116, R122, R124, R125, R129, R131, R161, R163, R180). Every pin keeps the level it has. -/
namespace Sys2Proof.Machine

/-- The class of a channel at reset: STALE where its sensor is present, ABSENT otherwise (R85). -/
def classAtReset (present : Bool) : ChannelClass := if present then .stale else .absent

/-- An anemometer at reset; its input keeps its level (R85). -/
def Anemometer.reset (a : Anemometer) (present : Bool) : Anemometer :=
  { count := 0, inBand := a.inBand, faultyGate := !a.inBand, cls := classAtReset present,
    value := none }

/-- The weather unit at reset, before the first supply sample (R85, R94). -/
def Weather.resetState (w : Weather) (b : WeatherBlock) : Weather :=
  { anemA := w.anemA.reset b.anemA.present
    anemB := w.anemB.reset b.anemB.present
    sample := none, filtered := 0, speedSeen := false
    speedClass := classAtReset (b.anemA.present || b.anemB.present)
    takeOver := true
    vaneClass := classAtReset b.vanePresent, vaneValue := none
    vaneTimer := if b.vanePresent then some 5000 else none
    heldDir := none, dwell := none
    rainSampled := none, wet := false
    wetHold := if b.rainPresent then some 0 else none
    dryHold := none
    tempClass := classAtReset b.probePresent, tempValue := none
    tempTimer := if b.probePresent then some 10000 else none
    supplyClass := .valid, supplyValue := 0
    windState := .normal, tempState := .normal, supplyState := .normal
    gates := 0
    capWindward := .atReset, capLeeward := .atReset, capFlat := .atReset, capTakeOver := true }

/-- The weather unit after reset: the supply channel holds the first sample, and the SUPPLY monitor
is evaluated on it (R85). -/
def Weather.afterReset (w : Weather) (b : WeatherBlock) (supply : Int) : Weather :=
  (w.resetState b).supplySample b supply

/-- The result of an enabled opening at reset (R87). -/
def OpeningEntry.resultAtReset (e : OpeningEntry) : OpeningResult :=
  { target := e.rest, cls := none, handle := none, cap := .none, rounding := .exact,
    frozen := none, windward := false, profile := profileOf e none 0 }

/-- A zone at reset; its contacts keep their levels (R107, R108, R114, R122). -/
def Zone.reset (r : Zone) (enabled : Bool) : Zone :=
  { count := 0, accepted := none, candidate := none, agreement := 0
    state := if enabled then .normal else .disabled
    lineFault := false, openMade := r.openMade, closeMade := r.closeMade, switchPos := .auto
    switchTimer := some 200, alarmLamp := .off, statusLamp := .off }

/-- A button at reset; its contact keeps its level (R124). -/
def Button.reset (x : Button) : Button := { made := x.made, pressed := true, timer := some 50 }

/-- A station at reset (R124, R125, R129). -/
def Station.reset (st : Station) : Station :=
  { openButton := st.openButton.reset, closeButton := st.closeButton.reset, gesture := .spent,
    holdTimer := none, handle := none }

/-- One item for each opening: `a` where the opening is enabled. -/
def Store.perOpening {α : Type} (st : Store) (a : OpeningEntry → α) : List (Option α) :=
  openingNumbers.map fun n => if st.enabled n then some (a (st.opening n)) else none

/-- The reports that stand after a reset: STORE_FAULT where an entry was loaded as a default (R18),
and LOW_SUPPLY where the first supply sample is low (R85). -/
def reportsAtReset (anyDefault lowSupply : Bool) : List Report :=
  (if anyDefault then [{ owner := .siteStore, lives := [], events := [.storeFault] }] else []) ++
    if lowSupply then
      [{ owner := .weatherUnit, lives := [(.lowSupply, true)], events := [] }]
    else []

/-- The part after a reset from `cause`, with the entries `st` loaded and a first supply sample. -/
def State.restartWith (s : State) (st : Store) (cause : ResetCause) (supply : Int) : State :=
  let w := s.weather.afterReset st.weather.value supply
  { store := st
    demand := .empty
    weather := w
    results := st.perOpening OpeningEntry.resultAtReset
    fire :=
      { zones := zoneNumbers.map fun z =>
          ((s.zone z).getD Zone.atReset).reset (st.zoneEnabled z)
        keyMade := s.fire.keyMade, keyPressed := true, keyTimer := some 200, phase := 0 }
    stations := s.stations.map Station.reset
    moves := st.perOpening fun _ => MoveRecord.atReset
    bus :=
      { queue := [], inFlight := none, transaction := none, rotation := st.nextEnabled 0
        lastTurn := .order, nodes := st.perOpening fun _ => NodeRecord.atReset }
    link := .atReset
    conditions := .atReset cause
    mail := { Mail.empty with reports := reportsAtReset st.anyDefault w.lowSupply }
    pending := s.pending }

/-- A reset from `cause`: a write under way is abandoned, the store loads, and every block takes its
reset values (R18 to R20). -/
def State.resetFrom (s : State) (cause : ResetCause) (spareWritten : Bool) (supply : Int) : State :=
  s.restartWith (s.store.atReset spareWritten) cause supply

/-- POWER_ON_RESET (R18). -/
def execPowerOnReset (spareWritten : Bool) (supply : Int) (s : State) :
    Host.Outcome State Fault Refusal :=
  .next (s.resetFrom .powerOn spareWritten supply)

/-- RESTART_TAKEN: the response to an accepted RESTART has been sent or discarded (R172); otherwise
nothing happens. -/
def execRestartTaken (spareWritten : Bool) (supply : Int) (s : State) :
    Host.Outcome State Fault Refusal :=
  if s.link.restartDue then .next (s.resetFrom .restart spareWritten supply) else .next s

end Sys2Proof.Machine
end

