-- ==== Sys2Proof/Machine/Dispatch.lean ====
section
/-! DEFINITION. The dispatch: one arm for each command, each a direct call of its meaning. -/
namespace Sys2Proof.Machine

/-- The effect of a command on everything but the queue. -/
def exec (i : Instr) (s : State) : Host.Outcome State Fault Refusal :=
  match i with
  | .powerOnReset spareWritten supply => Sys2Proof.Machine.execPowerOnReset spareWritten supply s
  | .frameTaken => Sys2Proof.Machine.execFrameTaken s
  | .receiveBufferOverflow => Sys2Proof.Machine.execReceiveBufferOverflow s
  | .discardIdleGap => Sys2Proof.Machine.execDiscardIdleGap s
  | .place m fields => Sys2Proof.Machine.execPlace m fields s
  | .adjust m slot gen delta => Sys2Proof.Machine.execAdjust m slot gen delta s
  | .retire m slot gen => Sys2Proof.Machine.execRetire m slot gen s
  | .probe m fields => Sys2Proof.Machine.execProbe m fields s
  | .listRecords m filter => Sys2Proof.Machine.execListRecords m filter s
  | .readRecord m slot gen => Sys2Proof.Machine.execReadRecord m slot gen s
  | .readOpening m opening => Sys2Proof.Machine.execReadOpening m opening s
  | .readGroup m group => Sys2Proof.Machine.execReadGroup m group s
  | .readZone m zone => Sys2Proof.Machine.execReadZone m zone s
  | .readWeather m => Sys2Proof.Machine.execReadWeather m s
  | .readConditions m => Sys2Proof.Machine.execReadConditions m s
  | .clearConditions m set => Sys2Proof.Machine.execClearConditions m set s
  | .setMask m set => Sys2Proof.Machine.execSetMask m set s
  | .configure m kind index value => Sys2Proof.Machine.execConfigure m kind index value s
  | .readConfig m kind index => Sys2Proof.Machine.execReadConfig m kind index s
  | .clearFault m opening => Sys2Proof.Machine.execClearFault m opening s
  | .fireReset m => Sys2Proof.Machine.execFireReset m s
  | .restart m => Sys2Proof.Machine.execRestart m s
  | .heldResponseSend => Sys2Proof.Machine.execHeldResponseSend s
  | .heldResponseDiscard b misframed => Sys2Proof.Machine.execHeldResponseDiscard b s misframed
  | .deferredResponseSend => Sys2Proof.Machine.execDeferredResponseSend s
  | .transmissionEnd => Sys2Proof.Machine.execTransmissionEnd s
  | .restartTaken spareWritten supply => Sys2Proof.Machine.execRestartTaken spareWritten supply s
  | .writeComplete left => Sys2Proof.Machine.execWriteComplete s left
  | .writeFail => Sys2Proof.Machine.execWriteFail s
  | .demandTick => Sys2Proof.Machine.execDemandTick s
  | .recordExpired slot => Sys2Proof.Machine.execRecordExpired slot s
  | .recordStarved slot => Sys2Proof.Machine.execRecordStarved slot s
  | .resolverRecompute teller => Sys2Proof.Machine.execResolverRecompute teller s
  | .anemometerPulse which => Sys2Proof.Machine.execAnemometerPulse which s
  | .anemometerSupervision which inBand => Sys2Proof.Machine.execAnemometerSupervision which inBand s
  | .gateEnd => Sys2Proof.Machine.execGateEnd s
  | .reopenTimerExpiry profile => Sys2Proof.Machine.execReopenTimerExpiry profile s
  | .sensorReportStart => Sys2Proof.Machine.execSensorReportStart s
  | .vaneReading reading => Sys2Proof.Machine.execVaneReading reading s
  | .vaneStale => Sys2Proof.Machine.execVaneStale s
  | .dwellReached => Sys2Proof.Machine.execDwellReached s
  | .rainSample asserted => Sys2Proof.Machine.execRainSample asserted s
  | .wetHoldEnd => Sys2Proof.Machine.execWetHoldEnd s
  | .dryHoldEnd => Sys2Proof.Machine.execDryHoldEnd s
  | .probeReading reading => Sys2Proof.Machine.execProbeReading reading s
  | .probeStale => Sys2Proof.Machine.execProbeStale s
  | .supplySample volts => Sys2Proof.Machine.execSupplySample volts s
  | .zoneLineSample zone count => Sys2Proof.Machine.execZoneLineSample zone count s
  | .lineAcceptance zone left => Sys2Proof.Machine.execLineAcceptance zone s left
  | .flashTimebase => Sys2Proof.Machine.execFlashTimebase s
  | .firemanSwitchChange zone openMade closeMade => Sys2Proof.Machine.execFiremanSwitchChange zone openMade closeMade s
  | .switchAcceptance zone => Sys2Proof.Machine.execSwitchAcceptance zone s
  | .resetKeyChange made => Sys2Proof.Machine.execResetKeyChange made s
  | .resetKeyAcceptance => Sys2Proof.Machine.execResetKeyAcceptance s
  | .buttonContactChange station button made => Sys2Proof.Machine.execButtonContactChange station button made s
  | .buttonAcceptance station button => Sys2Proof.Machine.execButtonAcceptance station button s
  | .holdTimerExpiry station => Sys2Proof.Machine.execHoldTimerExpiry station s
  | .targetEvent opening => Sys2Proof.Machine.execTargetEvent opening s
  | .movementReply opening => Sys2Proof.Machine.execMovementReply opening s
  | .orderOutcome opening => Sys2Proof.Machine.execOrderOutcome opening s
  | .nodeLostEvent opening => Sys2Proof.Machine.execNodeLostEvent opening s
  | .movementTick => Sys2Proof.Machine.execMovementTick s
  | .breakawayEnd opening => Sys2Proof.Machine.execBreakawayEnd opening s
  | .overtime opening => Sys2Proof.Machine.execOvertime opening s
  | .progressWindowEnd opening => Sys2Proof.Machine.execProgressWindowEnd opening s
  | .noStop opening => Sys2Proof.Machine.execNoStop opening s
  | .retryTimerEnd opening => Sys2Proof.Machine.execRetryTimerEnd opening s
  | .startWaitRise opening => Sys2Proof.Machine.execStartWaitRise opening s
  | .slotGrant => Sys2Proof.Machine.execSlotGrant s
  | .orderTurn => Sys2Proof.Machine.execOrderTurn s
  | .pollTurn => Sys2Proof.Machine.execPollTurn s
  | .replyReceived bytes => Sys2Proof.Machine.execReplyReceived bytes s
  | .noReply => Sys2Proof.Machine.execNoReply s
  | .conditionReport owner => Sys2Proof.Machine.execConditionReport owner s
  | .byteArrives b misframed => Sys2Proof.Machine.execByteArrives b s misframed

end Sys2Proof.Machine
end

