-- ==== Sys2Proof/Machine/RequestFrames.lean ====
section
/-! DEFINITION. The frame of every request, as a supervisor sends it (R173 to R175): the encoder of
the request commands. -/
namespace Sys2Proof.Machine

/-- The ten payload bytes of a PLACE or PROBE (R174). -/
def placePayload (f : PlaceFields) : List Byte :=
  [f.cls, f.targetKind, f.targetNumber] ++ splitWord f.aperture ++ [f.mode] ++
    splitWord f.lifetime ++ splitWord f.waitLimit

/-- A set of conditions in three bytes (R174). -/
def setPayload (set : BitVec 24) : List Byte :=
  [set.extractLsb' 16 8, set.extractLsb' 8 8, set.extractLsb' 0 8]

/-- The sender, the code and the payload of a request; none for a command that is no request. -/
def requestParts : Instr → Option (Nat × Byte × List Byte)
  | .place m f => some (m, 0x01#8, placePayload f)
  | .adjust m slot gen delta => some (m, 0x02#8, [slot, gen] ++ splitWord delta)
  | .retire m slot gen => some (m, 0x03#8, [slot, gen])
  | .probe m f => some (m, 0x04#8, placePayload f)
  | .listRecords m none => some (m, 0x05#8, [])
  | .listRecords m (some (kind, number)) => some (m, 0x05#8, [kind, number])
  | .readRecord m slot gen => some (m, 0x06#8, [slot, gen])
  | .readOpening m n => some (m, 0x07#8, [n])
  | .readGroup m g => some (m, 0x08#8, [g])
  | .readZone m z => some (m, 0x09#8, [z])
  | .readWeather m => some (m, 0x0A#8, [])
  | .readConditions m => some (m, 0x0B#8, [])
  | .clearConditions m set => some (m, 0x0C#8, setPayload set)
  | .setMask m set => some (m, 0x0D#8, setPayload set)
  | .configure m kind index value => some (m, 0x0E#8, kind :: index :: value)
  | .readConfig m kind index => some (m, 0x0F#8, [kind, index])
  | .clearFault m n => some (m, 0x10#8, [n])
  | .fireReset m => some (m, 0x11#8, [])
  | .restart m => some (m, 0x12#8, [])
  | _ => none

/-- The frame of a request from supervisor `m`, addressed to the part (R173). -/
def requestFrame (partAddress m : Nat) (code : Byte) (payload : List Byte) : List Byte :=
  withCheck ([byteOf partAddress, byteOf m, code, byteOf payload.length] ++ payload)

end Sys2Proof.Machine
end

