-- ==== Sys2Proof/Safety.lean ====
section
/-! DEFINITION. What counts as a safe run of the part, in the terms the statements use: which block's
state each command may change (00, Block diagram: only its owner changes a block's state), and the
laws of the whole part that every command keeps. -/
namespace Sys2Proof.Machine

/-! ### Which blocks a command changes -/

/-- The parts of State: the ten blocks of 00 (the demand manager as `demand`, the resolver as
`results`, the station unit as `stations`, the movement controller as `moves`), and the model's own two
queues, of told events and of commands. -/
inductive Block where
  | store
  | demand
  | weather
  | results
  | fire
  | stations
  | moves
  | bus
  | link
  | conditions
  | mail
  | pending
  deriving DecidableEq, Repr

/-- Two states agree on a block. -/
def Block.agrees (b : Block) (s t : State) : Prop :=
  match b with
  | .store => t.store = s.store
  | .demand => t.demand = s.demand
  | .weather => t.weather = s.weather
  | .results => t.results = s.results
  | .fire => t.fire = s.fire
  | .stations => t.stations = s.stations
  | .moves => t.moves = s.moves
  | .bus => t.bus = s.bus
  | .link => t.link = s.link
  | .conditions => t.conditions = s.conditions
  | .mail => t.mail = s.mail
  | .pending => t.pending = s.pending

/-- From `s` to `t` nothing changes outside the blocks `bs`. -/
def sameOutside (bs : List Block) (s t : State) : Prop := ∀ b, b ∉ bs → b.agrees s t

/-- The blocks that a command may change, by the rules that specify it. `mail` is where the other
blocks' share of a command waits. -/
def touchedBy : Instr → List Block
  | .powerOnReset _ _ => [.store, .demand, .weather, .results, .fire, .stations, .moves, .bus, .link,
      .conditions, .mail]
  | .restartTaken _ _ => [.store, .demand, .weather, .results, .fire, .stations, .moves, .bus, .link,
      .conditions, .mail]
  | .frameTaken => [.store, .demand, .results, .fire, .stations, .moves, .bus, .link, .conditions,
      .mail]
  | .writeComplete _ => [.store, .demand, .weather, .results, .fire, .stations, .moves, .bus, .link,
      .mail]
  | .writeFail => [.store, .link, .mail]
  | .receiveBufferOverflow => [.link]
  | .discardIdleGap => [.link]
  | .heldResponseSend => [.link]
  | .heldResponseDiscard _ _ => [.link]
  | .deferredResponseSend => [.link]
  | .transmissionEnd => [.link]
  | .byteArrives _ _ => [.link]
  | .place _ _ => [.demand, .results, .stations, .link, .mail]
  | .adjust _ _ _ _ => [.demand, .results, .link, .mail]
  | .retire _ _ _ => [.demand, .stations, .link, .mail]
  | .probe _ _ => [.link]
  | .listRecords _ _ => [.link]
  | .readRecord _ _ _ => [.link]
  | .readOpening _ _ => [.link]
  | .readGroup _ _ => [.link]
  | .readZone _ _ => [.link]
  | .readWeather _ => [.link]
  | .readConditions _ => [.link]
  | .clearConditions _ _ => [.conditions, .link]
  | .setMask _ _ => [.conditions, .link]
  | .configure _ _ _ _ => [.store, .link]
  | .readConfig _ _ _ => [.link]
  | .clearFault _ _ => [.moves, .bus, .fire, .link, .mail]
  | .fireReset _ => [.fire, .demand, .stations, .moves, .bus, .link, .mail]
  | .restart _ => [.link]
  | .demandTick => [.demand, .stations, .mail]
  | .recordExpired _ => [.demand, .stations, .mail]
  | .recordStarved _ => [.demand, .stations, .mail]
  | .resolverRecompute _ => [.results, .mail]
  | .anemometerPulse _ => [.weather]
  | .anemometerSupervision _ _ => [.weather]
  | .gateEnd => [.weather, .results, .mail]
  | .reopenTimerExpiry _ => [.weather, .mail]
  | .sensorReportStart => [.weather, .mail]
  | .vaneReading _ => [.weather, .results, .mail]
  | .vaneStale => [.weather, .mail]
  | .dwellReached => [.weather, .results, .mail]
  | .rainSample _ => [.weather, .mail]
  | .wetHoldEnd => [.weather, .mail]
  | .dryHoldEnd => [.weather, .mail]
  | .probeReading _ => [.weather, .mail]
  | .probeStale => [.weather, .mail]
  | .supplySample _ => [.weather, .moves, .bus, .fire, .mail]
  | .zoneLineSample _ _ => [.fire, .demand, .stations, .mail]
  | .lineAcceptance _ _ => [.fire, .demand, .stations, .mail]
  | .switchAcceptance _ => [.fire, .demand, .stations, .mail]
  | .flashTimebase => [.fire]
  | .firemanSwitchChange _ _ _ => [.fire]
  | .resetKeyChange _ => [.fire]
  | .resetKeyAcceptance => [.fire, .demand, .stations, .moves, .bus, .mail]
  | .buttonContactChange _ _ _ => [.stations]
  | .buttonAcceptance _ _ => [.stations, .demand, .mail]
  | .holdTimerExpiry _ => [.stations, .demand, .mail]
  | .targetEvent _ => [.moves, .bus, .fire, .mail]
  | .movementReply _ => [.moves, .bus, .fire, .mail]
  | .orderOutcome _ => [.moves, .bus, .fire, .mail]
  | .nodeLostEvent _ => [.moves, .bus, .fire, .mail]
  | .movementTick => [.moves, .bus, .fire, .mail]
  | .breakawayEnd _ => [.moves, .bus, .fire, .mail]
  | .overtime _ => [.moves, .bus, .fire, .mail]
  | .progressWindowEnd _ => [.moves, .bus, .fire, .mail]
  | .noStop _ => [.moves, .bus, .fire, .mail]
  | .retryTimerEnd _ => [.moves, .bus, .fire, .mail]
  | .startWaitRise _ => [.moves, .bus, .fire, .mail]
  | .slotGrant => [.moves, .bus, .fire, .mail]
  | .orderTurn => [.bus, .mail]
  | .pollTurn => [.bus]
  | .replyReceived _ => [.bus, .fire, .mail]
  | .noReply => [.bus, .fire, .mail]
  | .conditionReport _ => [.conditions, .mail]

/-! ### Laws of the whole part -/

/-- The attention output is asserted exactly while at least one condition is sticky and unmasked
(R179). -/
def attentionRight (s : State) : Prop := s.conditions.attention = s.conditions.calls

/-- Every opening entry in effect, and the entry of a write under way, keeps its ranges and relations
(R2, R14). -/
def entriesValid (s : State) : Prop :=
  (∀ n, (s.store.opening n).valid = true) ∧
    s.store.movement.value.valid = true ∧
    ∀ w, s.store.writing = some w → w.entry.valid = true

/-- The target and the frozen aperture of every enabled opening are multiples of its step and do not
exceed its stroke limit, and an opening that is not enabled has no result (R86). -/
def targetsInRange (s : State) : Prop :=
  ∀ n r, s.result n = some r →
    s.store.enabled n = true ∧ r.target % (s.store.opening n).step = 0 ∧
      r.target ≤ (s.store.opening n).limit ∧
      ∀ f, r.frozen = some f →
        f % (s.store.opening n).step = 0 ∧ f ≤ (s.store.opening n).limit

/-- The number of openings in BREAKAWAY never exceeds the normal start budget (R147). -/
def slotsInBudget (s : State) : Prop :=
  s.breakawayOpenings.length ≤ s.store.movement.value.normalBudget

/-- The receive buffer holds at most 206 bytes, and none, and no mark of a framing error, unless a frame
is being received (R163). -/
def bufferInBounds (s : State) : Prop :=
  s.link.buffer.length ≤ Config.bufferMax ∧
    (s.link.rx ≠ .receiving → s.link.buffer = [] ∧ s.link.misframed = false)

/-- While a write is under way no deferred response waits, so that the slot of R166 is free for the
write's own (R14, R166). -/
def deferredSlotFree (s : State) : Prop := s.store.writing ≠ none → s.link.deferred = none

/-- Every handle in the age order and in a rank list names a living record (R26, R40, R50, R53). -/
def handlesLive (t : DemandTable) : Prop :=
  (∀ h ∈ t.ages, t.find h ≠ none) ∧ ∀ l ∈ t.lists, ∀ h ∈ l, t.find h ≠ none

/-- The filtered speed and the corrected speeds lie within 0 to 600, and every computed and held cap
within 0 to 1000 (R65, R71, R92). -/
def weatherInRange (s : State) : Prop :=
  s.weather.filtered ≤ Config.speedMax ∧
    (∀ v, s.weather.anemA.value = some v → v ≤ Config.speedMax) ∧
    (∀ v, s.weather.anemB.value = some v → v ≤ Config.speedMax) ∧
    ∀ p, (s.weather.cap p).computed ≤ Config.fullAperture ∧
      (s.weather.cap p).held ≤ Config.fullAperture

/-! ### What the rules ask of single blocks, in the terms of the statements -/

/-- From `s` to `t` a request takes of the link only the response held, which it discards: receiver,
buffer, deferred response and the response being sent stand as they were (notes/assumptions/6.md). A
restart is due as before, or because the response that waited until now was that of an accepted RESTART
(R165, R172; notes/assumptions/12.md). -/
def heldDiscarded (s t : State) : Prop :=
  t.link.rx = s.link.rx ∧ t.link.buffer = s.link.buffer ∧ t.link.misframed = s.link.misframed ∧
    t.link.deferred = s.link.deferred ∧ t.link.sending = s.link.sending ∧
    (t.link.restartDue = true ↔ s.link.restartDue = true ∨
      ∃ r, s.link.held = some r ∧ r.code = 0x92#8 ∧ r.status = .accepted)

/-- From `s` to `t` a request changes nothing outside the blocks `bs`, and of the link only the response
held, now `resp`, in the place of one that still waited (`heldDiscarded`). -/
def answered (bs : List Block) (s t : State) (resp : Response) : Prop :=
  sameOutside bs s t ∧ t.link.held = some resp ∧ heldDiscarded s t

/-- `e'` is the entry `e` as it is loaded at a reset (R14, R18): the newer valid of its two copies with
origin STORED, or else the factory default with origin DEFAULT, the copies standing as they were. Of two
valid copies the second is the newer where the difference of their counts modulo 256 lies in 129 to
255. -/
def loadedAs {α : Type} (valid : α → Bool) (factory : α) (e e' : Entry α) : Prop :=
  let a := e.first.checkMatches && valid e.first.value
  let b := e.second.checkMatches && valid e.second.value
  let d := (e.first.sequence.toNat + 256 - e.second.sequence.toNat) % 256
  e'.first = e.first ∧ e'.second = e.second ∧
    (a = true → b = true → 129 ≤ d → e'.value = e.second.value ∧ e'.origin = .stored) ∧
    (a = true → b = true → d < 129 → e'.value = e.first.value ∧ e'.origin = .stored) ∧
    (a = true → b = false → e'.value = e.first.value ∧ e'.origin = .stored) ∧
    (a = false → b = true → e'.value = e.second.value ∧ e'.origin = .stored) ∧
    (a = false → b = false → e'.value = factory ∧ e'.origin = .default)

/-- `e'` is the entry `e` as a reset leaves it where the pass of R19 tests it: as it is loaded where the
value found `stands`, or else the factory default with origin DEFAULT; its copies stand as they were. -/
def loadedIf {α : Type} (stands : α → Prop) (valid : α → Bool) (factory : α) (e e' : Entry α) : Prop :=
  ∃ l, loadedAs valid factory e l ∧ e'.first = e.first ∧ e'.second = e.second ∧
    (stands l.value → e'.value = l.value ∧ e'.origin = l.origin) ∧
    (¬stands l.value → e'.value = factory ∧ e'.origin = .default)

/-- Whether a scenario of zone `z` with the steps `l` stands in the pass of R19: no step names an empty
group, no opening is covered twice, and none is covered more than 4 times with the scenarios of lower
zones that the pass has kept. -/
def scenarioKept (st : Store) (z : Nat) (l : List ScenarioStep) : Prop :=
  (∀ x ∈ l, st.group x.group ≠ []) ∧
    ∀ n, isOpening n = true →
      stepsCovering st.group l n ≤ 1 ∧
        coverage st.group st.scenario (zoneNumbers.filter fun y => decide (y < z)) n +
          stepsCovering st.group l n ≤ 4

/-- Some entry stands with origin DEFAULT (R18, R19). -/
def defaultStands (st : Store) : Prop :=
  (∃ n e, nth st.openings n = some e ∧ e.origin = .default) ∨
    (∃ n e, nth st.groups n = some e ∧ e.origin = .default) ∨
    (∃ n e, nth st.zones n = some e ∧ e.origin = .default) ∨
    (∃ n e, nth st.scenarios n = some e ∧ e.origin = .default) ∨
    (∃ n e, nth st.stations n = some e ∧ e.origin = .default) ∨
    (∃ n e, nth st.supervisors n = some e ∧ e.origin = .default) ∨
    st.weather.origin = .default ∨ st.movement.origin = .default

/-- `a'` is the anemometer `a` after a gate end (R67 to R69): its counter cleared, its class by the order
of R69, its value the corrected speed clamped to 600, or kept while it is FAULT. -/
def gateTaken (sc : AnemometerScale) (a a' : Anemometer) : Prop :=
  let v := correctedSpeed sc a.count
  a'.count = 0 ∧
    (sc.present = false → a'.cls = .absent) ∧
    (sc.present = true → a.faultyGate = true → a'.cls = .fault ∧ a'.value = a.value) ∧
    (sc.present = true → a.faultyGate = false →
      a'.value = some (min v 600) ∧ a'.cls = if 600 < v then .over else .valid)

/-- The weather unit's change of `c` to `live` was reported to the condition unit (R66, R81). -/
def weatherReported (t : State) (c : Condition) (live : Bool) : Prop :=
  ∃ r ∈ t.mail.reports, r.owner = .weatherUnit ∧ (c, live) ∈ r.lives

/-- Some configured channel stands in an unordered class (R82): an anemometer present, the wind speed
with either present, the vane or the probe present. -/
def channelUnordered (s : State) : Prop :=
  let b := s.store.weather.value
  let w := s.weather
  let unordered := fun (c : ChannelClass) => c = .stale ∨ c = .fault ∨ c = .absent
  (b.anemA.present = true ∧ unordered w.anemA.cls) ∨
    (b.anemB.present = true ∧ unordered w.anemB.cls) ∨
    ((b.anemA.present = true ∨ b.anemB.present = true) ∧ unordered w.speedClass) ∨
    (b.vanePresent = true ∧ unordered w.vaneClass) ∨
    (b.probePresent = true ∧ unordered w.tempClass)

/-- Opening `n` is within the deadband: T and the recorded position differ by no more than it (R132). -/
def nearTarget (s : State) (n : Nat) : Prop :=
  ∃ y p, s.target n = some y ∧ s.position n = some p ∧
    (y - p) + (p - y) ≤ (s.store.opening n).deadband

/-- Opening `n`, whose record was `m`, has a STOP queued and is STOPPING with 3 seconds left (R133 to
R135). -/
def stopOrdered (t : State) (n : Nat) (m : MoveRecord) : Prop :=
  t.move n = some { m.bare .stopping with stopTimer := some 3, orderPending := true } ∧
    { opening := n, kind := .stop } ∈ t.bus.queue

/-- Opening `n` stands at rest in `s` with the record `m`, and is evaluated (R134): with its node not
ONLINE it stays; a drive that reports motion is stopped; within the deadband it stays with retry count
0; or else it waits for a slot with age 0, unless one is granted at the end of the event (R148). -/
def restsAs (s t : State) (n : Nat) (m : MoveRecord) : Prop :=
  let moving := ∃ r, s.lastReply n = some r ∧ r.motion ≠ .stopped
  (s.nodeState n ≠ some .online → t.move n = some m) ∧
    (s.nodeState n = some .online → moving → stopOrdered t n m) ∧
    (s.nodeState n = some .online → ¬moving → nearTarget s n →
      t.move n = some { m with retries := 0 }) ∧
    (s.nodeState n = some .online → ¬moving → ¬nearTarget s n →
      t.move n = some { m.bare .waitSlot with waitAge := some 0 } ∨
        t.moveState n = some .breakaway)

/-- Opening `n`, whose record was `m`, faults for `reason` (R142, R143, R155): every timer of the move,
the direction and the progress fields are gone; under SMOKE or FIREMAN a first fault that is not LOST goes
to RETRY_WAIT with a STOP queued where the node is ONLINE, and any other to FAULTED with no order left
queued. -/
def faultTaken (s t : State) (n : Nat) (m : MoveRecord) (reason : FaultReason) : Prop :=
  ∃ m', t.move n = some m' ∧ m'.classTold = m.classTold ∧ m'.direction = none ∧
    m'.breakaway = none ∧ m'.deadline = none ∧ m'.progressRef = none ∧ m'.progressWindow = none ∧
    m'.stopTimer = none ∧ m'.waitAge = none ∧
    if isFireClass m.classTold = true ∧ reason ≠ .lost ∧ m.retries = 0 then
      m'.state = .retryWait ∧ m'.faultReason = none ∧ m'.retries = 1 ∧ m'.retryTimer = some 10 ∧
        (s.nodeState n = some .online →
          m'.orderPending = true ∧ { opening := n, kind := .stop } ∈ t.bus.queue)
    else
      m'.state = .faulted ∧ m'.faultReason = some reason ∧ m'.retries = m.retries ∧
        m'.retryTimer = none ∧ ∀ o ∈ t.bus.queue, o.opening ≠ n

/-- Of handles in age order, `v` names the record `y` that makes room: the oldest of the lowest rank, a
rank below SMOKE (R34, R35). -/
def isVictim (t : DemandTable) (hs : List Handle) (v : Handle) (y : DemandRecord) : Prop :=
  t.find v = some y ∧ y.cls.rank < DemandClass.smoke.rank ∧
    ∃ older younger, hs = older ++ v :: younger ∧
      (∀ u ∈ older, y.cls.rank < t.rankAt u) ∧ ∀ u ∈ younger, y.cls.rank ≤ t.rankAt u

/-- The retired record `y` of handle `v` is gone from the table, and DEMAND_DROPPED was raised where it
was a supervisor's (R40, R48). -/
def retiredAndReported (t : State) (v : Handle) (y : DemandRecord) : Prop :=
  t.demand.find v = none ∧
    ∀ m c, y.source = .supervisor m → demandDropped m = some c →
      ∃ x ∈ t.mail.reports, x.owner = .demandManager ∧ c ∈ x.events

/-- The record of scenario step `x` of zone `z` lives, with the fields of R112. -/
def smokeStands (t : State) (z : Nat) (x : ScenarioStep) : Prop :=
  ∃ h rec, t.demand.find h = some rec ∧ rec.source = .scenario z ∧ rec.cls = .smoke ∧
    rec.target = .group x.group ∧ rec.aperture = some x.aperture ∧ rec.mode = .hold ∧
    rec.lifetime = none ∧ rec.waitLimit = none ∧ rec.waitRemaining = none

/-- The placements `steps` of zone `z`'s scenario are handed over in `s`: the last `left` go on waiting
and the others are placed, where slots are free for them all (R112; notes/assumptions/27.md). The last
premise holds in every state a run reaches. -/
def stepsTaken (s t : State) (z left : Nat) (steps : List ScenarioStep) : Prop :=
  t.mail.stepsOf z = steps.drop (steps.length - left) ∧
    ((steps.map ScenarioStep.group).Nodup →
      steps.length + s.demand.count ≤ s.demand.slots.length → handlesLive s.demand →
      ∀ x ∈ steps.take (steps.length - left), smokeStands t z x)

/-- The fire unit raised `c` in the command from `s` to `t` (R120). -/
def fireRaised (s t : State) (c : Condition) : Prop :=
  ∃ x ∈ t.mail.reports.drop s.mail.reports.length, x.owner = .fireUnit ∧ c ∈ x.events

/-- The lamps of zone `z`, whose record is `r`, show the patterns of the table of R123. -/
def lampsFollow (s : State) (z : Nat) (r : Zone) : Prop :=
  let trouble := r.state = .fault ∨ r.lineFault = true ∨
    ∃ n, s.store.enabled n = true ∧ (s.store.opening n).zone = z ∧
      (s.moveState n = some .faulted ∨ s.nodeState n = some .lost)
  let motion := ∃ n, s.store.enabled n = true ∧ (s.store.opening n).zone = z ∧
    (s.moveState n = some .waitSlot ∨ s.moveState n = some .breakaway ∨
      s.moveState n = some .travel ∨ s.moveState n = some .stopping ∨
      s.moveState n = some .retryWait)
  let switched := r.switchPos = .openPos ∨ r.switchPos = .closePos
  r.alarmLamp =
    (match r.state with
      | .alarm => LampPattern.steady
      | .latched => .slow
      | .normal => .off
      | .fault => .off
      | .disabled => .off) ∧
  (trouble → r.statusLamp = .fast) ∧
  (¬trouble → motion → r.statusLamp = .slow) ∧
  (¬trouble → ¬motion → switched → r.statusLamp = .steady) ∧
  (¬trouble → ¬motion → ¬switched → r.statusLamp = .off)

/-- `r` is the result that the recomputation of opening `n` in `s` gives: class and handle of the head
(R57, R98), windward status and profile (R90), and target, cap reason, rounding and frozen aperture
(R59 to R61, R98 to R103). That LOCKOUT has come to the head and the frozen aperture is still to be set
is kept in `s.mail.freezes` (notes/assumptions/42.md). -/
def servedAs (s : State) (n : Nat) (r : OpeningResult) : Prop :=
  let e := s.store.opening n
  let head := s.demand.headClass n
  let previous := match s.result n with
    | some old => some old.target
    | none => none
  let a := match s.demand.headRecord n with
    | some x => x.aperture.getD 0
    | none => e.rest
  let bounded := fun (x : Nat) (cap : CapReason) =>
    r.target = quantise e x ∧ r.cap = cap ∧ r.frozen = none ∧
      r.rounding = (if quantise e x = x then Rounding.exact
        else if x < quantise e x then .up else .down)
  let byLimit := bounded (min a e.limit) (if e.limit < a then .limit else .none)
  let stormClose := r.windward = true ∧ s.weather.storm = true
  let frost := match previous with
    | some t => if s.weather.frost then t else a
    | none => a
  let rain := if s.weather.wet then e.rain else a
  let held := (s.weather.cap r.profile).held
  let least := min (min (min a e.limit) held) (min rain frost)
  let afresh := n ∈ s.mail.freezes ∨ ∀ old, s.result n = some old → old.frozen = none
  r.cls = head ∧ r.handle = (match head with
    | some _ => s.demand.head n
    | none => none) ∧
  (match e.exposure, s.weather.heldDir with
    | .flat, _ => r.windward = false ∧ r.profile = .flat
    | .facade, none => r.windward = false ∧ r.profile = .leeward
    | .facade, some d =>
      if angularDistance e.facing d ≤ s.store.weather.value.halfSector then
        r.windward = true ∧ r.profile = .windward
      else r.windward = false ∧ r.profile = .leeward) ∧
  match head with
  | some .lockout =>
    r.frozen = some r.target ∧ r.cap = .none ∧ r.rounding = .exact ∧
    (afresh → ∀ p, s.lastReply n = some p →
      (s.nodeState n = some .online ∨ s.nodeState n = some .isolated) →
      r.target = quantise e (min p.position e.limit)) ∧
    (afresh → (s.nodeState n = some .lost ∨ s.nodeState n = some .unpolled) →
      r.target = quantise e (min (previous.getD e.rest) e.limit)) ∧
    ∀ old f, ¬afresh → s.result n = some old → old.frozen = some f →
      r.target = quantise e (min f e.limit)
  | some .fireman => byLimit
  | some .smoke =>
    (stormClose → bounded 0 (if 0 < a then .storm else .none)) ∧ (¬stormClose → byLimit)
  | _ =>
    bounded least
      (if least = a then .none
        else if s.weather.frost = true ∧ previous = some least then .frost
        else if s.weather.wet = true ∧ least = e.rain then .rain
        else if least = held then .wind
        else .limit)

/-! ### What the read requests answer (R175) -/

/-- The number of living records for which `p` holds. -/
def living (s : State) (p : DemandRecord → Bool) : Nat :=
  s.demand.slots.countP fun sl => sl.record.any p

/-- The payload of READ_ZONE for zone `z`, whose record is `r` (R121, R175); `fireman` is the handle of
the zone's FIREMAN record. The line-fault flag is absent outside ALARM and LATCHED. -/
def zoneReport (s : State) (z : Nat) (r : Zone) (fireman : Option Handle) : List Byte :=
  let flag : Byte := match r.state with
    | .alarm => boolByte r.lineFault
    | .latched => boolByte r.lineFault
    | _ => 0xFF
  [boolByte (s.store.zoneEnabled z), r.state.code] ++ wordBytes r.count.toNat ++
    [lineCode r.accepted, lineCode r.candidate, byteOf r.agreement, flag, r.switchPos.code,
      (switchReading r.openMade r.closeMade).code,
      byteOf (living s fun x => x.source == .scenario z)] ++
    optHandle fireman ++ [r.alarmLamp.code, r.statusLamp.code]

/-- The payload of READ_WEATHER (R83, R97, R175): the seven channels, S, D and its dwell timer, the rain
state, the three monitors, the three caps and the take-over pending. The wind speed has no value until
its class has been ordered, and the rain channel is VALID while its contact is present
(notes/assumptions/31.md, notes/assumptions/41.md). -/
def weatherReport (s : State) : List Byte :=
  let w := s.weather
  let cap := fun (h : HeldCap) => wordBytes h.computed ++ wordBytes h.held ++ optWord h.timer
  w.anemA.cls.code :: optWord w.anemA.value ++
    w.anemB.cls.code :: optWord w.anemB.value ++
    w.speedClass.code :: optWord (if w.speedSeen = true then some w.filtered else none) ++
    w.vaneClass.code :: optWord w.vaneValue ++
    (if s.store.weather.value.rainPresent = true then ChannelClass.valid
      else ChannelClass.absent).code ::
      optWord (w.rainSampled.map fun asserted => if asserted then 1 else 0) ++
    w.tempClass.code :: optSigned w.tempValue ++
    w.supplyClass.code :: signedBytes w.supplyValue ++
    optWord w.sample ++ optWord w.heldDir ++ [optByte w.dwell, boolByte w.wet] ++
    [w.windState.code, w.tempState.code, w.supplyState.code] ++
    cap w.capWindward ++ cap w.capLeeward ++ cap w.capFlat ++ [boolByte w.capTakeOver]

/-- The bytes of a monitor's limits in an entry (R175). -/
def monitorReport (m : MonitorLimits) : List Byte :=
  (match m.mode with
    | .band => 0
    | .hyst => 1) :: (signedBytes m.high ++ signedBytes m.low ++ signedBytes m.hysteresis)

/-- `resp` is what READ_CONFIG answers of kind `kind` and index `x` (R170, R175): the kind, the index, the
origin and the value in effect of every kind of entry, or BAD_FIELD for an unknown kind and an index out
of its range. -/
def configAnswered (s : State) (kind x : Byte) (resp : Response) : Prop :=
  let st := s.store
  let tells := fun (o : Origin) (v : List Byte) =>
    resp.status = .accepted ∧ resp.body = [kind, x, o.code] ++ v
  let within := fun (most : Nat) =>
    x.toNat = 0 ∨ most < x.toNat → resp.status = .badField
  let bit := fun (b : Bool) (k : Nat) => if b then k else 0
  let speeds := fun (p : ProfileSpeeds) => wordBytes p.free ++ wordBytes p.close
  (8 ≤ kind.toNat → resp.status = .badField) ∧
  (kind = 0 → within st.openings.length ∧ ∀ e, nth st.openings x.toNat = some e →
    resp.body.length = 19 ∧
    tells e.origin ([boolByte e.value.enabled, if e.value.exposure = .flat then 1 else 0] ++
      wordBytes e.value.facing ++ wordBytes e.value.limit ++ [byteOf e.value.step] ++
      wordBytes e.value.rest ++ wordBytes e.value.rain ++ [byteOf e.value.deadband] ++
      wordBytes e.value.strokeTime ++ [byteOf e.value.breakawayTime, byteOf e.value.zone])) ∧
  (kind = 1 → within st.groups.length ∧ ∀ e, nth st.groups x.toNat = some e →
    tells e.origin (byteOf e.value.length :: e.value.map byteOf)) ∧
  (kind = 2 → within st.zones.length ∧ ∀ e, nth st.zones x.toNat = some e →
    tells e.origin [boolByte e.value]) ∧
  (kind = 3 → within st.scenarios.length ∧ ∀ e, nth st.scenarios x.toNat = some e →
    tells e.origin
      (byteOf e.value.length :: e.value.flatMap fun y => byteOf y.group :: wordBytes y.aperture)) ∧
  (kind = 4 → within st.stations.length ∧ ∀ e, nth st.stations x.toNat = some e →
    tells e.origin ([boolByte e.value.enabled, byteOf e.value.group] ++ wordBytes e.value.step ++
      wordBytes e.value.lifetime)) ∧
  (kind = 5 → within st.supervisors.length ∧ ∀ e, nth st.supervisors x.toNat = some e →
    tells e.origin
      [byteOf (bit e.value.mayLockout 4 + bit e.value.mayLocal 8 + bit e.value.mayComfort 16 +
        bit e.value.mayPurge 32), boolByte e.value.mayConfigure, boolByte e.value.mayFireReset,
        boolByte e.value.mayRestart]) ∧
  (kind = 6 → resp.body.length = 58 ∧ let b := st.weather.value
    tells st.weather.origin
      ([boolByte b.anemA.present, boolByte b.anemB.present] ++ wordBytes b.anemA.factor ++
        wordBytes b.anemB.factor ++
        [byteOf b.anemA.trim, byteOf b.anemB.trim, boolByte b.anemA.trimMinus,
          boolByte b.anemB.trimMinus, if b.combine = .maximum then 1 else 0, byteOf b.filterShift] ++
        speeds b.windward ++ speeds b.leeward ++ speeds b.flat ++ wordBytes b.reopenDelay ++
        [byteOf b.halfSector, byteOf b.dirDeadband, byteOf b.dirDwell, boolByte b.vanePresent,
          boolByte b.rainPresent] ++ wordBytes b.dryHold ++ [boolByte b.probePresent] ++
        monitorReport b.windMonitor ++ monitorReport b.tempMonitor ++
        monitorReport b.supplyMonitor)) ∧
  (kind = 7 → resp.body.length = 6 ∧
    tells st.movement.origin
      [byteOf st.movement.value.normalBudget, byteOf st.movement.value.lowBudget,
        byteOf st.movement.value.partAddress])

/-! ### What ends with a transaction of the drive bus -/

/-- What is told of the order in flight that ends with `e`: its outcome, unless it is superseded (R154,
R157). -/
def flightTold (s : State) (e : OrderEnd) : List OutcomeTold :=
  match s.bus.inFlight with
  | some f => if f.superseded = true then [] else [{ opening := f.order.opening, ending := e }]
  | none => []

/-- What is told where the queued entry of opening `n` is removed with outcome `e` (R155). -/
def queueTold (s : State) (n : Nat) (e : OrderEnd) : List OutcomeTold :=
  if ∃ o ∈ s.bus.queue, o.opening = n then [{ opening := n, ending := e }] else []

/-- The queue without the entry of opening `n`. -/
def queueWithout (s : State) (n : Nat) : List Order := s.bus.queue.filter fun o => o.opening ≠ n

/-- The order in flight that a NOT_READY puts back at the tail of the queue, none where it is superseded
(R157). -/
def putBack (s : State) : List Order :=
  match s.bus.inFlight with
  | some f => if f.superseded = true then [] else [f.order]
  | none => []

/-! ### What the blocks do with a completed write (R16) -/

/-- `owner` reported that condition `c` is not live any more (R177). -/
def fallReported (t : State) (owner : Owner) (c : Condition) : Prop :=
  ∃ r ∈ t.mail.reports, r.owner = owner ∧ (c, false) ∈ r.lives

/-- `a'` is the anemometer `a` after a write that takes its presence from `before` to `after` (R84). -/
def presenceTaken (before after : Bool) (a a' : Anemometer) : Prop :=
  a'.value = a.value ∧ a'.inBand = a.inBand ∧ a'.faultyGate = a.faultyGate ∧
    (before = true → after = false → a'.cls = .absent) ∧
    (before = false → after = true → a'.cls = .stale) ∧ (before = after → a' = a)

/-- The class of the wind speed, from the anemometers' classes and S (R70). -/
def speedJudged (a b : Anemometer) (sample : Option Nat) (cls : ChannelClass) : Prop :=
  let usable := fun (x : Anemometer) => x.cls = .valid ∨ x.cls = .over
  (usable a → usable b →
    cls = if sample = some 600 ∧ (a.cls = .over ∨ b.cls = .over) then .over else .valid) ∧
    (usable a → ¬usable b → cls = a.cls) ∧ (¬usable a → usable b → cls = b.cls) ∧
    (¬usable a → ¬usable b →
      cls = if a.cls = .fault ∨ b.cls = .fault then .fault
        else if a.cls = .stale ∨ b.cls = .stale then .stale else .absent)

/-- A monitor's state after a write, from the state `st`, the classes of its channel before and after,
and the value kept (R84): NORMAL where the channel became ABSENT or LOW lost its mode, and then one
evaluation, held on an unordered channel. -/
def monitorTaken (m : MonitorLimits) (st : MonitorState) (before after : ChannelClass)
    (x : Option Int) : MonitorState :=
  monitorNext m
    (if before ≠ .absent ∧ after = .absent then .normal
      else if st = .low ∧ m.mode = .band then .normal else st)
    (if after.ordered = true then x else none)

/-- The weather unit and the resolver have taken a write of the weather block that makes it `v` (R66,
R84, R91): a write equal to the block in effect leaves the weather unit as it was, any other brings its
channels and monitors into line by the table of R84, and each enabled opening is recomputed. -/
def weatherTaken (s t : State) (v : WeatherBlock) : Prop :=
  let w := s.weather
  let w' := t.weather
  let old := s.store.weather.value
  let fitted := old.anemA.present = false ∧ old.anemB.present = false ∧
    (v.anemA.present = true ∨ v.anemB.present = true)
  (v = old → w' = w) ∧
  (v ≠ old →
    presenceTaken old.anemA.present v.anemA.present w.anemA w'.anemA ∧
    presenceTaken old.anemB.present v.anemB.present w.anemB w'.anemB ∧
    w'.sample = w.sample ∧ w'.filtered = w.filtered ∧ w'.gates = w.gates ∧
    (old.anemA.present ≠ v.anemA.present ∨ old.anemB.present ≠ v.anemB.present →
      speedJudged w'.anemA w'.anemB w.sample w'.speedClass) ∧
    (old.anemA.present = v.anemA.present → old.anemB.present = v.anemB.present →
      w'.speedClass = w.speedClass) ∧
    (w'.takeOver = true ↔ w.takeOver = true ∨ fitted) ∧
    (w'.capTakeOver = true ↔ w.capTakeOver = true ∨ fitted) ∧
    w'.vaneValue = w.vaneValue ∧ w'.tempValue = w.tempValue ∧
    w'.supplyClass = w.supplyClass ∧ w'.supplyValue = w.supplyValue ∧
    (old.vanePresent = true → v.vanePresent = false →
      w'.vaneClass = .absent ∧ w'.vaneTimer = none ∧ w'.heldDir = none ∧ w'.dwell = none) ∧
    (old.vanePresent = false → v.vanePresent = true →
      w'.vaneClass = .stale ∧ w'.vaneTimer = some 5000 ∧ w'.heldDir = w.heldDir) ∧
    (old.vanePresent = v.vanePresent →
      w'.vaneClass = w.vaneClass ∧ w'.vaneTimer = w.vaneTimer ∧ w'.heldDir = w.heldDir) ∧
    (old.dirDeadband ≠ v.dirDeadband ∨ old.dirDwell ≠ v.dirDwell → w'.dwell = none) ∧
    (old.dirDeadband = v.dirDeadband → old.dirDwell = v.dirDwell →
      old.vanePresent = v.vanePresent → w'.dwell = w.dwell) ∧
    (old.rainPresent = true → v.rainPresent = false →
      w'.wet = false ∧ w'.wetHold = none ∧ w'.dryHold = none) ∧
    (old.rainPresent = false → v.rainPresent = true →
      w'.wet = false ∧ w'.wetHold = some 0 ∧ w'.dryHold = none) ∧
    (old.rainPresent = v.rainPresent →
      w'.wet = w.wet ∧ w'.wetHold = w.wetHold ∧ w'.dryHold = w.dryHold) ∧
    (old.probePresent = true → v.probePresent = false →
      w'.tempClass = .absent ∧ w'.tempTimer = none) ∧
    (old.probePresent = false → v.probePresent = true →
      w'.tempClass = .stale ∧ w'.tempTimer = some 10000) ∧
    (old.probePresent = v.probePresent →
      w'.tempClass = w.tempClass ∧ w'.tempTimer = w.tempTimer) ∧
    w'.windState = monitorTaken v.windMonitor w.windState w.speedClass w'.speedClass
      (some (w.filtered : Int)) ∧
    w'.tempState = monitorTaken v.tempMonitor w.tempState w.tempClass w'.tempClass w.tempValue ∧
    w'.supplyState = monitorNext v.supplyMonitor
      (if w.supplyState = .low ∧ v.supplyMonitor.mode = .band then .normal else w.supplyState)
      (some w.supplyValue) ∧
    (w'.wet ≠ w.wet → .rain ∈ t.mail.weather ∧ weatherReported t .rain w'.wet) ∧
    (w'.storm ≠ w.storm → .storm ∈ t.mail.weather ∧ weatherReported t .storm w'.storm) ∧
    (w'.frost ≠ w.frost → .frost ∈ t.mail.weather ∧ weatherReported t .frost w'.frost) ∧
    (w'.lowSupply ≠ w.lowSupply → weatherReported t .lowSupply w'.lowSupply)) ∧
  ∀ n, t.store.enabled n = true → n ≤ s.results.length →
    ∃ r, t.result n = some r ∧ servedAs { s with store := t.store, weather := t.weather } n r

/-- The blocks have taken a write that makes opening `n`'s entry `v` (R87, R104, R111, R150, R161;
notes/assumptions/39.md). An opening that stays enabled is recomputed and, at rest or waiting, judged
again on the new target and entry. One newly enabled gets its movement and node record as at reset and
its result, with no previous target, and joins the rotation. One newly disabled loses its three records,
its queued order, the events told of it (notes/assumptions/17.md) and its order in flight
(notes/assumptions/50.md), all without outcome; the reply of its transaction will be discarded, it leaves
the rotation, and the conditions it alone made live fall. The lamps of the old and the new zone follow. -/
def openingTaken (s t : State) (n : Nat) (v : OpeningEntry) : Prop :=
  let old := s.store.opening n
  let now : State := { s with store := t.store, results := t.results }
  (old.enabled = true → v.enabled = true →
    (n ≤ s.results.length →
      ∃ r, t.result n = some r ∧ servedAs { s with store := t.store } n r) ∧
    t.node n = s.node n ∧
    ∀ m, s.move n = some m →
      (m.state = .atRest → restsAs now t n m) ∧
      (m.state = .waitSlot → nearTarget now n → restsAs now t n (m.bare .atRest)) ∧
      (m.state = .waitSlot → ¬nearTarget now n →
        t.move n = some m ∨ (s.eligible n = true ∧ t.moveState n = some .breakaway)) ∧
      (m.state ≠ .atRest → m.state ≠ .waitSlot → t.move n = some m)) ∧
  (old.enabled = false → v.enabled = true →
    (n ≤ s.moves.length →
      t.move n = some
        { state := .unknown, faultReason := none, retries := 0, direction := none
          breakaway := none, deadline := none, progressRef := none, progressWindow := none
          stopTimer := none, retryTimer := none, waitAge := none, orderPending := false
          classTold := none }) ∧
    (n ≤ s.bus.nodes.length →
      t.node n = some
        { state := .unpolled, failures := 0, lastReply := none, lastOutcome := none }) ∧
    (n ≤ s.results.length → n ≤ s.bus.nodes.length → s.result n = none →
      ∃ r, t.result n = some r ∧ servedAs { s with store := t.store, bus := t.bus } n r) ∧
    (s.bus.rotation ≠ 0 → t.bus.rotation = s.bus.rotation) ∧
    (s.bus.rotation = 0 → t.store.enabled t.bus.rotation = true ∧
      ∀ k, t.store.enabled k = true → t.bus.rotation ≤ k)) ∧
  (old.enabled = true → v.enabled = false →
    t.result n = none ∧ t.move n = none ∧ t.node n = none ∧
    (∀ o ∈ t.bus.queue, o.opening ≠ n) ∧ (∀ o ∈ t.mail.outcomes, o.opening ≠ n) ∧
    (∀ e ∈ t.mail.targets, e.opening ≠ n) ∧ (∀ e ∈ t.mail.replies, e.opening ≠ n) ∧
    t.bus.rotation ≠ n ∧ (s.bus.rotation ≠ n → t.bus.rotation = s.bus.rotation) ∧
    (∀ f, s.bus.inFlight = some f → f.order.opening = n → t.bus.inFlight = none) ∧
    (∀ x, s.bus.transaction = some x →
      t.bus.transaction = some (if x.node = n then { x with discard := true } else x)) ∧
    (s.moveState n = some .faulted → (∀ k, k ≠ n → s.moveState k ≠ some .faulted) →
      fallReported t .movementController .openingFault) ∧
    (s.nodeState n = some .lost → (∀ k, k ≠ n → s.nodeState k ≠ some .lost) →
      fallReported t .driveBusController .openingLost) ∧
    (s.nodeState n = some .isolated → (∀ k, k ≠ n → s.nodeState k ≠ some .isolated) →
      fallReported t .driveBusController .openingIsolated)) ∧
  (old.enabled = false → v.enabled = false → t.result n = s.result n ∧ t.node n = s.node n) ∧
  ∀ z r, isZone z = true → (z = old.zone ∨ z = v.zone) → s.zone z = some r → r.accepted ≠ none →
    ∃ r', t.zone z = some r' ∧ lampsFollow t z r'

/-- The fire unit has taken a write of zone `z`'s entry (R111): NORMAL or FAULT disabled, DISABLED
enabled by the class its line has accepted, with an alarm's placements of which the last `left` wait, and
otherwise no change. -/
def zoneTaken (s t : State) (z left : Nat) (enabled : Bool) : Prop :=
  let raised := fun (c : Condition) => ∃ x ∈ t.mail.reports, x.owner = .fireUnit ∧ c ∈ x.events
  ∀ r, isZone z = true → s.zone z = some r →
    ((enabled = false ∧ (r.state = .normal ∨ r.state = .fault)) ∨
        (enabled = true ∧ r.state = .disabled) →
      ∃ r', t.zone z = some r' ∧ r'.accepted = r.accepted ∧ r'.switchPos = r.switchPos ∧
        (r.accepted ≠ none → lampsFollow t z r') ∧
        (enabled = false → r'.state = .disabled) ∧
        (enabled = true → r.accepted = none ∨ r.accepted = some .normal → r'.state = .normal) ∧
        (enabled = true → r.accepted = some .short ∨ r.accepted = some .openCircuit →
          r'.state = .fault ∧ raised .zoneLineFault) ∧
        (enabled = true → r.accepted = some .alarm →
          r'.state = .alarm ∧ r'.lineFault = false ∧ raised .zoneAlarm ∧
            (s.mail.stepsOf z = [] → stepsTaken s t z left (s.store.scenario z)))) ∧
    ((enabled = false ∧ r.state = .disabled) ∨ (enabled = true ∧ r.state ≠ .disabled) →
      sameOutside [.store, .link] s t)

/-- `st'` is the station `st` after a write of its entry or of its group: a gesture in progress has ended
(R130; notes/assumptions/47.md). -/
def gestureEnded (st st' : Station) : Prop :=
  (st.gesture = .heldOpen ∨ st.gesture = .heldClose ∨ st.gesture = .heldBoth →
    st' = { st with gesture := .spent, holdTimer := none }) ∧
    (st.gesture = .idle ∨ st.gesture = .spent → st' = st)

/-- The arbiter has taken the budgets of a written movement block `v` (R149): an opening keeps its record
but that one that waited may be granted a slot, and where the new budget leaves a slot the eligible
opening that no other stands ahead of, of equals the lowest-numbered, is granted one (R148). -/
def budgetsTakenUp (s t : State) (v : MovementBlock) : Prop :=
  ∀ n m, isOpening n = true → s.move n = some m →
    (t.move n = some m ∨ (s.eligible n = true ∧ t.moveState n = some .breakaway)) ∧
    (s.breakawayOpenings.length < (if s.weather.lowSupply then v.lowBudget else v.normalBudget) →
      s.target n ≠ none → s.eligible n = true →
      (∀ k, isOpening k = true → s.eligible k = true →
        standsAhead (s.standing k) (s.standing n) = false ∧
        (k < n → standsAhead (s.standing n) (s.standing k) = true)) →
      t.moveState n = some .breakaway)

end Sys2Proof.Machine
end

