-- ==== Sys2Proof/Certificates/Slice0/Obligations.lean ====
section
/-! DEFINITION. The statements for the provers. Each docstring names the rules a statement
formalises. In a statement about every state, a premise on the length of a table says only that the
table has its fixed number of items. -/

open Sys2Proof Sys2Proof.Machine

/-! ### The step and every command -/

/-- One step takes the command at the front of the queue whole and runs it with the queue's rest; on an
empty queue the part idles. The queue is the model's (notes/assumptions/1.md). -/
def Obligations.StepRunsFrontCommand : Prop :=
  (∀ (c : Instr) (rest : List Instr) (s : State),
    step { s with pending := c :: rest } = exec c { s with pending := rest }) ∧
  ∀ s : State, s.pending = [] → step s = .next s

/-- Every command that names units that exist completes, in every state: the part refuses none and
stops at none. A numbered event outside the Identifiers table of 00 faults, which is the model's
(notes/assumptions/21.md). -/
def Obligations.WellFormedCommandsComplete : Prop :=
  (∀ (c : Instr) (s : State), c.wellFormed = true → ∃ t, exec c s = .next t) ∧
  (∀ (n : Nat) (s : State), isOpening n = false →
    exec (.targetEvent n) s = .fault .noSuchOpening ∧
    exec (.movementReply n) s = .fault .noSuchOpening ∧
    exec (.orderOutcome n) s = .fault .noSuchOpening ∧
    exec (.nodeLostEvent n) s = .fault .noSuchOpening ∧
    exec (.breakawayEnd n) s = .fault .noSuchOpening ∧
    exec (.overtime n) s = .fault .noSuchOpening ∧
    exec (.progressWindowEnd n) s = .fault .noSuchOpening ∧
    exec (.noStop n) s = .fault .noSuchOpening ∧
    exec (.retryTimerEnd n) s = .fault .noSuchOpening ∧
    exec (.startWaitRise n) s = .fault .noSuchOpening) ∧
  (∀ (z : Nat) (s : State), isZone z = false →
    (∀ count, exec (.zoneLineSample z count) s = .fault .noSuchZone) ∧
    (∀ left, exec (.lineAcceptance z left) s = .fault .noSuchZone) ∧
    (∀ a b, exec (.firemanSwitchChange z a b) s = .fault .noSuchZone) ∧
    exec (.switchAcceptance z) s = .fault .noSuchZone) ∧
  (∀ (n : Nat) (s : State), isStation n = false →
    (∀ b made, exec (.buttonContactChange n b made) s = .fault .noSuchStation) ∧
    (∀ b, exec (.buttonAcceptance n b) s = .fault .noSuchStation) ∧
    exec (.holdTimerExpiry n) s = .fault .noSuchStation) ∧
  ∀ (k : Nat) (s : State), isSlot k = false →
    exec (.recordExpired k) s = .fault .noSuchSlot ∧
    exec (.recordStarved k) s = .fault .noSuchSlot

/-- The frame of every command: it changes no block but those its rules name (`touchedBy`), so
that only the owner of a block changes it (00, Block diagram), and no command changes the queue. -/
def Obligations.CommandsTouchOnlyTheirBlocks : Prop :=
  ∀ (c : Instr) (s t : State), exec c s = .next t → sameOutside (touchedBy c) s t

/-- The frame within a block: a command that names one zone, station, opening, node, slot or sensor
leaves every other one of its kind as it stood, but that an opening that waited may be granted a start
slot, a record that heads a list has its wait restored, and a station whose record left the table holds
no handle (R45, R107, R125, R129, R132, R148, R158). -/
def Obligations.UnitsKeptApart : Prop :=
  (∀ (z : Nat) (c : Instr) (s t : State),
    ((∃ x, c = .zoneLineSample z x) ∨ (∃ left, c = .lineAcceptance z left) ∨
      (∃ a b, c = .firemanSwitchChange z a b) ∨ c = .switchAcceptance z) →
    exec c s = .next t → ∀ y, y ≠ z → t.zone y = s.zone y) ∧
  (∀ (n : Nat) (c : Instr) (s t : State),
    ((∃ b x, c = .buttonContactChange n b x) ∨ (∃ b, c = .buttonAcceptance n b) ∨
      c = .holdTimerExpiry n) →
    exec c s = .next t → ∀ k st, k ≠ n → s.stationOf k = some st →
      ∃ st', t.stationOf k = some st' ∧ st'.openButton = st.openButton ∧
        st'.closeButton = st.closeButton ∧ st'.gesture = st.gesture ∧
        st'.holdTimer = st.holdTimer ∧
        (st'.handle = st.handle ∨
          (st'.handle = none ∧ ∃ j r, s.demand.inSlot j = some r ∧ r.source = .station k ∧
            t.demand.find (s.demand.handleOf j) = none))) ∧
  (∀ (n : Nat) (c : Instr) (s t : State),
    (c = .targetEvent n ∨ c = .movementReply n ∨ c = .orderOutcome n ∨ c = .nodeLostEvent n ∨
      c = .breakawayEnd n ∨ c = .overtime n ∨ c = .progressWindowEnd n ∨ c = .noStop n ∨
      c = .retryTimerEnd n ∨ c = .startWaitRise n ∨ ∃ m x, c = .clearFault m x ∧ n = x.toNat) →
    exec c s = .next t → ∀ k, k ≠ n →
      t.move k = s.move k ∨ (s.eligible k = true ∧ t.moveState k = some .breakaway)) ∧
  (∀ (c : Instr) (x : Transaction) (s t : State),
    (c = .noReply ∨ ∃ bytes, c = .replyReceived bytes) → s.bus.transaction = some x →
    exec c s = .next t → ∀ k, k ≠ x.node → t.node k = s.node k) ∧
  (∀ (slot : Nat) (c : Instr) (s t : State),
    ((∃ m a g d, c = .adjust m a g d ∧ slot = a.toNat) ∨
      (∃ m a g, c = .retire m a g ∧ slot = a.toNat) ∨ c = .recordExpired slot ∨
      c = .recordStarved slot) →
    exec c s = .next t → ∀ k, k ≠ slot →
      (t.demand.handleOf k = s.demand.handleOf k) ∧
      (s.demand.inSlot k = none → t.demand.inSlot k = none) ∧
      ∀ r, s.demand.inSlot k = some r →
        t.demand.inSlot k = some r ∨
          t.demand.inSlot k = some { r with waitRemaining := r.waitLimit }) ∧
  ∀ (c : Instr) (s t : State), exec c s = .next t →
    (((∃ x, c = .vaneReading x) ∨ c = .vaneStale ∨ c = .dwellReached) →
      t.weather = { s.weather with
        vaneClass := t.weather.vaneClass, vaneValue := t.weather.vaneValue,
        vaneTimer := t.weather.vaneTimer, heldDir := t.weather.heldDir,
        dwell := t.weather.dwell }) ∧
    (((∃ x, c = .rainSample x) ∨ c = .wetHoldEnd ∨ c = .dryHoldEnd) →
      t.weather = { s.weather with
        rainSampled := t.weather.rainSampled, wet := t.weather.wet,
        wetHold := t.weather.wetHold, dryHold := t.weather.dryHold }) ∧
    (((∃ x, c = .probeReading x) ∨ c = .probeStale) →
      t.weather = { s.weather with
        tempClass := t.weather.tempClass, tempValue := t.weather.tempValue,
        tempTimer := t.weather.tempTimer, tempState := t.weather.tempState }) ∧
    ((∃ x, c = .supplySample x) →
      t.weather = { s.weather with
        supplyClass := t.weather.supplyClass, supplyValue := t.weather.supplyValue,
        supplyState := t.weather.supplyState })

/-! ### The supervisory link as a line (R163 to R167) -/

/-- A byte on the line moves the receiver as the table of R163 gives, with no response waiting or being
sent; a byte with a framing error is taken like any other and marks the buffer; a byte at a full buffer
empties it, and 4 idle character times in DISCARDING make the receiver IDLE. -/
def Obligations.ReceiverMovesByTable : Prop :=
  (∀ (b : Byte) (misframed : Bool) (s : State), s.link.sending = none → s.link.held = none →
    ∃ t, exec (.byteArrives b misframed) s = .next t ∧ sameOutside [.link] s t ∧
      match s.link.rx with
      | .idle => t.link = { s.link with rx := .receiving, buffer := [b], misframed := misframed }
      | .receiving =>
        if s.link.buffer.length < 206 then
          t.link = { s.link with
            buffer := s.link.buffer ++ [b], misframed := s.link.misframed || misframed }
        else t.link = { s.link with rx := .discarding, buffer := [], misframed := false }
      | .discarding => t.link = s.link) ∧
  (∀ s : State, s.link.rx = .receiving → s.link.buffer.length = 206 → s.link.sending = none →
    s.link.held = none →
    ∃ t, exec .receiveBufferOverflow s = .next t ∧ sameOutside [.link] s t ∧
      t.link = { s.link with rx := .discarding, buffer := [], misframed := false }) ∧
  ∀ s : State, s.link.rx = .discarding → s.link.sending = none →
    ∃ t, exec .discardIdleGap s = .next t ∧ sameOutside [.link] s t ∧
      t.link = { s.link with rx := .idle }

/-- A held response is sent with the receive buffer emptied, or is discarded unsent by a byte that
arrives first, which is then received; the deferred response is sent where no frame is being received
and no held response waits or is being sent, and waits otherwise; the end of a transmission leaves the
receiver DISCARDING; and after an accepted RESTART's response, sent or discarded, the part is due to
restart (R163, R165, R166, R172). The model's are the mark that it is due (notes/assumptions/12.md) and
the receiver's state kept while the part sends (notes/assumptions/14.md). -/
def Obligations.ResponsesAreSentOrDiscarded : Prop :=
  (∀ (s : State) (r : Response), s.link.held = some r → s.link.sending = none →
    (∃ t, exec .heldResponseSend s = .next t ∧ sameOutside [.link] s t ∧
      t.link = { s.link with
        held := none, sending := some r, buffer := [], misframed := false }) ∧
    ∀ b misframed, ∃ t, exec (.heldResponseDiscard b misframed) s = .next t ∧ sameOutside [.link] s t ∧
      t.link.held = none ∧ t.link.sending = none ∧ t.link.deferred = s.link.deferred ∧
      (s.link.rx = .idle →
        t.link.rx = .receiving ∧ t.link.buffer = [b] ∧ t.link.misframed = misframed) ∧
      (t.link.restartDue = true ↔
        s.link.restartDue = true ∨ (r.code = 0x92#8 ∧ r.status = .accepted))) ∧
  (∀ (s : State) (r : Response), s.link.deferred = some r →
    (s.link.rx = .idle → s.link.held = none → s.link.sending = none →
      ∃ t, exec .deferredResponseSend s = .next t ∧ sameOutside [.link] s t ∧
        t.link = { s.link with
          deferred := none, sending := some r, buffer := [], misframed := false }) ∧
    (s.link.rx ≠ .idle ∨ s.link.held ≠ none ∨ s.link.sending ≠ none →
      exec .deferredResponseSend s = .next s)) ∧
  ∀ (s : State) (r : Response), s.link.sending = some r →
    ∃ t, exec .transmissionEnd s = .next t ∧ sameOutside [.link] s t ∧
      t.link.sending = none ∧ t.link.rx = .discarding ∧ t.link.buffer = [] ∧
      t.link.misframed = false ∧
      t.link.held = s.link.held ∧ t.link.deferred = s.link.deferred ∧
      (t.link.restartDue = true ↔
        s.link.restartDue = true ∨ (r.code = 0x92#8 ∧ r.status = .accepted))

/-- The frame of every request, built as R173 to R175 lay it out and received without a framing
error, is taken as exactly that request: the frame in the buffer, FRAME_TAKEN does what the request
itself does on the part with its receiver IDLE and its buffer empty. That the request rows stand for
the frames taken is the model's (notes/assumptions/6.md). -/
def Obligations.RequestFramesAreTakenAsTheirRequests : Prop :=
  ∀ (i : Instr) (s : State) (m : Nat) (code : Byte) (payload : List Byte),
    requestParts i = some (m, code, payload) → i.wellFormed = true →
    s.store.movement.value.partAddress ≤ 31 → s.link.rx = .receiving → s.link.sending = none →
    s.link.misframed = false →
    s.link.buffer = requestFrame s.store.movement.value.partAddress m code payload →
    ∃ t, exec .frameTaken s = .next t ∧
      exec i (s.setLink { s.link with rx := .idle, buffer := [], misframed := false }) = .next t

/-- A frame that fails the frame check, as one with a framing error in a byte does, or the addressing
check gets no response and changes nothing but the receiver, which is IDLE again (R163, R164). -/
def Obligations.BadFramesChangeNothing : Prop :=
  ∀ s : State, s.link.rx = .receiving → s.link.sending = none →
    (s.link.misframed = true ∨ s.link.buffer.length < 6 ∨ 200 < (s.link.buffer.getD 3 0).toNat ∨
      s.link.buffer.length ≠ 6 + (s.link.buffer.getD 3 0).toNat ∨
      s.link.buffer.drop (s.link.buffer.length - 2) ≠
        splitWord (crc16 (s.link.buffer.take (s.link.buffer.length - 2))) ∨
      (s.link.buffer.getD 0 0).toNat ≠ s.store.movement.value.partAddress ∨
      isSupervisor (s.link.buffer.getD 1 0).toNat = false ∨
      0x80 ≤ (s.link.buffer.getD 2 0).toNat) →
    exec .frameTaken s =
      .next (s.setLink { s.link with rx := .idle, buffer := [], misframed := false })

/-! ### Placing, adjusting and retiring records (R30 to R42, R62 to R64) -/

/-- A PLACE that passes every step installs its record: the record with the fields of the placement is
named by a fresh handle, stands in the rank list of every opening its target covers, and is answered
ACCEPTED with NEW or REPLACED and CLAMPED. Where it matches a living record's source, class and
target it retires that record and takes its slot with the next generation. In each list it stands behind
the records of higher rank and ahead of the others, and it is last in the age order; the YIELD records
of lower rank in those lists are retired, and every other record stays, but for a wait restored (R26,
R27, R30 to R32, R36, R37, R45, R52, R53). -/
def Obligations.PlaceInstallsRecord : Prop :=
  ∀ (m : Nat) (f : PlaceFields) (s : State) (r : DemandRecord), isSupervisor m = true →
    s.classPermitted m f.cls = true → s.placedRecord m f = some r →
    s.demand.refusal r (s.store.covered r.target) = none → s.demand.lists.length = 48 →
    let yields := fun (x : Handle) =>
      match s.demand.find x with
      | some y => y.mode == .yield && decide (y.cls.rank < r.cls.rank)
      | none => false
    let stood := fun (n : Nat) =>
      match s.demand.matching r with
      | some k => (s.demand.list n).filter fun x => x != s.demand.handleOf k
      | none => s.demand.list n
    ∃ t h resp, exec (.place m f) s = .next t ∧
      r.source = .supervisor m ∧ classOfCode f.cls = some r.cls ∧
      (r.cls = .lockout → r.aperture = none) ∧
      (r.cls ≠ .lockout → r.aperture = some (min f.aperture.toNat 1000)) ∧
      (f.lifetime = 0 → r.lifetime = none) ∧
      (f.lifetime ≠ 0 → r.lifetime = some f.lifetime.toNat) ∧
      t.demand.find h = some r ∧ s.demand.find h = none ∧
      (∀ n ∈ s.store.covered r.target, isOpening n = true → h ∈ t.demand.list n) ∧
      t.link.held = some resp ∧ resp.dest = m ∧ resp.code = 0x81#8 ∧ resp.status = .accepted ∧
      resp.flags.new = (s.demand.matching r).isNone ∧
      resp.flags.replaced = (s.demand.matching r).isSome ∧
      (resp.flags.clamped = true ↔ f.aperture ≠ 0xFFFF#16 ∧ 1000 < f.aperture.toNat) ∧
      (∀ k, s.demand.matching r = some k →
        h = { slot := k, gen := (s.demand.handleOf k).gen + 1 } ∧
          t.demand.find (s.demand.handleOf k) = none) ∧
      ((s.store.covered r.target).Nodup → ∀ n ∈ s.store.covered r.target, isOpening n = true →
        t.demand.list n =
          (((stood n).takeWhile fun x => decide (r.cls.rank < s.demand.rankAt x)) ++
            h :: (stood n).dropWhile fun x => decide (r.cls.rank < s.demand.rankAt x)).filter
              fun x => !yields x) ∧
      (∃ older, t.demand.ages = older ++ [h] ∧ older.Sublist s.demand.ages) ∧
      (∀ n ∈ s.store.covered r.target, ∀ x ∈ s.demand.list n, yields x = true →
        t.demand.find x = none ∧ resp.flags.retiredOthers = true) ∧
      ∀ x y, s.demand.find x = some y → s.demand.matching r ≠ some x.slot →
        (yields x = false ∨ ∀ n ∈ s.store.covered r.target, x ∉ s.demand.list n) →
        t.demand.find x = some y ∨ t.demand.find x = some { y with waitRemaining := y.waitLimit }

/-- A PLACE is refused NOT_PERMITTED, BAD_FIELD, NO_SLOT or LIST_FULL, in that order, and changes
nothing but the response held (R30, R33, R54, R167, R168). That a request row leaves the receiver as
it stands, and that its response takes the place of one still waiting, is the model's
(notes/assumptions/6.md, notes/assumptions/12.md). -/
def Obligations.PlaceRefusedInOrder : Prop :=
  ∀ (m : Nat) (f : PlaceFields) (s : State), isSupervisor m = true →
    ∃ t resp, exec (.place m f) s = .next t ∧ t.link.held = some resp ∧
      (resp.status ≠ .accepted → answered [.link] s t resp) ∧
      (∀ c, classOfCode f.cls = some c → (s.store.supervisor m).mayPlace c = false →
        resp.status = .notPermitted) ∧
      (s.classPermitted m f.cls = true → s.placedRecord m f = none → resp.status = .badField) ∧
      ∀ r, s.classPermitted m f.cls = true → s.placedRecord m f = some r →
        s.demand.matching r = none →
        (s.demand.freeSlot = none → resp.status = .noSlot) ∧
        (s.demand.freeSlot ≠ none →
          (∃ n ∈ s.store.covered r.target, 8 ≤ (s.demand.list n).length) →
          resp.status = .listFull)

/-- A PROBE leaves no trace but its answer: refused as a PLACE is at the permission and field steps,
and otherwise ACCEPTED with the refusal that a PLACE would meet (R62 to R64). That a request row
leaves the receiver as it stands, and that its response takes the place of one still waiting, is the
model's (notes/assumptions/6.md, notes/assumptions/12.md). -/
def Obligations.ProbeLeavesNoTrace : Prop :=
  ∀ (m : Nat) (f : PlaceFields) (s : State), isSupervisor m = true →
    ∃ t resp, exec (.probe m f) s = .next t ∧ answered [.link] s t resp ∧ resp.dest = m ∧ resp.code = 0x84#8 ∧
      (s.classPermitted m f.cls = false → resp.status = .notPermitted) ∧
      (s.classPermitted m f.cls = true → s.placedRecord m f = none → resp.status = .badField) ∧
      ∀ r, s.classPermitted m f.cls = true → s.placedRecord m f = some r →
        resp.status = .accepted ∧ resp.body.length = 5 ∧
        (resp.flags.clamped = true ↔ f.aperture ≠ 0xFFFF#16 ∧ 1000 < f.aperture.toNat) ∧
        (s.demand.refusal r (s.store.covered r.target) = none →
          resp.body.head? = some 0 ∧ resp.flags.new = (s.demand.matching r).isNone) ∧
        (s.demand.refusal r (s.store.covered r.target) = some .noSlot →
          resp.body.head? = some 1 ∧ resp.flags.new = false) ∧
        (s.demand.refusal r (s.store.covered r.target) = some .listFull →
          resp.body.head? = some 2 ∧ resp.flags.new = false)

/-- An accepted ADJUST moves the record's aperture by the delta, saturated into 0 to 1000 with
CLAMPED, and keeps its handle, age, place in every list and other fields, but for the wait
remaining, which a head has restored (R38, R45). -/
def Obligations.AdjustMovesAperture : Prop :=
  ∀ (m : Nat) (slot gen : Byte) (delta : Word16) (s : State) (r : DemandRecord) (a : Nat),
    isSupervisor m = true → s.demand.find { slot := slot.toNat, gen := gen } = some r →
    r.source = .supervisor m → r.cls ≠ .lockout → r.aperture = some a →
    -1000 ≤ delta.toInt → delta.toInt ≤ 1000 →
    ∃ t r' resp, exec (.adjust m slot gen delta) s = .next t ∧
      t.demand.find { slot := slot.toNat, gen := gen } = some r' ∧
      r'.aperture =
        some (if (a : Int) + delta.toInt < 0 then 0
          else if 1000 < (a : Int) + delta.toInt then 1000
          else ((a : Int) + delta.toInt).toNat) ∧
      r'.source = r.source ∧ r'.cls = r.cls ∧ r'.target = r.target ∧ r'.mode = r.mode ∧
      r'.lifetime = r.lifetime ∧ r'.waitLimit = r.waitLimit ∧ t.demand.ages = s.demand.ages ∧
      t.demand.lists = s.demand.lists ∧
      t.link.held = some resp ∧ resp.code = 0x82#8 ∧ resp.status = .accepted ∧
      (resp.flags.clamped = true ↔
        (a : Int) + delta.toInt < 0 ∨ 1000 < (a : Int) + delta.toInt) ∧
      resp.flags.new = false ∧ resp.flags.replaced = false ∧ resp.flags.retiredOthers = false

/-- An accepted RETIRE takes the record out of the age order and of every list, frees its slot with the
generation counted up, and answers the record as it stood (R26, R40, R42). -/
def Obligations.RetireFreesSlot : Prop :=
  ∀ (m : Nat) (slot gen : Byte) (s : State) (r : DemandRecord), isSupervisor m = true →
    s.demand.find { slot := slot.toNat, gen := gen } = some r → r.source = .supervisor m →
    ∃ t resp, exec (.retire m slot gen) s = .next t ∧
      t.demand.inSlot slot.toNat = none ∧
      t.demand.handleOf slot.toNat = { slot := slot.toNat, gen := gen + 1 } ∧
      { slot := slot.toNat, gen := gen } ∉ t.demand.ages ∧
      (∀ n, { slot := slot.toNat, gen := gen } ∉ t.demand.list n) ∧
      t.link.held = some resp ∧ resp.code = 0x83#8 ∧ resp.status = .accepted ∧
      resp.body = s.demand.recordBytes { slot := slot.toNat, gen := gen } r

/-- ADJUST and RETIRE are refused NOT_FOUND where the handle names no living record and NOT_OWNER
where its source is not the sender, and then change nothing but the response held (R23, R38, R42).
That a request row leaves the receiver as it stands, and that its response takes the place of one
still waiting, is the model's (notes/assumptions/6.md, notes/assumptions/12.md). -/
def Obligations.OthersRecordsAreSafe : Prop :=
  ∀ (m : Nat) (slot gen : Byte) (delta : Word16) (s : State), isSupervisor m = true →
    (s.demand.find { slot := slot.toNat, gen := gen } = none →
      (∃ t resp, exec (.retire m slot gen) s = .next t ∧ answered [.link] s t resp ∧ resp.status = .notFound) ∧
      (-1000 ≤ delta.toInt → delta.toInt ≤ 1000 →
        ∃ t resp, exec (.adjust m slot gen delta) s = .next t ∧ answered [.link] s t resp ∧ resp.status = .notFound)) ∧
    ∀ r, s.demand.find { slot := slot.toNat, gen := gen } = some r → r.source ≠ .supervisor m →
      (∃ t resp, exec (.retire m slot gen) s = .next t ∧ answered [.link] s t resp ∧ resp.status = .notOwner) ∧
      (r.cls ≠ .lockout → -1000 ≤ delta.toInt → delta.toInt ≤ 1000 →
        ∃ t resp, exec (.adjust m slot gen delta) s = .next t ∧ answered [.link] s t resp ∧ resp.status = .notOwner)

/-! ### Reading (R49, R83, R121, R169 to R171) -/

/-- LIST_RECORDS lists the living handles in ascending slot order, and READ_RECORD gives a living
record in the layout of R174 or answers NOT_FOUND; neither changes anything but the response held
(R49, R174). That a request row leaves the receiver as it stands, and that its response takes the
place of one still waiting, is the model's (notes/assumptions/6.md, notes/assumptions/12.md). -/
def Obligations.RecordsReadAsTheyStand : Prop :=
  ∀ (m : Nat) (s : State), isSupervisor m = true →
    (∃ t resp, exec (.listRecords m none) s = .next t ∧ answered [.link] s t resp ∧ resp.status = .accepted ∧
      resp.body = handleListBytes
        (((List.range s.demand.slots.length).filter fun k => (s.demand.inSlot k).isSome).map
          s.demand.handleOf)) ∧
    (∀ kind number, sourceOf kind number = none →
      ∃ t resp, exec (.listRecords m (some (kind, number))) s = .next t ∧
        answered [.link] s t resp ∧ resp.status = .badField) ∧
    ∀ slot gen, ∃ t resp, exec (.readRecord m slot gen) s = .next t ∧ answered [.link] s t resp ∧ resp.code = 0x86#8 ∧
      (s.demand.find { slot := slot.toNat, gen := gen } = none → resp.status = .notFound) ∧
      ∀ r, s.demand.find { slot := slot.toNat, gen := gen } = some r →
        resp.status = .accepted ∧ resp.body.length = 15 ∧
        resp.body = [slot, gen] ++ r.source.bytes ++ [r.cls.code] ++ r.target.bytes ++
          optWord r.aperture ++ [r.mode.code] ++ wordBytes (r.lifetime.getD 0) ++
          wordBytes (r.waitRemaining.getD 0) ++
          [(s.demand.status { slot := slot.toNat, gen := gen }).code]

/-- READ_OPENING answers the result, the movement record and the node record of an enabled opening
and only absences for another; READ_GROUP the member list and the number of living records whose
target is the group; READ_ZONE and READ_WEATHER every field of the zone and of the weather unit
(`zoneReport`, `weatherReport`); READ_CONDITIONS the three sets and the reset cause; READ_CONFIG the
kind, the index, the origin and the value in effect of any entry (`configAnswered`). Each refuses
BAD_FIELD for a number out of range and READ_CONFIG for an unknown kind too. None changes anything
but the response held (R1, R83, R97, R121, R169 to R171, R174, R175, R180). What the rain channel
reports until its first sample, and from a write that makes its contact present again on, is the
model's (notes/assumptions/31.md, notes/assumptions/41.md). That the weather and the movement block
are read by any index, which the answer echoes, is the model's (notes/assumptions/36.md). That a
request row leaves the receiver as it stands, and that its response takes the place of one still
waiting, is the model's (notes/assumptions/6.md, notes/assumptions/12.md). -/
def Obligations.ReadsAnswerWhatStands : Prop :=
  ∀ (m : Nat) (x kind : Byte) (s : State), isSupervisor m = true →
    (∃ t resp, exec (.readOpening m x) s = .next t ∧ answered [.link] s t resp ∧ resp.code = 0x87#8 ∧
      (isOpening x.toNat = false → resp.status = .badField) ∧
      (isOpening x.toNat = true → resp.status = .accepted ∧ resp.body.length = 39) ∧
      (isOpening x.toNat = true → s.result x.toNat = none →
        resp.body = 0 :: List.replicate 38 0xFF#8) ∧
      ∀ r mv d, isOpening x.toNat = true → s.result x.toNat = some r → s.move x.toNat = some mv →
        s.node x.toNat = some d →
        resp.body = 1 :: (r.bytes ++ mv.bytes ++ d.bytes)) ∧
    (∃ t resp, exec (.readGroup m x) s = .next t ∧ answered [.link] s t resp ∧ resp.code = 0x88#8 ∧
      (x.toNat = 0 ∨ 24 < x.toNat → resp.status = .badField) ∧
      (1 ≤ x.toNat → x.toNat ≤ 24 → resp.status = .accepted ∧
        resp.body = byteOf (s.store.group x.toNat).length ::
          (s.store.group x.toNat).map byteOf ++
            [byteOf (living s fun r => r.target == .group x.toNat)])) ∧
    (∃ t resp, exec (.readZone m x) s = .next t ∧ answered [.link] s t resp ∧ resp.code = 0x89#8 ∧
      (isZone x.toNat = false → resp.status = .badField) ∧
      ∀ z, isZone x.toNat = true → s.zone x.toNat = some z →
        resp.status = .accepted ∧ resp.body.length = 15 ∧
        ∀ fireman : Option Handle,
          (∀ h, (∃ r, s.demand.find h = some r ∧ r.source = .fireman x.toNat) ↔
            fireman = some h) →
          resp.body = zoneReport s x.toNat z fireman) ∧
    (∃ t resp, exec (.readWeather m) s = .next t ∧ answered [.link] s t resp ∧ resp.code = 0x8A#8 ∧
      resp.status = .accepted ∧ resp.body.length = 49 ∧ resp.body = weatherReport s) ∧
    (∃ t resp, exec (.readConditions m) s = .next t ∧ answered [.link] s t resp ∧
      resp.code = 0x8B#8 ∧ resp.status = .accepted ∧
      resp.body = setBytes s.conditions.live ++ setBytes s.conditions.sticky ++
        setBytes s.conditions.mask ++ [s.conditions.cause.code]) ∧
    ∃ t resp, exec (.readConfig m kind x) s = .next t ∧ answered [.link] s t resp ∧
      resp.code = 0x8F#8 ∧ configAnswered s kind x resp

/-! ### Conditions (R171, R177 to R180) -/

/-- CLEAR_CONDITIONS clears the sticky state of each condition in its set and nothing else, and
SET_MASK makes the mask its set; attention is then judged, and the answer carries that judgement. A
set that names a condition number above 18 is refused BAD_FIELD (R171, R178, R179). That a request
row leaves the receiver as it stands, and that its response takes the place of one still waiting, is
the model's (notes/assumptions/6.md, notes/assumptions/12.md). -/
def Obligations.ClearAndMaskConditions : Prop :=
  ∀ (m : Nat) (set : BitVec 24) (s : State), isSupervisor m = true →
    (set.toNat < 2 ^ 19 →
      (∃ t resp, exec (.clearConditions m set) s = .next t ∧ answered [.conditions, .link] s t resp ∧ resp.status = .accepted ∧
        resp.attention = t.conditions.attention ∧ attentionRight t ∧
        t.conditions.live = s.conditions.live ∧ t.conditions.mask = s.conditions.mask ∧
        t.conditions.cause = s.conditions.cause ∧
        ∀ k, k < 19 → t.conditions.sticky.getLsbD k =
          (s.conditions.sticky.getLsbD k && !set.getLsbD k)) ∧
      ∃ t resp, exec (.setMask m set) s = .next t ∧ answered [.conditions, .link] s t resp ∧ resp.status = .accepted ∧
        resp.attention = t.conditions.attention ∧ attentionRight t ∧
        t.conditions.live = s.conditions.live ∧ t.conditions.sticky = s.conditions.sticky ∧
        t.conditions.cause = s.conditions.cause ∧
        ∀ k, k < 19 → t.conditions.mask.getLsbD k = set.getLsbD k) ∧
    (2 ^ 19 ≤ set.toNat →
      (∃ t resp, exec (.clearConditions m set) s = .next t ∧ answered [.link] s t resp ∧ resp.status = .badField) ∧
      ∃ t resp, exec (.setMask m set) s = .next t ∧ answered [.link] s t resp ∧ resp.status = .badField)

/-- The condition unit takes the oldest report of an owner: a reported live state is taken, an event
sets its sticky state, a rise of a live condition sets its sticky state, a fall leaves it, the mask has
no effect, and attention is judged (R177, R179). That reports wait in a mailbox, the oldest of an owner
taken first, is the model's (notes/assumptions/4.md). -/
def Obligations.ReportIsTaken : Prop :=
  ∀ (owner : Owner) (s : State) (r : Report) (rest : List Report),
    takeFirst (fun x => x.owner == owner) s.mail.reports = some (r, rest) →
    (r.lives.map Prod.fst).Nodup →
    ∃ t, exec (.conditionReport owner) s = .next t ∧ sameOutside [.conditions, .mail] s t ∧
      t.mail = { s.mail with reports := rest } ∧
      t.conditions.mask = s.conditions.mask ∧ t.conditions.cause = s.conditions.cause ∧
      attentionRight t ∧
      ∀ c : Condition,
        (t.conditions.live.getLsbD c.number =
          if (c, true) ∈ r.lives then true
          else if (c, false) ∈ r.lives then false
          else s.conditions.live.getLsbD c.number) ∧
        (t.conditions.sticky.getLsbD c.number = true ↔
          s.conditions.sticky.getLsbD c.number = true ∨ c ∈ r.events ∨
            (c.setsOnRise = true ∧ (c, true) ∈ r.lives ∧
              s.conditions.live.getLsbD c.number = false))

/-! ### CONFIGURE, the store and reset (R14 to R20, R170) -/

/-- An accepted CONFIGURE, with no deferred response waiting, starts the write and is not answered
yet; every read of the site tables still returns the values in effect. Of the link it discards a
held response that still waits, after which a restart is due where that was an accepted RESTART's,
and changes nothing else (R165, R172; that the row stands for the frame whose bytes discard it, and
that the restart is a row of its own, is the model's: notes/assumptions/6.md,
notes/assumptions/12.md). An opening entry's new value goes to the copy that is not in effect, with
the sequence count one above the other's (R14, R15, R166); that the copy holds them from the
acceptance on, though it is not valid until it has been completely written, is the model's
(notes/assumptions/28.md). Of an entry with no copy in effect the copy and the count are free values
and nothing is said (notes/assumptions/9.md). -/
def Obligations.ConfigureStartsWrite : Prop :=
  ∀ (m : Nat) (kind index : Byte) (value : List Byte) (s : State) (ev : EntryValue),
    isSupervisor m = true → (s.store.supervisor m).mayConfigure = true →
    parseEntry kind index value = some ev → ev.valid = true →
    s.store.relationsHold ev = true → s.store.writing = none → s.link.deferred = none →
    s.entryInUse ev = false →
    ∃ t, exec (.configure m kind index value) s = .next t ∧ sameOutside [.store, .link] s t ∧
      t.link.held = none ∧ heldDiscarded s t ∧ (s.link.held = none → t.link = s.link) ∧
      t.store.writing = some { entry := ev, sender := m, kind := kind, index := index } ∧
      (∀ k i, t.store.entryInEffect k i = s.store.entryInEffect k i) ∧
      ∀ n v e c, ev = .opening n v → nth s.store.openings n = some e → e.inEffect = some c →
        ∃ e', nth t.store.openings n = some e' ∧ e'.inEffect = some c ∧
          match c with
          | .first => e'.first = e.first ∧ e'.second.value = v ∧
              e'.second.sequence = e.first.sequence + 1
          | .second => e'.second = e.second ∧ e'.first.value = v ∧
              e'.first.sequence = e.second.sequence + 1

/-- A CONFIGURE is refused NOT_PERMITTED, BAD_FIELD, BUSY (while a write is under way, or, which is
the model's, while its response still waits after it: notes/assumptions/15.md) or IN_USE, in that
order; FIRE_RESET and RESTART without their permission are refused NOT_PERMITTED; a refused request
changes nothing but the response held; and a permitted RESTART is answered ACCEPTED and changes
nothing else yet (R14, R117, R166 to R168, R170, R172). That a request row leaves the receiver as it
stands, and that its response takes the place of one still waiting, is the model's
(notes/assumptions/6.md, notes/assumptions/12.md). -/
def Obligations.PermissionsAndOrderOfRefusals : Prop :=
  ∀ (m : Nat) (s : State), isSupervisor m = true →
    (∀ kind index value, (s.store.supervisor m).mayConfigure = false →
      ∃ t resp, exec (.configure m kind index value) s = .next t ∧ answered [.link] s t resp ∧ resp.status = .notPermitted) ∧
    (∀ kind index value, (s.store.supervisor m).mayConfigure = true →
      (parseEntry kind index value = none ∨
        ∃ ev, parseEntry kind index value = some ev ∧
          (ev.valid = false ∨ s.store.relationsHold ev = false)) →
      ∃ t resp, exec (.configure m kind index value) s = .next t ∧ answered [.link] s t resp ∧ resp.status = .badField) ∧
    (∀ kind index value ev, (s.store.supervisor m).mayConfigure = true →
      parseEntry kind index value = some ev → ev.valid = true → s.store.relationsHold ev = true →
      (s.store.writing ≠ none ∨ s.link.deferred ≠ none →
        ∃ t resp, exec (.configure m kind index value) s = .next t ∧ answered [.link] s t resp ∧ resp.status = .busy) ∧
      (s.store.writing = none → s.link.deferred = none → s.entryInUse ev = true →
        ∃ t resp, exec (.configure m kind index value) s = .next t ∧ answered [.link] s t resp ∧ resp.status = .inUse)) ∧
    ((s.store.supervisor m).mayFireReset = false →
      ∃ t resp, exec (.fireReset m) s = .next t ∧ answered [.link] s t resp ∧ resp.status = .notPermitted) ∧
    ((s.store.supervisor m).mayRestart = false →
      ∃ t resp, exec (.restart m) s = .next t ∧ answered [.link] s t resp ∧ resp.status = .notPermitted) ∧
    ((s.store.supervisor m).mayRestart = true →
      ∃ t resp, exec (.restart m) s = .next t ∧ answered [.link] s t resp ∧ resp.code = 0x92#8 ∧ resp.status = .accepted ∧ resp.body = [])

/-- A write that completes while its entry is not in use takes effect with origin STORED, the store
returns to IDLE, and the CONFIGURE is answered ACCEPTED, with the kind and index it named and the
old part address as source, in the deferred slot, which no other response holds by then (R13, R16,
R166; notes/assumptions/15.md). The blocks take the new value within the command
(notes/assumptions/39.md): an opening's records are created, discarded or judged again
(`openingTaken`), the gestures of the stations concerned end, an equal value included
(notes/assumptions/47.md), the zone is disabled or enabled (`zoneTaken`), the weather unit is
brought into line and every opening recomputed (`weatherTaken`), and the arbiter takes the budgets;
a scenario or supervisor changes nothing else (R66, R84, R87, R91, R104, R111, R130, R149, R150,
R161). The model's are also the index echoed for the two blocks (notes/assumptions/36.md), the
operand of the row (notes/assumptions/27.md), the frozen aperture set by any recomputation
(notes/assumptions/42.md), bounded and quantised from the target too (notes/assumptions/38.md), the
order in flight (notes/assumptions/50.md) and told events (notes/assumptions/17.md) of a disabled
opening, the telling of weather by mail (notes/assumptions/37.md), and the WIND monitor's F while
OVER (notes/assumptions/49.md). -/
def Obligations.WriteCompleteTakesEffect : Prop :=
  ∀ (s : State) (w : EntryWrite) (left : Nat), s.store.writing = some w → s.entryInUse w.entry = false →
    ∃ t resp, exec (.writeComplete left) s = .next t ∧ t.store.writing = none ∧
      t.link.deferred = some resp ∧ resp.status = .accepted ∧
      resp.dest = w.sender ∧ resp.code = 0x8E#8 ∧ resp.body = [w.kind, w.index] ∧
      resp.source = s.store.movement.value.partAddress ∧
      match w.entry with
      | .opening n v => ∀ e, nth s.store.openings n = some e →
          (∃ e', nth t.store.openings n = some e' ∧ e'.value = v ∧ e'.origin = .stored) ∧
            (isOpening n = true → openingTaken s t n v)
      | .group g l =>
          (∀ e, nth s.store.groups g = some e →
            ∃ e', nth t.store.groups g = some e' ∧ e'.value = l ∧ e'.origin = .stored) ∧
          sameOutside [.store, .stations, .link] s t ∧
          ∀ n st, isStation n = true → s.stationOf n = some st →
            ∃ st', t.stationOf n = some st' ∧
              ((s.store.station n).group = g → gestureEnded st st') ∧
              ((s.store.station n).group ≠ g → st' = st)
      | .zone z b =>
          (∀ e, nth s.store.zones z = some e →
            ∃ e', nth t.store.zones z = some e' ∧ e'.value = b ∧ e'.origin = .stored) ∧
          zoneTaken s t z left b
      | .scenario z l =>
          (∀ e, nth s.store.scenarios z = some e →
            ∃ e', nth t.store.scenarios z = some e' ∧ e'.value = l ∧ e'.origin = .stored) ∧
          sameOutside [.store, .link] s t
      | .station n v =>
          (∀ e, nth s.store.stations n = some e →
            ∃ e', nth t.store.stations n = some e' ∧ e'.value = v ∧ e'.origin = .stored) ∧
          sameOutside [.store, .stations, .link] s t ∧
          (∀ k, k ≠ n → t.stationOf k = s.stationOf k) ∧
          ∀ st, s.stationOf n = some st →
            ∃ st', t.stationOf n = some st' ∧ gestureEnded st st'
      | .supervisor m v =>
          (∀ e, nth s.store.supervisors m = some e →
            ∃ e', nth t.store.supervisors m = some e' ∧ e'.value = v ∧ e'.origin = .stored) ∧
          sameOutside [.store, .link] s t
      | .weather v =>
          t.store.weather.value = v ∧ t.store.weather.origin = .stored ∧ weatherTaken s t v
      | .movement v =>
          t.store.movement.value = v ∧ t.store.movement.origin = .stored ∧ budgetsTakenUp s t v

/-- A write whose entry is in use at its completion is abandoned and answered IN_USE, and a write that
fails is answered STORE_FAULT and raises the STORE_FAULT event; either leaves every value in effect,
tells no block else, and returns the store to IDLE; the answer takes the deferred slot, which no other
response holds by then (R16, R17, R166; notes/assumptions/15.md). -/
def Obligations.WriteAbandonedOrFailed : Prop :=
  ∀ (s : State) (w : EntryWrite), s.store.writing = some w →
    (∀ left, s.entryInUse w.entry = true →
      ∃ t resp, exec (.writeComplete left) s = .next t ∧ sameOutside [.store, .link] s t ∧
        t.store.writing = none ∧ (∀ k i, t.store.entryInEffect k i = s.store.entryInEffect k i) ∧
        t.link = { s.link with deferred := some resp } ∧ resp.status = .inUse ∧ resp.body = []) ∧
    ∃ t resp, exec .writeFail s = .next t ∧ sameOutside [.store, .link, .mail] s t ∧
      t.store.writing = none ∧ (∀ k i, t.store.entryInEffect k i = s.store.entryInEffect k i) ∧
      t.mail = { s.mail with
        reports := s.mail.reports ++ [{ owner := .siteStore, lives := [], events := [.storeFault] }] } ∧
      t.link = { s.link with deferred := some resp } ∧ resp.status = .storeFault ∧ resp.body = []

/-- What a power-on reset and a RESTART that is due leave: an empty demand table, no order and no
transaction, no frame and no response, no condition set and none masked, every opening that is enabled
at its rest aperture, UNKNOWN and UNPOLLED, the buttons and the key accepted as pressed, F, the caps
and the count of gates at 0 with both take-overs pending, D absent and DRY, no told event but reports,
and the queue of commands as it was (R29, R50, R85, R87, R94, R107, R108, R114, R116, R122, R124, R125,
R129, R131, R161, R163, R180). The model's are the queue (notes/assumptions/1.md), the mark that a
RESTART is due (notes/assumptions/12.md) and the pin level kept (notes/assumptions/8.md). -/
def Obligations.ResetLeaves : Prop :=
  ∀ (spareWritten : Bool) (supply : Int) (s : State) (c : Instr) (cause : ResetCause),
    (c = .powerOnReset spareWritten supply ∧ cause = .powerOn) ∨
      (c = .restartTaken spareWritten supply ∧ cause = .restart ∧ s.link.restartDue = true) →
    ∃ t, exec c s = .next t ∧ t.pending = s.pending ∧ t.store.writing = none ∧
      t.demand.slots = List.replicate 96 { gen := 0, record := none } ∧ t.demand.ages = [] ∧
      t.demand.lists = List.replicate 48 [] ∧
      t.bus.queue = [] ∧ t.bus.inFlight = none ∧ t.bus.transaction = none ∧
      t.link.rx = .discarding ∧ t.link.buffer = [] ∧ t.link.misframed = false ∧
      t.link.held = none ∧ t.link.deferred = none ∧ t.link.sending = none ∧
      t.mail = { Mail.empty with reports := t.mail.reports } ∧
      t.conditions = { live := 0, sticky := 0, mask := 0, attention := false, cause := cause } ∧
      t.weather.filtered = 0 ∧ t.weather.takeOver = true ∧ t.weather.capTakeOver = true ∧
      t.weather.gates = 0 ∧ t.weather.heldDir = none ∧ t.weather.wet = false ∧
      (∀ p, t.weather.cap p = { computed := 0, held := 0, timer := none }) ∧
      t.fire.keyPressed = true ∧ t.fire.keyTimer = some 200 ∧ t.fire.keyMade = s.fire.keyMade ∧
      (∀ st ∈ t.stations, st.openButton.pressed = true ∧ st.closeButton.pressed = true ∧
        st.gesture = .spent ∧ st.handle = none) ∧
      (∀ z r, t.zone z = some r → r.accepted = none ∧ r.switchPos = .auto ∧
        r.switchTimer = some 200 ∧ r.lineFault = false ∧ r.alarmLamp = .off ∧
        r.statusLamp = .off ∧
        r.state = if t.store.zoneEnabled z then ZoneState.normal else ZoneState.disabled) ∧
      ∀ n, (t.store.enabled n = true →
          (∃ r, t.result n = some r ∧ r.target = (t.store.opening n).rest ∧ r.cls = none ∧
            r.handle = none ∧ r.cap = .none ∧ r.rounding = .exact ∧ r.frozen = none ∧
            r.windward = false) ∧
          t.moveState n = some .unknown ∧ t.nodeState n = some .unpolled ∧ t.lastReply n = none) ∧
        (t.store.enabled n = false →
          t.result n = none ∧ t.move n = none ∧ t.node n = none)

/-- At a power-on reset and at a RESTART that is due (notes/assumptions/12.md), each entry is loaded
from the newer valid of its two copies, with origin STORED, or else takes its factory default, with
origin DEFAULT. The pass over the relations then replaces by the default a group with a member that
is not an enabled opening, a scenario that names an empty group, covers an opening twice, or covers
one a fifth time with the kept scenarios of lower zones, and supervisor 1 where no entry grants may
configure. STORE_FAULT is raised exactly where an entry stands as a default. Of an opening entry
under write the new value is found where the spare copy had been completely written and checked, and
the old value otherwise (R14, R18 to R20). Whether it had is an operand of the row
(notes/assumptions/10.md). -/
def Obligations.LoadTakesNewerValidCopy : Prop :=
  ∀ (spareWritten : Bool) (supply : Int) (s : State) (c : Instr),
    c = .powerOnReset spareWritten supply ∨
      (c = .restartTaken spareWritten supply ∧ s.link.restartDue = true) →
    ∃ t, exec c s = .next t ∧
      (defaultStands t.store ↔
        ∃ r ∈ t.mail.reports, r.owner = .siteStore ∧ .storeFault ∈ r.events) ∧
      (s.store.writing = none →
        (∀ n e, nth s.store.openings n = some e →
          ∃ e', nth t.store.openings n = some e' ∧ loadedAs OpeningEntry.valid .factory e e') ∧
        (∀ z e, nth s.store.zones z = some e →
          ∃ e', nth t.store.zones z = some e' ∧ loadedAs (fun _ => true) false e e') ∧
        (∀ n e, nth s.store.stations n = some e →
          ∃ e', nth t.store.stations n = some e' ∧ loadedAs StationEntry.valid .factory e e') ∧
        loadedAs WeatherBlock.valid .factory s.store.weather t.store.weather ∧
        loadedAs MovementBlock.valid .factory s.store.movement t.store.movement ∧
        (∀ g e, nth s.store.groups g = some e →
          ∃ e', nth t.store.groups g = some e' ∧
            loadedIf (fun l => ∀ n ∈ l, t.store.enabled n = true) validMembers [] e e') ∧
        (∀ z e, isZone z = true → nth s.store.scenarios z = some e →
          ∃ e', nth t.store.scenarios z = some e' ∧
            loadedIf (scenarioKept t.store z) validSteps [] e e') ∧
        ∀ m e, nth s.store.supervisors m = some e →
          ∃ e', nth t.store.supervisors m = some e' ∧
            (m ≠ 1 → loadedAs (fun _ => true) .factoryOther e e') ∧
            (m = 1 → loadedIf
              (fun x => x.mayConfigure = true ∨
                ∃ k, k ≠ 1 ∧ isSupervisor k = true ∧ (t.store.supervisor k).mayConfigure = true)
              (fun _ => true) .factoryFirst e e')) ∧
      ∀ w n v e, s.store.writing = some w → w.entry = .opening n v →
        nth s.store.openings n = some e → e.inEffect = some .first →
        e.first.checkMatches = true → e.first.value.valid = true → e.second.checkMatches = false →
        e.second.value = v → v.valid = true → e.second.sequence = e.first.sequence + 1 →
        ∃ e', nth t.store.openings n = some e' ∧ e'.origin = .stored ∧
          e'.value = if spareWritten then v else e.first.value

/-! ### The requests that act on other blocks (R117, R118, R145, R172) -/

/-- CLEAR_FAULT returns an opening that is FAULTED or in RETRY_WAIT to AT_REST with no fault reason
and retry count 0, whatever its node state, and it is evaluated there: it stays with its node not
ONLINE or within the deadband, is stopped where its drive moves, and otherwise waits for a slot. The
answer tells the state and the reason that stand then, and the reason cleared. In any other state of
the opening it does nothing but let the arbiter grant at the end of the event, and an opening that
is not enabled is refused BAD_FIELD (R132, R134, R145, R148). That a request row leaves the receiver
as it stands, and that its response takes the place of one still waiting, is the model's
(notes/assumptions/6.md, notes/assumptions/12.md). -/
def Obligations.ClearFaultReturnsOpening : Prop :=
  ∀ (m : Nat) (x : Byte) (s : State), isSupervisor m = true →
    (s.store.enabled x.toNat = false →
      ∃ t resp, exec (.clearFault m x) s = .next t ∧ answered [.link] s t resp ∧
        resp.status = .badField) ∧
    ∀ r : MoveRecord, s.store.enabled x.toNat = true → s.move x.toNat = some r →
    ((r.state = .faulted ∨ r.state = .retryWait) →
      ∃ t r' resp, exec (.clearFault m x) s = .next t ∧
        restsAs s t x.toNat { r.bare .atRest with retries := 0 } ∧
        t.move x.toNat = some r' ∧ r'.faultReason = none ∧ r'.retries = 0 ∧ r'.retryTimer = none ∧
        r'.classTold = r.classTold ∧
        (s.nodeState x.toNat ≠ some .online → r'.state = .atRest) ∧
        t.link.held = some resp ∧ resp.status = .accepted ∧
        resp.body = [r'.state.code, 0xFF#8, reasonCode r.faultReason]) ∧
    (r.state ≠ .faulted → r.state ≠ .retryWait →
      ∃ t resp, exec (.clearFault m x) s = .next t ∧
        (s.grantOne = none → answered [.link] s t resp) ∧
        (t.move x.toNat = some r ∨
          (s.eligible x.toNat = true ∧ t.moveState x.toNat = some .breakaway)) ∧
        t.link.held = some resp ∧ resp.status = .accepted)

/-- A fire reset, by FIRE_RESET or by the key, takes every LATCHED zone by the four steps of R118.
The zone becomes NORMAL with its line-fault flag clear; no record or waiting placement of its
SCENARIO source is left; each of its openings that is FAULTED goes to AT_REST with no fault reason
and retry count 0 and is evaluated there (R146); and with its line at SHORT or OPEN the zone ends in
FAULT with a ZONE_LINE_FAULT event. Its lamps follow, and ZONE_ALARM is told as not live where no
zone is left in ALARM or LATCHED. Every other zone keeps its state, and every other opening its
record but for the grants at the end of an event. FIRE_RESET answers the set of the LATCHED zones
(R43, R109, R112, R116 to R118, R120, R123, R134, R148). That the placements which still wait are
taken and retired with the zone's records is the model's: the manual does not say what a fire reset
does while a step waits (notes/assumptions/27.md). -/
def Obligations.FireResetReturnsLatchedZones : Prop :=
  ∀ (s : State) (c : Instr),
    (∃ m, c = .fireReset m ∧ isSupervisor m = true ∧
      (s.store.supervisor m).mayFireReset = true) ∨
      (c = .resetKeyAcceptance ∧ s.fire.keyTimer.isSome = true ∧ s.fire.keyMade = true ∧
        s.fire.keyPressed = false) →
    ∃ t, exec c s = .next t ∧
      (∀ z r a, isZone z = true → s.zone z = some r → r.state = .latched →
        r.accepted = some a → a ≠ .alarm →
        (∃ r', t.zone z = some r' ∧ r'.lineFault = false ∧ lampsFollow t z r' ∧
          (a = .normal → r'.state = .normal) ∧
          (a = .short ∨ a = .openCircuit →
            r'.state = .fault ∧ fireRaised s t .zoneLineFault)) ∧
        (∀ k r', t.demand.inSlot k = some r' → r'.source ≠ .scenario z) ∧
        t.mail.stepsOf z = [] ∧
        ((∀ y r', t.zone y = some r' → r'.state ≠ .alarm ∧ r'.state ≠ .latched) →
          fallReported t .fireUnit .zoneAlarm)) ∧
      (∀ z r n m, isZone z = true → s.zone z = some r → r.state = .latched →
        s.store.enabled n = true → (s.store.opening n).zone = z → s.move n = some m →
        m.state = .faulted → restsAs s t n { m.bare .atRest with retries := 0 }) ∧
      (∀ n m, s.move n = some m →
        (m.state ≠ .faulted ∨ s.store.enabled n = false ∨
          ∀ r, s.zone (s.store.opening n).zone = some r → r.state ≠ .latched) →
        t.move n = some m ∨
          (s.eligible n = true ∧ t.moveState n = some .breakaway)) ∧
      (∀ z r, s.zone z = some r → r.state ≠ .latched →
        ∃ r', t.zone z = some r' ∧ r'.state = r.state) ∧
      (∀ m, c = .fireReset m → ∃ resp, t.link.held = some resp ∧ resp.status = .accepted ∧
        resp.body = [zoneSetByte (zoneNumbers.filter fun z =>
          match s.zone z with
          | some r => r.state == .latched
          | none => false)])

/-! ### The demand manager's timers (R40, R44 to R48) -/

/-- At the demand manager's one-second event a record with the last second left of its lifetime, or
of its wait while OUTRANKED, is retired; a longer lifetime counts down by one, and so does the
longer wait of an OUTRANKED record, which has its limit back where it heads a list by then, as a
head keeps it. RECORD_EXPIRED and RECORD_STARVED retire the record whose last second, of lifetime or
of OUTRANKED waiting, is left, and do nothing with more time left, which is how the model takes
these rows (notes/assumptions/3.md). A retired record's slot is freed and DEMAND_DROPPED is raised
for a supervisor's (R26, R40, R44 to R46, R48). -/
def Obligations.TimersRetireRecords : Prop :=
  (∀ s : State, ∃ t, exec .demandTick s = .next t ∧
    ∀ (k : Nat) (r : DemandRecord), s.demand.inSlot k = some r →
      (r.lifetime = some 1 ∨ (s.demand.lists.length = 48 ∧ r.waitRemaining = some 1 ∧
          s.demand.headedBy (s.demand.handleOf k) = []) →
        t.demand.inSlot k = none ∧
        (t.demand.handleOf k).gen = (s.demand.handleOf k).gen + 1 ∧
        ∀ m c, r.source = .supervisor m → demandDropped m = some c →
          ∃ x ∈ t.mail.reports, x.owner = .demandManager ∧ c ∈ x.events) ∧
      (∀ l, r.lifetime = some (l + 2) → r.waitLimit = none → r.waitRemaining = none →
        t.demand.inSlot k = some { r with lifetime := some (l + 1) }) ∧
      ((r.lifetime = none ∨ ∃ l, r.lifetime = some (l + 2)) → s.demand.lists.length = 48 →
        (∀ w, r.waitRemaining = some (w + 2) →
          s.demand.headedBy (s.demand.handleOf k) = [] →
          t.demand.inSlot k = some { r with
            lifetime := r.lifetime.map fun l => l - 1
            waitRemaining := if t.demand.headedBy (s.demand.handleOf k) = [] then some (w + 1)
              else r.waitLimit }) ∧
        (s.demand.headedBy (s.demand.handleOf k) ≠ [] → r.waitRemaining ≠ some 0 →
          t.demand.inSlot k = some { r with
            lifetime := r.lifetime.map fun l => l - 1
            waitRemaining := r.waitLimit }))) ∧
  ∀ (k : Nat) (s : State) (r : DemandRecord), isSlot k = true → s.demand.inSlot k = some r →
    (∀ c, (c = .recordExpired k ∧ r.lifetime = some 1) ∨
        (c = .recordStarved k ∧ r.waitRemaining = some 1 ∧
          s.demand.headedBy (s.demand.handleOf k) = []) →
      ∃ t, exec c s = .next t ∧ t.demand.inSlot k = none ∧
        (t.demand.handleOf k).gen = (s.demand.handleOf k).gen + 1 ∧
        s.demand.handleOf k ∉ t.demand.ages ∧
        ∀ m d, r.source = .supervisor m → demandDropped m = some d →
          ∃ x ∈ t.mail.reports, x.owner = .demandManager ∧ d ∈ x.events) ∧
    (r.lifetime ≠ some 1 → exec (.recordExpired k) s = .next s) ∧
    (s.demand.headedBy (s.demand.handleOf k) ≠ [] ∨ r.waitRemaining ≠ some 1 →
      exec (.recordStarved k) s = .next s)

/-! ### The resolver (R57, R88 to R102) -/

/-- The direction of quantisation and the quantised aperture of R102: for a step of at least 1 and a
bounded aperture `x` of at most a stroke limit that is a multiple of the step, the result is a multiple
of the step nearest to `x`, halves upward, and at most the limit; the rounding says where it lies. -/
def Obligations.QuantiseTakesNearestMultiple : Prop :=
  ∀ (e : OpeningEntry) (x : Nat), 1 ≤ e.step → e.limit % e.step = 0 → x ≤ e.limit →
    quantise e x = e.step * ((x + e.step / 2) / e.step) ∧ quantise e x ≤ e.limit ∧
      quantise e x ≤ x + e.step / 2 ∧ x ≤ quantise e x + e.step / 2 ∧
      (roundingOf x (quantise e x) = .exact ↔ quantise e x = x) ∧
      (roundingOf x (quantise e x) = .up ↔ x < quantise e x) ∧
      (roundingOf x (quantise e x) = .down ↔ quantise e x < x)

/-- The resolver takes the oldest told change of list heads (notes/assumptions/4.md) and recomputes
every opening it names and no other: the result has the class and handle of the head, its windward
status and profile, and the head's aperture bounded and quantised with cap reason and rounding, or
under LOCKOUT the frozen aperture, set by the first recomputation after LOCKOUT came to the head
(notes/assumptions/42.md), bounded and quantised from the target too where the node is LOST or
UNPOLLED (notes/assumptions/38.md), and kept in line with the entry afterwards; the movement
controller is told of a new target (R57 to R61, R88 to R90, R98 to R103). -/
def Obligations.RecomputeServesHead : Prop :=
  ∀ (s : State) (ns : List Nat) (rest : List (List Nat)), s.mail.heads = ns :: rest → ns.Nodup →
    ∃ t, exec (.resolverRecompute .demandManager) s = .next t ∧
      sameOutside [.results, .mail] s t ∧ t.mail.heads = rest ∧
      ∀ n, s.store.enabled n = true → n ≤ s.results.length →
        (n ∉ ns → t.result n = s.result n) ∧
        (n ∈ ns → ∃ r, t.result n = some r ∧ servedAs s n r ∧ n ∉ t.mail.freezes ∧
          ∀ old, s.result n = some old → old.target ≠ r.target →
            { opening := n, target := r.target, cls := r.cls, changed := true } ∈ t.mail.targets)

/-- The resolver takes the oldest told change of the weather (notes/assumptions/4.md): a change of
the rain state, of FROST or of STORM, or the first gate end, by recomputing every enabled opening,
and a change of a held cap by recomputing the openings of that profile and no other, each to the
result that the recomputation of its head gives, which under LOCKOUT sets a frozen aperture not set
yet (notes/assumptions/42.md), bounded and quantised from the target too (notes/assumptions/38.md)
(R57 to R61, R88, R90, R98 to R103). -/
def Obligations.RecomputeAfterWeather : Prop :=
  ∀ (s : State) (rest : List WeatherTold) (w : WeatherTold), s.mail.weather = w :: rest →
    ∃ t, exec (.resolverRecompute .weatherUnit) s = .next t ∧ sameOutside [.results, .mail] s t ∧
      t.mail.weather = rest ∧
      ∀ n, s.store.enabled n = true → n ≤ s.results.length →
        let named := ∀ p, w = .heldCap p → ∃ o, s.result n = some o ∧ o.profile = p
        (named → ∃ r, t.result n = some r ∧ servedAs s n r) ∧
        (¬named → t.result n = s.result n)

/-! ### The weather unit (R65 to R85, R92 to R96) -/

/-- A pulse of a present anemometer counts, up to 65535; an absent one's is not counted; an input that
goes OUT_OF_BAND makes the gate faulty (R67). -/
def Obligations.AnemometerPins : Prop :=
  ∀ s : State,
    (∃ t, exec (.anemometerPulse .a) s = .next t ∧ sameOutside [.weather] s t ∧
      t.weather = { s.weather with
        anemA := { s.weather.anemA with
          count := if s.store.weather.value.anemA.present then min (s.weather.anemA.count + 1) 65535
            else s.weather.anemA.count } }) ∧
    (∃ t, exec (.anemometerPulse .b) s = .next t ∧ sameOutside [.weather] s t ∧
      t.weather = { s.weather with
        anemB := { s.weather.anemB with
          count := if s.store.weather.value.anemB.present then min (s.weather.anemB.count + 1) 65535
            else s.weather.anemB.count } }) ∧
    ∀ inBand,
      (∃ t, exec (.anemometerSupervision .a inBand) s = .next t ∧ sameOutside [.weather] s t ∧
        t.weather = { s.weather with
          anemA := { s.weather.anemA with
            inBand := inBand, faultyGate := s.weather.anemA.faultyGate || !inBand } }) ∧
      ∃ t, exec (.anemometerSupervision .b inBand) s = .next t ∧ sameOutside [.weather] s t ∧
        t.weather = { s.weather with
          anemB := { s.weather.anemB with
            inBand := inBand, faultyGate := s.weather.anemB.faultyGate || !inBand } }

/-- The corrected speed of R68: the raw speed floor(c × k / 64), with floor(raw / 2^t) added or taken
for a trim t above 0. -/
def Obligations.CorrectedSpeed : Prop :=
  ∀ (sc : AnemometerScale) (c : Nat),
    let raw := c * sc.factor / 64
    (sc.trim = 0 → correctedSpeed sc c = raw) ∧
    (0 < sc.trim → sc.trimMinus = false → correctedSpeed sc c = raw + raw / 2 ^ sc.trim) ∧
    (0 < sc.trim → sc.trimMinus = true →
      (correctedSpeed sc c : Int) = (raw : Int) - ((raw / 2 ^ sc.trim : Nat) : Int))

/-- The filtered speed of R71: with shift 0 it takes the sample; otherwise it moves by the difference
divided by 2^n and truncated toward zero, by one where that is 0, so that it never passes the sample
and stays within 0 to 600. -/
def Obligations.FilterMovesTowardSample : Prop :=
  ∀ (n f x : Nat),
    filterToward 0 f x = x ∧ filterToward n f f = f ∧
    (1 ≤ n → f < x → filterToward n f x = f + max 1 ((x - f) / 2 ^ n)) ∧
    (1 ≤ n → x < f → filterToward n f x = f - max 1 ((f - x) / 2 ^ n)) ∧
    (f ≤ 600 → x ≤ 600 → filterToward n f x ≤ 600)

/-- At the gate end each anemometer takes its class and value, FAULT where its gate was faulty and
ABSENT where it is not present, and its counter is cleared. The usable ones give S, the average, the
larger or the one value, and the class of the wind speed, FAULT before ABSENT where neither is
usable. F takes S over, or is filtered toward it, and stays where there is no S; and the WIND
monitor is evaluated on it, held while the speed is unordered (R67 to R72, R79); that it compares F
while the class is OVER too is the model's (notes/assumptions/49.md). -/
def Obligations.GateEndTakesSpeed : Prop :=
  ∀ s : State, ∃ t, exec .gateEnd s = .next t ∧
    let block := s.store.weather.value
    let w := t.weather
    let usable := fun (a : Anemometer) => a.cls = .valid ∨ a.cls = .over
    gateTaken block.anemA s.weather.anemA w.anemA ∧ gateTaken block.anemB s.weather.anemB w.anemB ∧
    (∀ a b, usable w.anemA → usable w.anemB → w.anemA.value = some a → w.anemB.value = some b →
      w.sample = some (match block.combine with
        | .average => (a + b) / 2
        | .maximum => max a b) ∧
      w.speedClass =
        if w.sample = some 600 ∧ (w.anemA.cls = .over ∨ w.anemB.cls = .over) then .over
        else .valid) ∧
    (usable w.anemA → ¬usable w.anemB →
      w.sample = w.anemA.value ∧ w.speedClass = w.anemA.cls) ∧
    (¬usable w.anemA → usable w.anemB →
      w.sample = w.anemB.value ∧ w.speedClass = w.anemB.cls) ∧
    (¬usable w.anemA → ¬usable w.anemB →
      w.sample = none ∧
      w.speedClass =
        if w.anemA.cls = .fault ∨ w.anemB.cls = .fault then .fault else .absent) ∧
    (∀ x, w.sample = some x →
      w.filtered =
        (if s.weather.takeOver then x
          else filterToward block.filterShift s.weather.filtered x) ∧
      w.takeOver = false) ∧
    (w.sample = none →
      w.filtered = s.weather.filtered ∧ w.takeOver = s.weather.takeOver) ∧
    w.windState = monitorNext block.windMonitor s.weather.windState
      (if w.speedClass = .valid ∨ w.speedClass = .over then some (w.filtered : Int) else none)

/-- At the gate end each profile's C is taken from F and the speed class by the table of R92, and H
and the reopen timer move as R93 gives: down at once, up when the timer reaches the reopen delay.
While the take-over is pending, an unordered speed leaves H and the timer as they are and an ordered
one gives H the value C at once and ends the take-over (R94). A completed write of the weather block
takes C afresh and moves H and the timer once more without counting, H kept while the take-over is
pending (R95). The resolver is told of each H that changed. For class OVER with F below v_close the
table is followed, against note 2 of R92, which is the model's choice (notes/assumptions/46.md), as
is that the write acts within its command (notes/assumptions/39.md). -/
def Obligations.HeldCapsFollow : Prop :=
  let table := fun (sp : ProfileSpeeds) (w : Weather) =>
    if w.speedClass.ordered = false then 0
    else if w.filtered ≤ sp.free then 1000
    else if sp.close ≤ w.filtered then 0
    else 1000 * (sp.close - w.filtered) / (sp.close - sp.free)
  (∀ (s : State) (p : Profile),
    ∃ t, exec .gateEnd s = .next t ∧
      let old := s.weather.cap p
      let new := t.weather.cap p
      let c := new.computed
      let h := old.held
      c = table (s.store.weather.value.speeds p) t.weather ∧
      (new.held ≠ h → .heldCap p ∈ t.mail.weather) ∧
      (s.weather.capTakeOver = true →
        (t.weather.speedClass.ordered = false →
          new.held = h ∧ new.timer = old.timer ∧ t.weather.capTakeOver = true) ∧
        (t.weather.speedClass.ordered = true →
          new.held = c ∧ new.timer = none ∧ t.weather.capTakeOver = false)) ∧
      (s.weather.capTakeOver = false →
        t.weather.capTakeOver = false ∧
        (c < h → new.held = c ∧ new.timer = none) ∧
        (c = h → new.held = h ∧ new.timer = none) ∧
        (h < c → old.timer = none → new.held = h ∧ new.timer = some 0) ∧
        ∀ k, h < c → old.timer = some k →
          if s.store.weather.value.reopenDelay ≤ k + 1 then new.held = c ∧ new.timer = none
          else new.held = h ∧ new.timer = some (k + 1))) ∧
  ∀ (s : State) (w : EntryWrite) (v : WeatherBlock) (left : Nat) (p : Profile),
    s.store.writing = some w → w.entry = .weather v → v ≠ s.store.weather.value →
    ∃ t, exec (.writeComplete left) s = .next t ∧
      let old := s.weather.cap p
      let new := t.weather.cap p
      let c := new.computed
      let h := old.held
      c = table (v.speeds p) t.weather ∧
      (new.held ≠ h → .heldCap p ∈ t.mail.weather) ∧
      (t.weather.capTakeOver = true → new.held = h ∧ new.timer = old.timer) ∧
      (t.weather.capTakeOver = false →
        (c < h → new.held = c ∧ new.timer = none) ∧
        (c = h → new.held = h ∧ new.timer = none) ∧
        (h < c → new.held = h ∧ new.timer = some (old.timer.getD 0)))

/-- A reopen timer that reaches the reopen delay (notes/assumptions/3.md) raises that profile's H to
its C and no other's. SENSOR_INVALID, that a configured anemometer, the wind speed, the vane or the
probe stands STALE, FAULT or ABSENT, is judged at the tenth gate end after reset for the first time:
there it is reported where it holds, by GATE_END or by the row SENSOR_REPORT_START, which is itself
that gate end (notes/assumptions/3.md) and does nothing at any other; before it nothing is reported;
and after it each event that changes a class, and each write of the weather block, reports it
exactly where it changes (R65, R82, R84, R93). -/
def Obligations.ReopenAndSensorReport : Prop :=
  (∀ (s : State) (p : Profile) (k : Nat), s.weather.capTakeOver = false →
    (s.weather.cap p).timer = some k → s.store.weather.value.reopenDelay ≤ k + 1 →
    (s.weather.cap p).held < (s.weather.cap p).computed →
    ∃ t, exec (.reopenTimerExpiry p) s = .next t ∧
      (t.weather.cap p).computed = (s.weather.cap p).computed ∧
      (t.weather.cap p).held = (s.weather.cap p).computed ∧ (t.weather.cap p).timer = none ∧
      (∀ q, q ≠ p → t.weather.cap q = s.weather.cap q) ∧
      t.weather.filtered = s.weather.filtered ∧ .heldCap p ∈ t.mail.weather) ∧
  (∀ s : State, s.weather.gates = 9 →
    ∃ t, exec .sensorReportStart s = .next t ∧ sameOutside [.weather, .mail] s t ∧
      t.weather = { s.weather with gates := 10 } ∧
      (channelUnordered s → weatherReported t .sensorInvalid true) ∧
      (¬channelUnordered s → t.mail = s.mail)) ∧
  (∀ s : State, s.weather.gates ≠ 9 → exec .sensorReportStart s = .next s) ∧
  ∀ (c : Instr) (s : State),
    (c = .sensorReportStart ∨ c = .gateEnd ∨ (∃ x, c = .vaneReading x) ∨ c = .vaneStale ∨
      (∃ x, c = .probeReading x) ∨ c = .probeStale ∨ ∃ left, c = .writeComplete left) →
    ∃ t, exec c s = .next t ∧
      let before := 10 ≤ s.weather.gates ∧ channelUnordered s
      let after := 10 ≤ t.weather.gates ∧ channelUnordered t
      (¬before → after → weatherReported t .sensorInvalid true) ∧
      (before → ¬after → weatherReported t .sensorInvalid false) ∧
      ((before ↔ after) →
        ∀ r ∈ t.mail.reports, (∃ live, (.sensorInvalid, live) ∈ r.lives) → r ∈ s.mail.reports)

/-- A present vane's reading: in 0 to 359 it is VALID and D takes it at once while absent, and
otherwise D stays and the dwell runs exactly while the reading is at least the deadband away; any
other reading is FAULT, the value kept. Each restarts the stale timer, whose end makes the channel
STALE, D kept. The dwell, reached, gives D the latest reading, and the row DWELL_REACHED is itself
the last count of the dwell, which is the model's (R73 to R75; notes/assumptions/3.md). -/
def Obligations.VaneReadings : Prop :=
  ∀ s : State, s.store.weather.value.vanePresent = true →
    (∀ d, d < 360 → ∃ t, exec (.vaneReading (some d)) s = .next t ∧
      t.weather.vaneClass = .valid ∧ t.weather.vaneValue = some d ∧
      t.weather.vaneTimer = some 5000 ∧
      match s.weather.heldDir with
      | none => t.weather.heldDir = some d
      | some old => t.weather.heldDir = some old ∧
          t.weather.dwell =
            if s.store.weather.value.dirDeadband ≤ angularDistance d old then
              some (s.weather.dwell.getD 0)
            else none) ∧
    (∀ x, (x = none ∨ ∃ d, x = some d ∧ 360 ≤ d) →
      ∃ t, exec (.vaneReading x) s = .next t ∧ t.weather.vaneClass = .fault ∧
        t.weather.vaneValue = s.weather.vaneValue ∧ t.weather.vaneTimer = some 5000 ∧
        t.weather.heldDir = s.weather.heldDir) ∧
    (s.weather.vaneTimer.isSome = true →
      ∃ t, exec .vaneStale s = .next t ∧ t.weather.vaneClass = .stale ∧
        t.weather.vaneTimer = none ∧ t.weather.heldDir = s.weather.heldDir) ∧
    ∀ k d old, s.weather.dwell = some k → s.weather.vaneClass = .valid →
      s.weather.vaneValue = some d → s.weather.heldDir = some old →
      s.store.weather.value.dirDeadband ≤ angularDistance d old →
      s.store.weather.value.dirDwell ≤ k + 1 →
      ∃ t, exec .dwellReached s = .next t ∧ t.weather.heldDir = some d ∧ t.weather.dwell = none

/-- With the rain contact present: DRY counts consecutive asserted samples and becomes WET at the
twentieth, a clear one counts from 0 again; WET counts consecutive clear samples and becomes DRY
when the dry hold has run, an asserted one counts from 0 again, which is the model's where a write
has shortened the hold to the count kept (notes/assumptions/40.md); the resolver is told of each
change (R66, R76). WET_HOLD_END and DRY_HOLD_END are the samples that end a hold
(notes/assumptions/3.md). A contact that is not present is not sampled. -/
def Obligations.RainHolds : Prop :=
  (∀ (s : State) (a : Bool), s.store.weather.value.rainPresent = false →
    exec (.rainSample a) s = .next s) ∧
  ∀ s : State, s.store.weather.value.rainPresent = true →
    (∀ k, s.weather.wet = false → s.weather.wetHold = some k → k < 19 →
      ∃ t, exec (.rainSample true) s = .next t ∧ t.weather.wet = false ∧
        t.weather.wetHold = some (k + 1) ∧ t.weather.rainSampled = some true) ∧
    (s.weather.wet = false →
      ∃ t, exec (.rainSample false) s = .next t ∧ t.weather.wet = false ∧
        t.weather.wetHold = some 0) ∧
    (∀ c, (c = .rainSample true ∨ c = .wetHoldEnd) → s.weather.wet = false →
      s.weather.wetHold = some 19 →
      ∃ t, exec c s = .next t ∧ t.weather.wet = true ∧ .rain ∈ t.mail.weather ∧
        ∃ r ∈ t.mail.reports, (.rain, true) ∈ r.lives) ∧
    (s.weather.wet = true →
      ∃ t, exec (.rainSample true) s = .next t ∧ t.weather.wet = true ∧
        t.weather.dryHold = some 0 ∧ t.weather.rainSampled = some true) ∧
    (∀ k, s.weather.wet = true → s.weather.dryHold = some k →
      k + 1 < 10 * s.store.weather.value.dryHold →
      ∃ t, exec (.rainSample false) s = .next t ∧ t.weather.wet = true ∧
        t.weather.dryHold = some (k + 1) ∧ t.weather.rainSampled = some false) ∧
    ∀ c k, (c = .rainSample false ∨ c = .dryHoldEnd) → s.weather.wet = true →
      s.weather.dryHold = some k → k + 1 = 10 * s.store.weather.value.dryHold →
      ∃ t, exec c s = .next t ∧ t.weather.wet = false ∧ t.weather.wetHold = some 0 ∧
        .rain ∈ t.mail.weather ∧ ∃ r ∈ t.mail.reports, (.rain, false) ∈ r.lives

/-- A present probe's reading gives its class and a value clamped into −80 to 160, restarts the
stale timer and evaluates the TEMP monitor, an unreadable one is FAULT and holds both; the end of
that timer makes the channel STALE and holds the monitor; a supply sample gives its class and a
value clamped into 0 to 400, evaluates the SUPPLY monitor, and tells no one while LOW_SUPPLY stays
as it was. STORM is WIND HIGH, FROST is TEMP LOW and LOW_SUPPLY is SUPPLY LOW, and the event that
enters or leaves one tells the condition unit, and of STORM and FROST the resolver (R66, R77 to R79,
R81). -/
def Obligations.ProbeAndSupply : Prop :=
  ∀ s : State,
    (s.store.weather.value.probePresent = true →
      (∀ x : Int, ∃ t, exec (.probeReading (some x)) s = .next t ∧
        t.weather.tempClass = (if x < -80 then .under else if 160 < x then .over else .valid) ∧
        t.weather.tempValue = some (max (-80) (min 160 x)) ∧
        t.weather.tempTimer = some 10000 ∧
        t.weather.tempState = monitorNext s.store.weather.value.tempMonitor s.weather.tempState
          (some (max (-80) (min 160 x)))) ∧
      ∃ t, exec (.probeReading none) s = .next t ∧ t.weather.tempClass = .fault ∧
        t.weather.tempValue = s.weather.tempValue ∧ t.weather.tempState = s.weather.tempState) ∧
    (s.weather.tempTimer.isSome = true →
      ∃ t, exec .probeStale s = .next t ∧ t.weather.tempClass = .stale ∧
        t.weather.tempTimer = none ∧ t.weather.tempValue = s.weather.tempValue ∧
        t.weather.tempState = s.weather.tempState) ∧
    (∀ v : Int, ∃ t, exec (.supplySample v) s = .next t ∧
      t.weather.supplyClass = (if v < 0 then .under else if 400 < v then .over else .valid) ∧
      t.weather.supplyValue = max 0 (min 400 v) ∧
      t.weather.supplyState = monitorNext s.store.weather.value.supplyMonitor
        s.weather.supplyState (some (max 0 (min 400 v))) ∧
      (t.weather.lowSupply = s.weather.lowSupply → sameOutside [.weather] s t)) ∧
    ∀ c, (c = .gateEnd ∨ (∃ x, c = .probeReading x) ∨ c = .probeStale ∨ ∃ v, c = .supplySample v) →
      ∃ t, exec c s = .next t ∧
        (t.weather.storm = true ↔ t.weather.windState = .high) ∧
        (t.weather.frost = true ↔ t.weather.tempState = .low) ∧
        (t.weather.lowSupply = true ↔ t.weather.supplyState = .low) ∧
        (t.weather.storm ≠ s.weather.storm →
          .storm ∈ t.mail.weather ∧ weatherReported t .storm t.weather.storm) ∧
        (t.weather.frost ≠ s.weather.frost →
          .frost ∈ t.mail.weather ∧ weatherReported t .frost t.weather.frost) ∧
        (t.weather.lowSupply ≠ s.weather.lowSupply →
          weatherReported t .lowSupply t.weather.lowSupply)

/-- The table of R80: a monitor in HYST mode, with a hysteresis of at most the distance of its
limits, moves by the first row of its state that applies to the value. A monitor in BAND mode moves
by the table of R79, and one of either mode holds its state while its channel is unordered (R79). -/
def Obligations.HystMonitorTable : Prop :=
  (∀ (m : MonitorLimits) (v : Int), m.mode = .hyst → m.low < m.high →
    0 ≤ m.hysteresis → m.hysteresis ≤ m.high - m.low →
    (m.high ≤ v → monitorNext m .normal (some v) = .high) ∧
    (v ≤ m.low → monitorNext m .normal (some v) = .low) ∧
    (m.low < v → v < m.high → monitorNext m .normal (some v) = .normal) ∧
    (v ≤ m.low → monitorNext m .high (some v) = .low) ∧
    (m.low < v → v < m.high - m.hysteresis → monitorNext m .high (some v) = .normal) ∧
    (m.low < v → m.high - m.hysteresis ≤ v → monitorNext m .high (some v) = .high) ∧
    (m.high ≤ v → monitorNext m .low (some v) = .high) ∧
    (m.low + m.hysteresis < v → v < m.high → monitorNext m .low (some v) = .normal) ∧
    (v < m.high → v ≤ m.low + m.hysteresis → monitorNext m .low (some v) = .low)) ∧
  (∀ (m : MonitorLimits) (v : Int), m.mode = .band →
    (m.high ≤ v → monitorNext m .normal (some v) = .high) ∧
    (v < m.high → monitorNext m .normal (some v) = .normal) ∧
    (v < m.low → monitorNext m .high (some v) = .normal) ∧
    (m.low ≤ v → monitorNext m .high (some v) = .high)) ∧
  ∀ (m : MonitorLimits) (st : MonitorState), monitorNext m st none = st

/-! ### The fire unit (R105 to R123) -/

/-- The table of R106: the class of a sample by its count, the boundaries of the accepted class moved 16
counts outward. -/
def Obligations.LineClassBoundaries : Prop :=
  ∀ (accepted : Option LineClass) (x : Nat),
    let b := match accepted with
      | none => (60, 400, 800)
      | some .short => (76, 400, 800)
      | some .alarm => (44, 416, 800)
      | some .normal => (60, 384, 816)
      | some .openCircuit => (60, 400, 784)
    (sampleClass accepted x = .short ↔ x < b.1) ∧
    (sampleClass accepted x = .alarm ↔ b.1 ≤ x ∧ x < b.2.1) ∧
    (sampleClass accepted x = .normal ↔ b.2.1 ≤ x ∧ x < b.2.2) ∧
    (sampleClass accepted x = .openCircuit ↔ b.2.2 ≤ x)

/-- A sample of a zone line is kept as the latest count and passed to the debounce: the accepted class
clears the candidate, the candidate counts up, any other class becomes the candidate, and the third of
three agreeing samples is accepted (R105, R107). -/
def Obligations.LineSampleDebounced : Prop :=
  ∀ (z : Nat) (count : BitVec 10) (s : State) (r : Zone), isZone z = true → s.zone z = some r →
    ∃ t r', exec (.zoneLineSample z count) s = .next t ∧ t.zone z = some r' ∧
      r'.count = count ∧
      let c := sampleClass r.accepted count.toNat
      if r.accepted = some c then
        r'.accepted = r.accepted ∧ r'.candidate = none ∧ r'.agreement = 0 ∧ r'.state = r.state
      else if r.candidate = some c then
        if r.agreement < 2 then
          r'.accepted = r.accepted ∧ r'.candidate = some c ∧ r'.agreement = r.agreement + 1 ∧
            r'.state = r.state
        else r'.accepted = some c ∧ r'.candidate = none ∧ r'.agreement = 0
      else
        r'.accepted = r.accepted ∧ r'.candidate = some c ∧ r'.agreement = 1 ∧ r'.state = r.state

/-- An acceptance on a zone's line moves the zone and its line-fault flag by the table of R109 and
has both lamps evaluated by the table of R123, and a NORMAL or FAULT zone that accepts ALARM places
the SMOKE records of its scenario's steps, where slots are free for them and every handle of the
demand table's age order and lists names a living record, as it does in every run (`handlesLive`).
The fire unit raises ZONE_ALARM exactly where a NORMAL or FAULT zone enters ALARM, and
ZONE_LINE_FAULT exactly where a NORMAL zone enters FAULT or the flag of an ALARM or LATCHED zone is
set from clear (R109, R110, R120). Placements of its last `left` steps wait and are taken on by a
later LINE_ACCEPTANCE, other commands between (R107, R109, R112, R123). That the row is itself the
third agreeing sample (notes/assumptions/3.md) and what its operand stands for
(notes/assumptions/27.md) are the model's. -/
def Obligations.LineAcceptanceMovesZone : Prop :=
  (∀ (z left : Nat) (s : State) (r : Zone), isZone z = true → s.zone z = some r →
    r.candidate = none →
    ∃ t, exec (.lineAcceptance z left) s = .next t ∧ t.zone z = some r ∧
      stepsTaken s t z left (s.mail.stepsOf z)) ∧
  ∀ (z left : Nat) (s : State) (r : Zone) (c : LineClass), isZone z = true → s.zone z = some r →
    r.candidate = some c → r.agreement = 2 →
    ∃ t r', exec (.lineAcceptance z left) s = .next t ∧ t.zone z = some r' ∧
      r'.accepted = some c ∧ r'.candidate = none ∧ r'.agreement = 0 ∧
      r'.switchPos = r.switchPos ∧ lampsFollow t z r' ∧
      (match r.state, c with
        | .normal, .alarm => r'.state = .alarm ∧ r'.lineFault = false
        | .normal, .normal => r'.state = .normal
        | .normal, _ => r'.state = .fault
        | .fault, .alarm => r'.state = .alarm ∧ r'.lineFault = false
        | .fault, .normal => r'.state = .normal
        | .fault, _ => r'.state = .fault
        | .alarm, .alarm => r'.state = .alarm ∧ r'.lineFault = false
        | .alarm, .normal => r'.state = .latched ∧ r'.lineFault = false
        | .alarm, _ => r'.state = .alarm ∧ r'.lineFault = true
        | .latched, .alarm => r'.state = .alarm ∧ r'.lineFault = false
        | .latched, .normal => r'.state = .latched ∧ r'.lineFault = false
        | .latched, _ => r'.state = .latched ∧ r'.lineFault = true
        | .disabled, _ => r'.state = .disabled) ∧
      (c = .alarm → (r.state = .normal ∨ r.state = .fault) → s.mail.stepsOf z = [] →
        stepsTaken s t z left (s.store.scenario z)) ∧
      (fireRaised s t .zoneAlarm ↔ c = .alarm ∧ (r.state = .normal ∨ r.state = .fault)) ∧
      (fireRaised s t .zoneLineFault ↔ (c = .short ∨ c = .openCircuit) ∧
        (r.state = .normal ∨
          ((r.state = .alarm ∨ r.state = .latched) ∧ r.lineFault = false)))

/-- The panel's timebase steps through its eight phases, the model's steps of 125 milliseconds
(notes/assumptions/13.md); a change of a fireman switch's or the reset key's contacts restarts its
debounce timer at 200 milliseconds and no change leaves it; the accepted position stays (R114, R116,
R122). -/
def Obligations.PanelInputs : Prop :=
  (∀ s : State, s.fire.phase < 8 →
    ∃ t, exec .flashTimebase s = .next t ∧ sameOutside [.fire] s t ∧
      t.fire.zones = s.fire.zones ∧ t.fire.phase < 8 ∧
      (t.fire.phase = s.fire.phase + 1 ∨ (s.fire.phase = 7 ∧ t.fire.phase = 0))) ∧
  (∀ (z : Nat) (a b : Bool) (s : State) (r : Zone), isZone z = true → s.zone z = some r →
    ∃ t, exec (.firemanSwitchChange z a b) s = .next t ∧ sameOutside [.fire] s t ∧
      t.zone z = some (if r.openMade = a ∧ r.closeMade = b then r
        else { r with openMade := a, closeMade := b, switchTimer := some 200 })) ∧
  ∀ (made : Bool) (s : State), made ≠ s.fire.keyMade →
    ∃ t, exec (.resetKeyChange made) s = .next t ∧ sameOutside [.fire] s t ∧
      t.fire = { s.fire with keyMade := made, keyTimer := some 200 }

/-- When a fireman switch's debounce timer runs out: a reading of OPEN or CLOSE that differs from the
accepted position is accepted and places the FIREMAN record of the zone with aperture 1000 or 0, at the
head of the list of each of the zone's openings. Where no slot is free a record is evicted from the
table, and where the list of the zone's one opening is full one is evicted from that list, each the
oldest of the lowest rank below SMOKE. A reading of AUTO is accepted and leaves no FIREMAN record of the
zone; an INVALID reading changes no position (R34, R35, R43, R48, R52, R114, R115). -/
def Obligations.SwitchAcceptanceActs : Prop :=
  ∀ (z : Nat) (s : State) (r : Zone), isZone z = true → s.zone z = some r →
    r.switchTimer.isSome = true →
    (∀ p a, (p = .openPos ∧ a = 1000 ∧ r.openMade = true ∧ r.closeMade = false) ∨
        (p = .closePos ∧ a = 0 ∧ r.openMade = false ∧ r.closeMade = true) →
      r.switchPos ≠ p → s.demand.freeSlot ≠ none →
      ∃ t r' h rec, exec (.switchAcceptance z) s = .next t ∧ t.zone z = some r' ∧
        r'.switchPos = p ∧ r'.switchTimer = none ∧ t.demand.find h = some rec ∧
        rec.source = .fireman z ∧ rec.cls = .fireman ∧ rec.target = .zone z ∧
        rec.aperture = some a ∧ rec.mode = .hold ∧ rec.lifetime = none ∧
        (s.demand.lists.length = 48 → ∀ n ∈ s.store.zoneOpenings z, t.demand.head n = some h)) ∧
    (∀ p, (p = .openPos ∧ r.openMade = true ∧ r.closeMade = false) ∨
        (p = .closePos ∧ r.openMade = false ∧ r.closeMade = true) →
      r.switchPos ≠ p → (∀ k x, s.demand.inSlot k = some x → x.source ≠ .fireman z) →
      (∀ v y, s.demand.freeSlot = none → isVictim s.demand s.demand.ages v y →
        ∃ t h rec, exec (.switchAcceptance z) s = .next t ∧ retiredAndReported t v y ∧
          t.demand.find h = some rec ∧ rec.source = .fireman z ∧ rec.cls = .fireman) ∧
      ∀ n v y, s.demand.freeSlot ≠ none → s.demand.lists.length = 48 →
        s.store.zoneOpenings z = [n] → 8 ≤ (s.demand.list n).length →
        isVictim s.demand (s.demand.ages.filter fun u => (s.demand.list n).contains u) v y →
        ∃ t h rec, exec (.switchAcceptance z) s = .next t ∧ retiredAndReported t v y ∧
          t.demand.find h = some rec ∧ rec.source = .fireman z ∧
          t.demand.head n = some h) ∧
    (r.openMade = false → r.closeMade = false → r.switchPos ≠ .auto →
      ∃ t r', exec (.switchAcceptance z) s = .next t ∧ t.zone z = some r' ∧
        r'.switchPos = .auto ∧ r'.switchTimer = none ∧
        ∀ k x, t.demand.inSlot k = some x → x.source ≠ .fireman z) ∧
    (r.openMade = true → r.closeMade = true →
      ∃ t, exec (.switchAcceptance z) s = .next t ∧ sameOutside [.fire] s t ∧
        t.zone z = some { r with switchTimer := none })

/-! ### The station unit (R124 to R130) -/

/-- A change of a button's contact restarts its debounce timer at 50 milliseconds. When it runs out:
with no new state nothing else happens; a press accepted in IDLE holds that button with the hold
timer at 2 seconds, and with the other button held it holds both; a release ends HELD_BOTH in SPENT,
and SPENT in IDLE with both buttons released (R124, R125). The release of the one button held is a
short press: where the station may act, its living record's aperture is moved up or down by the step
within 0 to 1000 and its lifetime refreshed, handle, age and place kept; or else a record is placed
whose aperture is the target of the group's lowest-numbered member moved in the same way, or the
placement is refused and reported STATION_REFUSED (R33, R39, R126, R129, R130). -/
def Obligations.ButtonsDebounced : Prop :=
  ∀ (n : Nat) (b other : ButtonId) (s : State) (st : Station), isStation n = true →
    s.stationOf n = some st → other ≠ b →
    (∀ made, made ≠ (st.button b).made →
      ∃ t st', exec (.buttonContactChange n b made) s = .next t ∧ sameOutside [.stations] s t ∧
        t.stationOf n = some st' ∧
        st'.button b = { st.button b with made := made, timer := some 50 } ∧
        st'.button other = st.button other ∧ st'.gesture = st.gesture) ∧
    ((st.button b).timer.isSome = true → (st.button b).made = (st.button b).pressed →
      ∃ t st', exec (.buttonAcceptance n b) s = .next t ∧ sameOutside [.stations] s t ∧
        t.stationOf n = some st' ∧ st'.button b = { st.button b with timer := none } ∧
        st'.button other = st.button other ∧ st'.gesture = st.gesture ∧
        st'.holdTimer = st.holdTimer) ∧
    ((st.button b).timer.isSome = true → (st.button b).made = true →
      (st.button b).pressed = false →
      ∃ t st', exec (.buttonAcceptance n b) s = .next t ∧ sameOutside [.stations] s t ∧
        t.stationOf n = some st' ∧ (st'.button b).pressed = true ∧
        (st'.button b).timer = none ∧ st'.button other = st.button other ∧
        (st.gesture = .idle → st'.holdTimer = some 2000 ∧ st'.gesture = heldBy b) ∧
        (st.gesture = heldBy other → st'.gesture = .heldBoth ∧ st'.holdTimer = some 2000)) ∧
    ((st.button b).timer.isSome = true → (st.button b).made = false →
      (st.button b).pressed = true →
      (st.gesture ≠ heldBy b →
        ∃ t st', exec (.buttonAcceptance n b) s = .next t ∧ sameOutside [.stations] s t ∧
          t.stationOf n = some st' ∧ (st'.button b).pressed = false ∧
          (st'.button b).timer = none ∧ st'.button other = st.button other ∧
          (st.gesture = .heldBoth → st'.gesture = .spent ∧ st'.holdTimer = none) ∧
          (st.gesture = .spent → (st.button other).pressed = false → st'.gesture = .idle) ∧
          (st.gesture = .spent → (st.button other).pressed = true → st'.gesture = .spent) ∧
          (st.gesture = heldBy other → st'.gesture = heldBy other)) ∧
      (st.gesture = heldBy b →
        let e := s.store.station n
        let members := s.store.group e.group
        let mayAct := e.enabled = true ∧ members ≠ []
        let moved := fun (x : Nat) => match b with
          | .openButton => min 1000 (x + e.step)
          | .closeButton => min 1000 (x - e.step)
        let fallback := moved ((s.target (members.head?.getD 0)).getD 0)
        let own := s.demand.matching (stationRecord n e 0)
        let refused := s.demand.refusal (stationRecord n e 0) members
        ∃ t st', exec (.buttonAcceptance n b) s = .next t ∧ t.stationOf n = some st' ∧
          (st'.button b).pressed = false ∧ (st'.button b).timer = none ∧
          st'.button other = st.button other ∧ st'.gesture = .idle ∧ st'.holdTimer = none ∧
          (¬mayAct → sameOutside [.stations] s t ∧ st'.handle = st.handle) ∧
          (∀ k r a, mayAct → own = some k → s.demand.inSlot k = some r → r.aperture = some a →
            t.demand.ages = s.demand.ages ∧ t.demand.lists = s.demand.lists ∧
            t.demand.handleOf k = s.demand.handleOf k ∧
            st'.handle = some (s.demand.handleOf k) ∧
            ∃ r', t.demand.inSlot k = some r' ∧ r'.aperture = some (moved a) ∧
              r'.lifetime = some e.lifetime ∧ r'.source = r.source ∧ r'.cls = r.cls ∧
              r'.target = r.target ∧ r'.mode = r.mode) ∧
          (mayAct → own = none → refused = none →
            ∃ h r', st'.handle = some h ∧ t.demand.find h = some r' ∧ r'.source = .station n ∧
              r'.cls = .localUse ∧ r'.target = .group e.group ∧ r'.aperture = some fallback ∧
              r'.lifetime = some e.lifetime ∧ r'.mode = .hold) ∧
          ∀ why, mayAct → own = none → refused = some why →
            t.demand = s.demand ∧ st'.handle = st.handle ∧
            t.mail = { s.mail with reports := s.mail.reports ++
              [{ owner := .stationUnit, lives := [], events := [.stationRefused] }] }))

/-- When the hold timer runs out on one held button, the station's LOCAL record is placed on its group
with aperture 1000 or 0 and the entry's lifetime, where the station may act and the placement is not
refused, and the station keeps its handle; on both held buttons its record is retired. The machine is
then SPENT (R125, R127 to R130). -/
def Obligations.HoldTimerActs : Prop :=
  ∀ (n : Nat) (s : State) (st : Station), isStation n = true → s.stationOf n = some st →
    st.holdTimer.isSome = true → (s.store.station n).enabled = true →
    s.store.group (s.store.station n).group ≠ [] →
    (∀ g a, (g = .heldOpen ∧ a = 1000) ∨ (g = .heldClose ∧ a = 0) → st.gesture = g →
      s.demand.refusal (stationRecord n (s.store.station n) a)
        (s.store.group (s.store.station n).group) = none →
      ∃ t st' h rec, exec (.holdTimerExpiry n) s = .next t ∧ t.stationOf n = some st' ∧
        st'.gesture = .spent ∧ st'.holdTimer = none ∧ st'.handle = some h ∧
        t.demand.find h = some rec ∧ rec.source = .station n ∧ rec.cls = .localUse ∧
        rec.target = .group (s.store.station n).group ∧ rec.aperture = some a ∧
        rec.lifetime = some (s.store.station n).lifetime) ∧
    (∀ h rec, st.gesture = .heldBoth → st.handle = some h → s.demand.find h = some rec →
      ∃ t st', exec (.holdTimerExpiry n) s = .next t ∧ t.demand.inSlot h.slot = none ∧
        h ∉ t.demand.ages ∧ t.stationOf n = some st' ∧ st'.gesture = .spent)

/-! ### The movement controller (R131 to R150) -/

/-- The oldest target told of an opening is taken (notes/assumptions/4.md), and its class is the
class last told. On an opening that moves, a new target that lies ahead of the position, in the
direction of the move, by more than the deadband is followed by a MOVE and the opening goes on; any
other new target stops it, with a stop timer of 3 seconds; and one that leaves the target as it was
changes the class last told alone; whether it was changed is carried by the event itself
(notes/assumptions/18.md). At rest the opening is evaluated; in WAIT_SLOT nearness brings it to
rest, and it may be granted a slot; FAULTED it is rearmed where the class has risen to SMOKE or
FIREMAN and its node is not still LOST with the fault; UNKNOWN, STOPPING and RETRY_WAIT keep still
(R132 to R135, R140, R141, R144, R146, R148). The evaluation reads T and the position as they stand
(notes/assumptions/19.md). -/
def Obligations.TargetEventsRetarget : Prop :=
  (∀ (n : Nat) (s : State) (m : MoveRecord) (e : TargetTold) (rest : List TargetTold) (p : Nat)
    (d : Direction), isOpening n = true → s.move n = some m →
    takeFirst (fun x => x.opening == n) s.mail.targets = some (e, rest) →
    m.state = .breakaway ∨ m.state = .travel → m.direction = some d → s.position n = some p →
    let ahead := match d with
      | .up => p + (s.store.opening n).deadband < e.target
      | .down => e.target + (s.store.opening n).deadband < p
    ∃ t m', exec (.targetEvent n) s = .next t ∧ t.move n = some m' ∧
      m'.classTold = e.cls ∧ t.mail.targets = rest ∧
      (e.changed = true → m'.orderPending = true) ∧
      (e.changed = true → ahead →
        m'.state = m.state ∧ m'.direction = m.direction ∧ m'.deadline = m.deadline ∧
        m'.progressRef = m.progressRef ∧ m'.progressWindow = m.progressWindow ∧
        { opening := n, kind := .move e.target } ∈ t.bus.queue) ∧
      (e.changed = true → ¬ahead →
        m'.state = .stopping ∧ m'.stopTimer = some 3 ∧ m'.direction = none ∧
        m'.deadline = none ∧ { opening := n, kind := .stop } ∈ t.bus.queue) ∧
      (e.changed = false → m' = { m with classTold := e.cls })) ∧
  ∀ (n : Nat) (s : State) (m : MoveRecord) (e : TargetTold) (rest : List TargetTold),
    isOpening n = true → s.move n = some m →
    takeFirst (fun x => x.opening == n) s.mail.targets = some (e, rest) →
    ∃ t, exec (.targetEvent n) s = .next t ∧ t.mail.targets = rest ∧
      let told := { m with classTold := e.cls }
      let rearmed := isFireClass e.cls = true ∧ isFireClass m.classTold = false ∧
        ¬(m.faultReason = some .lost ∧ s.nodeState n = some .lost)
      match m.state with
      | .unknown => t.move n = some told
      | .atRest => restsAs s t n told
      | .waitSlot =>
        (nearTarget s n → restsAs s t n (told.bare .atRest)) ∧
          (¬nearTarget s n → t.move n = some told ∨
            (s.nodeState n = some .online ∧ t.moveState n = some .breakaway))
      | .breakaway => e.changed = false → t.move n = some told
      | .travel => e.changed = false → t.move n = some told
      | .stopping => t.move n = some told
      | .retryWait => t.move n = some told
      | .faulted =>
        (rearmed → restsAs s t n { told.bare .atRest with retries := 0 }) ∧
          (¬rearmed → t.move n = some told)

/-- The oldest reply waiting for an opening is taken (notes/assumptions/4.md), each by movement
state and by the first step that applies. In UNKNOWN it brings the opening to rest, or stops a
moving drive; at rest the opening is evaluated; in WAIT_SLOT isolation or nearness brings it to rest
and motion stops it; in BREAKAWAY isolation ends the start and overcurrent faults it JAMMED; in
TRAVEL so too, a stopped drive comes to rest within the deadband, and outside it faults STALLED
while no order is pending; in STOPPING a stopped or isolated one comes to rest; in RETRY_WAIT
isolation alone acts; and FAULTED judges nothing. A first JAMMED under SMOKE or FIREMAN goes to
RETRY_WAIT (R133 to R135, R137, R138, R141 to R144, R146). The evaluation reads the recorded
position (notes/assumptions/19.md). -/
def Obligations.RepliesEndTravel : Prop :=
  (∀ (n : Nat) (s : State) (m : MoveRecord) (r : ReplyTold) (rest : List ReplyTold),
    isOpening n = true → s.move n = some m → m.state = .travel →
    takeFirst (fun x => x.opening == n) s.mail.replies = some (r, rest) →
    ∃ t m', exec (.movementReply n) s = .next t ∧ t.move n = some m' ∧
      t.mail.replies = rest ∧ m'.classTold = m.classTold ∧
      (r.isolated = true → s.nodeState n ≠ some .online →
        m'.state = .atRest ∧ m'.retries = m.retries ∧ m'.direction = none) ∧
      (r.isolated = false → r.overcurrent = true → isFireClass m.classTold = false →
        m'.state = .faulted ∧ m'.faultReason = some .jammed ∧ m'.direction = none) ∧
      (r.isolated = false → r.overcurrent = true → isFireClass m.classTold = true →
        m.retries = 0 →
        m'.state = .retryWait ∧ m'.retries = 1 ∧ m'.retryTimer = some 10) ∧
      (r.isolated = false → r.overcurrent = true → isFireClass m.classTold = true →
        m.retries = 1 → m'.state = .faulted ∧ m'.faultReason = some .jammed)) ∧
  ∀ (n : Nat) (s : State) (m : MoveRecord) (r : ReplyTold) (rest : List ReplyTold),
    isOpening n = true → s.move n = some m →
    takeFirst (fun x => x.opening == n) s.mail.replies = some (r, rest) →
    ∃ t, exec (.movementReply n) s = .next t ∧ t.mail.replies = rest ∧
      let stopped := r.motion = .stopped
      let atRest := restsAs s t n (m.bare .atRest)
      let kept := t.move n = some m
      match m.state with
      | .unknown =>
        (r.isolated = true ∨ stopped → atRest) ∧
          (r.isolated = false → ¬stopped → stopOrdered t n m)
      | .atRest => (r.isolated = true → kept) ∧ (r.isolated = false → restsAs s t n m)
      | .waitSlot =>
        (r.isolated = true → atRest) ∧
          (r.isolated = false → ¬stopped → stopOrdered t n m) ∧
          (r.isolated = false → stopped → nearTarget s n → atRest) ∧
          (r.isolated = false → stopped → ¬nearTarget s n →
            kept ∨ (s.eligible n = true ∧ t.moveState n = some .breakaway))
      | .breakaway =>
        (r.isolated = true → atRest) ∧
          (r.isolated = false → r.overcurrent = true → faultTaken s t n m .jammed) ∧
          (r.isolated = false → r.overcurrent = false → kept)
      | .travel =>
        (r.isolated = true → atRest) ∧
          (r.isolated = false → r.overcurrent = true → faultTaken s t n m .jammed) ∧
          (r.isolated = false → r.overcurrent = false →
            (stopped → nearTarget s n → atRest) ∧
            (stopped → ¬nearTarget s n → m.orderPending = false → faultTaken s t n m .stalled) ∧
            (stopped → ¬nearTarget s n → m.orderPending = true → kept) ∧
            (¬stopped → kept))
      | .stopping =>
        (r.isolated = true ∨ stopped → atRest) ∧ (r.isolated = false → ¬stopped → kept)
      | .retryWait => (r.isolated = true → atRest) ∧ (r.isolated = false → kept)
      | .faulted => kept

/-- The oldest order outcome of an opening is taken (notes/assumptions/4.md) and sets order pending
to no where no later order for the opening is queued and none is in flight whose outcome is still to
be reported, a superseded one's never being (R154; notes/assumptions/29.md); an opening that waited
may be granted a slot at the end of the event (R148). The oldest node lost event
(notes/assumptions/4.md) faults an opening in BREAKAWAY, TRAVEL or STOPPING with reason LOST and no
retry, and leaves one in any other state as it is (R132, R135, R142, R143). -/
def Obligations.OutcomesAndLoss : Prop :=
  (∀ (n : Nat) (s : State) (m : MoveRecord) (o : OutcomeTold) (rest : List OutcomeTold),
    isOpening n = true → s.move n = some m →
    takeFirst (fun x => x.opening == n) s.mail.outcomes = some (o, rest) →
    (∀ q ∈ s.bus.queue, q.opening ≠ n) →
    (∀ f, s.bus.inFlight = some f → f.order.opening ≠ n ∨ f.superseded = true) →
    ∃ t, exec (.orderOutcome n) s = .next t ∧ t.mail.outcomes = rest ∧
      (m.state ≠ .waitSlot → t.move n = some { m with orderPending := false }) ∧
      (m.state = .waitSlot → t.move n = some { m with orderPending := false } ∨
        (s.eligible n = true ∧ t.moveState n = some .breakaway))) ∧
  ∀ (n : Nat) (s : State) (m : MoveRecord) (rest : List Nat), isOpening n = true →
    s.move n = some m → takeFirst (fun x => x == n) s.mail.lost = some (n, rest) →
    ∃ t m', exec (.nodeLostEvent n) s = .next t ∧ t.mail.lost = rest ∧ t.move n = some m' ∧
      (m.state = .breakaway ∨ m.state = .travel ∨ m.state = .stopping →
        m'.state = .faulted ∧ m'.faultReason = some .lost ∧ m'.stopTimer = none ∧
          m'.deadline = none) ∧
      (m.state = .unknown ∨ m.state = .atRest ∨ m.state = .retryWait ∨ m.state = .faulted →
        m' = m) ∧
      (m.state = .waitSlot → s.nodeState n ≠ some .online → m' = m)

/-- The timers of an opening, each at its last second (notes/assumptions/3.md): the breakaway timer
gives up the slot for TRAVEL with the position as progress reference and a window of 5 seconds; the
deadline faults it OVERTIME, with the window or without; the window alone faults a move STALLED
without 10 au of headway outside the deadband and starts again otherwise, on the position of the
previous reply while a reply waits (notes/assumptions/19.md); the stop timer faults it NO_STOP, all
four faults under no fire class; the retry timer returns it to AT_REST; and a wait age passes 60
seconds (R137, R139, R141, R142, R144, R149). -/
def Obligations.MovementTimers : Prop :=
  ∀ (n : Nat) (s : State) (m : MoveRecord) (p : Nat), isOpening n = true → s.move n = some m →
    s.position n = some p →
    (m.state = .breakaway → m.breakaway = some 1 →
      ∃ t, exec (.breakawayEnd n) s = .next t ∧
        t.move n = some
          { m with
            state := .travel
            breakaway := none
            progressRef := some p
            progressWindow := some 5 }) ∧
    (m.state = .travel → m.deadline = some 1 → isFireClass m.classTold = false →
      ∃ t m', exec (.overtime n) s = .next t ∧ t.move n = some m' ∧ m'.state = .faulted ∧
        m'.faultReason = some .overtime) ∧
    (m.state = .travel → m.progressWindow = some 1 → m.deadline = some 1 →
      isFireClass m.classTold = false →
      ∃ t m', exec (.progressWindowEnd n) s = .next t ∧ t.move n = some m' ∧ m'.state = .faulted ∧
        m'.faultReason = some .overtime) ∧
    (∀ q x k d, m.state = .travel → m.progressWindow = some 1 → m.deadline = some (k + 2) →
      m.progressRef = some q → m.direction = some d →
      ((∀ e ∈ s.mail.replies, e.opening ≠ n) ∧ x = p) ∨
        (∃ e rest, takeFirst (fun e => e.opening == n) s.mail.replies = some (e, rest) ∧
          e.before = some x) →
      let near := ∃ y, s.target n = some y ∧
        (y - x) + (x - y) ≤ (s.store.opening n).deadband
      let headway := match d with
        | .up => q + 10 ≤ x
        | .down => x + 10 ≤ q
      ∃ t m', exec (.progressWindowEnd n) s = .next t ∧ t.move n = some m' ∧
        (near ∨ headway → m' = { m with progressRef := some x, progressWindow := some 5 }) ∧
        (¬near → ¬headway → isFireClass m.classTold = false →
          m'.state = .faulted ∧ m'.faultReason = some .stalled)) ∧
    (m.state = .stopping → m.stopTimer = some 1 → isFireClass m.classTold = false →
      ∃ t m', exec (.noStop n) s = .next t ∧ t.move n = some m' ∧ m'.state = .faulted ∧
        m'.faultReason = some .noStop ∧ m'.stopTimer = none) ∧
    (m.state = .retryWait → m.retryTimer = some 1 → s.nodeState n ≠ some .online →
      ∃ t m', exec (.retryTimerEnd n) s = .next t ∧ t.move n = some m' ∧ m'.state = .atRest ∧
        m'.retries = m.retries ∧ m'.retryTimer = none) ∧
    (m.state = .waitSlot → m.waitAge = some 60 → s.nodeState n ≠ some .online →
      ∃ t, exec (.startWaitRise n) s = .next t ∧ t.move n = some { m with waitAge := some 61 })

/-- At the movement controller's one-second event every timer of an opening counts down and the age
of a waiting opening counts up to 65534, START_WAIT rising where it passes 60 seconds. At its last
second the breakaway timer gives up the slot for TRAVEL with the position as reference; the deadline
faults the move OVERTIME, whatever the window holds; the window alone faults it STALLED without 10
au of headway outside the deadband and starts again otherwise, on the position of the previous reply
while a reply waits (notes/assumptions/19.md); the stop timer faults it NO_STOP; and the retry timer
brings it to rest to be evaluated. A first fault under SMOKE or FIREMAN goes to RETRY_WAIT. Openings
at rest, UNKNOWN or FAULTED keep still (R132, R134, R135, R137, R139, R141 to R144, R148, R149). -/
def Obligations.MovementTickCounts : Prop :=
  ∀ s : State, ∃ t, exec .movementTick s = .next t ∧
    ∀ (n : Nat) (m : MoveRecord), isOpening n = true → s.move n = some m →
      (∀ a, m.state = .waitSlot → m.waitAge = some a → s.nodeState n ≠ some .online →
        t.move n = some { m with waitAge := some (min (a + 1) 65534) }) ∧
      (∀ k d, m.state = .breakaway → m.breakaway = some (k + 2) → m.deadline = some (d + 1) →
        t.move n = some { m with breakaway := some (k + 1), deadline := some d }) ∧
      (∀ d w, m.state = .travel → m.deadline = some (d + 2) → m.progressWindow = some (w + 2) →
        t.move n = some { m with deadline := some (d + 1), progressWindow := some (w + 1) }) ∧
      (∀ k, m.state = .stopping → m.stopTimer = some (k + 2) →
        t.move n = some { m with stopTimer := some (k + 1) }) ∧
      (∀ k, m.state = .retryWait → m.retryTimer = some (k + 2) →
        t.move n = some { m with retryTimer := some (k + 1) }) ∧
      (m.state = .unknown ∨ m.state = .atRest ∨ m.state = .faulted → t.move n = some m) ∧
      (∀ a, m.state = .waitSlot → m.waitAge = some a → s.nodeState n = some .online →
        t.move n = some { m with waitAge := some (min (a + 1) 65534) } ∨
          t.moveState n = some .breakaway) ∧
      (m.state = .waitSlot → m.waitAge = some 60 → s.nodeState n ≠ some .online →
        s.startWait = false →
        ∃ r ∈ t.mail.reports, r.owner = .movementController ∧ (.startWait, true) ∈ r.lives ∧
          .startWait ∈ r.events) ∧
      (∀ d p, m.state = .breakaway → m.breakaway = some 1 → m.deadline = some (d + 1) →
        s.position n = some p →
        t.move n = some
          { m with
            state := .travel
            breakaway := none
            deadline := some d
            progressRef := some p
            progressWindow := some 5 }) ∧
      (m.state = .travel → m.deadline = some 1 → faultTaken s t n m .overtime) ∧
      (∀ k d q x, m.state = .travel → m.progressWindow = some 1 → m.deadline = some (k + 2) →
        m.direction = some d → m.progressRef = some q →
        ((∀ e ∈ s.mail.replies, e.opening ≠ n) ∧ s.position n = some x) ∨
          (∃ e rest, takeFirst (fun e => e.opening == n) s.mail.replies = some (e, rest) ∧
            e.before = some x) →
        let near := ∃ y, s.target n = some y ∧
          (y - x) + (x - y) ≤ (s.store.opening n).deadband
        let headway := match d with
          | .up => q + 10 ≤ x
          | .down => x + 10 ≤ q
        (near ∨ headway →
          t.move n = some
            { m with deadline := some (k + 1), progressRef := some x, progressWindow := some 5 }) ∧
        (¬near → ¬headway → faultTaken s t n m .stalled)) ∧
      (m.state = .stopping → m.stopTimer = some 1 → faultTaken s t n m .noStop) ∧
      (m.state = .retryWait → m.retryTimer = some 1 → restsAs s t n (m.bare .atRest))

/-- The arbiter grants a free start slot to an eligible opening that no other eligible opening
stands ahead of, by rank and then by wait age, of equals the lowest-numbered: it enters BREAKAWAY
with its direction, its breakaway time and the travel deadline, and a MOVE to its target is queued
(R136, R147, R148). That SLOT_GRANT grants in any state, and not only at the end of an event of the
movement controller, is the model's (notes/assumptions/48.md). -/
def Obligations.SlotGrantServesHighest : Prop :=
  ∀ (s : State) (n : Nat) (m : MoveRecord) (target p : Nat), isOpening n = true →
    s.move n = some m → s.target n = some target → s.position n = some p →
    s.breakawayOpenings.length < s.startBudget → s.eligible n = true →
    (∀ k, isOpening k = true → s.eligible k = true →
      standsAhead (s.standing k) (s.standing n) = false ∧
      (k < n → standsAhead (s.standing n) (s.standing k) = true)) →
    ∃ t m', exec .slotGrant s = .next t ∧ t.move n = some m' ∧ m'.state = .breakaway ∧
      m'.direction = some (if p < target then .up else .down) ∧
      m'.breakaway = some (s.store.opening n).breakawayTime ∧
      m'.deadline = some ((s.store.opening n).breakawayTime +
        (((target - p) + (p - target)) * (s.store.opening n).strokeTime * 3 + 1999) / 2000 + 5) ∧
      m'.waitAge = none ∧ m'.orderPending = true ∧
      { opening := n, kind := .move target } ∈ t.bus.queue

/-! ### The drive bus controller (R152 to R161) -/

/-- An order turn sends the order at the head where it passes the check of R155, and discards one
alone that fails it; a poll turn polls the opening the rotation names, and after the poll the
rotation moves on to the next enabled opening above the one polled, or the lowest where there is
none; order turns and poll turns alternate, and no turn is taken while a transaction is under way
(R152, R155, R156). A turn out of turn does nothing, which is the model's (notes/assumptions/35.md).
-/
def Obligations.TurnsAlternate : Prop :=
  (∀ (s : State) (o : Order) (rest : List Order), s.bus.transaction = none →
    s.store.enabledOpenings ≠ [] → s.bus.queue = o :: rest → s.bus.lastTurn = .poll →
    (s.orderAllowed o.opening = true →
      ∃ t, exec .orderTurn s = .next t ∧ sameOutside [.bus, .mail] s t ∧
        t.bus.queue = rest ∧ t.bus.lastTurn = .order ∧
        t.bus.inFlight = some { order := o, attempts := 1, superseded := false } ∧
        t.bus.transaction =
          some { node := o.opening, request := orderFrame o, discard := false }) ∧
    (s.orderAllowed o.opening = false → rest = [] →
      ∃ t, exec .orderTurn s = .next t ∧ t.bus.queue = [] ∧ t.bus.transaction = none ∧
        t.bus.lastTurn = .order ∧
        t.mail.outcomes = s.mail.outcomes ++ [{ opening := o.opening, ending := .discarded }])) ∧
  (∀ s : State, s.bus.transaction = none → s.store.enabledOpenings ≠ [] →
    s.bus.queue = [] ∨ s.bus.lastTurn = .order →
    ∃ t, exec .pollTurn s = .next t ∧ sameOutside [.bus] s t ∧ t.bus.queue = s.bus.queue ∧
      t.bus.lastTurn = .poll ∧ t.bus.inFlight = s.bus.inFlight ∧
      t.bus.transaction = some
        { node := s.bus.rotation
          request := pollFrame s.bus.rotation
          discard := false } ∧
      t.bus.rotation = s.bus.rotation) ∧
  (∀ (s : State) (x : Transaction) (c : Instr), s.bus.transaction = some x →
    s.store.enabledOpenings ≠ [] → (c = .noReply ∨ ∃ bytes, c = .replyReceived bytes ∧ bytes ≠ []) →
    ∃ t, exec c s = .next t ∧
      (s.bus.lastTurn = .order → t.bus.rotation = s.bus.rotation) ∧
      (s.bus.lastTurn = .poll → s.store.enabled t.bus.rotation = true ∧
        (∀ k, s.store.enabled k = true → x.node < k →
          x.node < t.bus.rotation ∧ t.bus.rotation ≤ k) ∧
        ((∀ k, s.store.enabled k = true → k ≤ x.node) →
          ∀ k, s.store.enabled k = true → t.bus.rotation ≤ k))) ∧
  (∀ s : State, s.bus.transaction ≠ none →
    exec .orderTurn s = .next s ∧ exec .pollTurn s = .next s) ∧
  ∀ s : State, s.bus.queue ≠ [] →
    (s.bus.lastTurn = .order → exec .orderTurn s = .next s) ∧
    (s.bus.lastTurn = .poll → exec .pollTurn s = .next s)

/-- A valid reply of the node of the transaction replaces its last reply whole, ends its run of
failures, makes it ISOLATED or ONLINE, and is handed to the movement controller. It ends the order
in flight, where there is one: delivered at OK and JAM; back at the tail at NOT_READY, with no
outcome; discarded at ISOLATED, as is the queued order of a node that becomes ISOLATED. No reply,
fewer than six bytes, and no valid frame count a failure. At the third the node becomes LOST, its
queued order and its order in flight are dropped and the movement controller is told. Until then the
order in flight is sent again, up to three times in all, while it passes the check of R155;
superseded, it is discarded. Where it fails the check it is discarded and the next entry that passes
is sent within the same turn, those before it discarded too. No outcome of a superseded order is
told, and one put back is dropped instead (R152 to R159). That only an order which fails the check
passes the turn on is the model's (notes/assumptions/45.md). -/
def Obligations.TransactionsUpdateNode : Prop :=
  ∀ (s : State) (x : Transaction) (d : NodeRecord), s.bus.transaction = some x →
    x.discard = false → s.node x.node = some d →
    (∀ f, s.bus.inFlight = some f → f.order.opening = x.node) →
    (∀ bytes r, validReply x.node bytes = some r →
      ∃ t, exec (.replyReceived bytes) s = .next t ∧ t.bus.transaction = none ∧
        t.bus.inFlight = none ∧
        t.node x.node = some
          { state := if r.isolated then .isolated else .online
            failures := 0
            lastReply := some r
            lastOutcome := some r.outcome } ∧
        t.mail.replies = s.mail.replies ++
          [{ opening := x.node
             before := s.position x.node
             isolated := r.isolated
             position := r.position
             motion := r.motion
             overcurrent := r.overcurrent }] ∧
        (r.outcome = .ok ∨ r.outcome = .jam →
          t.bus.queue = s.bus.queue ∧
          t.mail.outcomes = s.mail.outcomes ++ flightTold s .delivered) ∧
        (r.outcome = .notReady →
          t.bus.queue = s.bus.queue ++ putBack s ∧ t.mail.outcomes = s.mail.outcomes) ∧
        (r.outcome = .isolated → d.state ≠ .isolated →
          t.bus.queue = queueWithout s x.node ∧
          t.mail.outcomes =
            s.mail.outcomes ++ queueTold s x.node .discarded ++ flightTold s .discarded) ∧
        (r.outcome = .isolated → d.state = .isolated →
          t.bus.queue = s.bus.queue ∧
          t.mail.outcomes = s.mail.outcomes ++ flightTold s .discarded)) ∧
    ∀ (c : Instr) (o : TransactionOutcome),
      (c = .noReply ∧ o = .noReply) ∨
        (o = .corrupt ∧ ∃ bytes, c = .replyReceived bytes ∧ bytes ≠ [] ∧
          (bytes.length < 6 ∨ validReply x.node (bytes.take 6) = none)) →
    ∃ t d', exec c s = .next t ∧ t.node x.node = some d' ∧ d'.lastReply = d.lastReply ∧
      d'.failures = min (d.failures + 1) 3 ∧ d'.lastOutcome = some o ∧
      t.mail.replies = s.mail.replies ∧
      (3 ≤ d.failures + 1 → d.state ≠ .lost →
        d'.state = .lost ∧ t.bus.transaction = none ∧ t.bus.inFlight = none ∧
        t.bus.queue = queueWithout s x.node ∧ t.mail.lost = s.mail.lost ++ [x.node] ∧
        t.mail.outcomes =
          s.mail.outcomes ++ queueTold s x.node .dropped ++ flightTold s .dropped) ∧
      (d.failures + 1 < 3 ∨ d.state = .lost →
        d'.state = d.state ∧ t.mail.lost = s.mail.lost ∧
        (s.bus.inFlight = none → t.bus.transaction = none ∧ t.bus.inFlight = none ∧
          t.bus.queue = s.bus.queue ∧ t.mail.outcomes = s.mail.outcomes)) ∧
      ∀ f : InFlight, s.bus.inFlight = some f → f.attempts < 3 → d.failures + 1 < 3 →
        d.state ≠ .lost →
        (s.orderAllowed x.node = true → f.superseded = false →
          t.bus.inFlight = some { f with attempts := f.attempts + 1 } ∧
          t.bus.transaction =
            some { node := x.node, request := orderFrame f.order, discard := false } ∧
          t.bus.queue = s.bus.queue ∧ t.mail.outcomes = s.mail.outcomes) ∧
        (s.orderAllowed x.node = true → f.superseded = true →
          t.bus.inFlight = none ∧ t.bus.transaction = none ∧ t.bus.queue = s.bus.queue ∧
          t.mail.outcomes = s.mail.outcomes) ∧
        (s.orderAllowed x.node = false →
          let discarded := fun (os : List Order) =>
            os.map fun o => ({ opening := o.opening, ending := .discarded } : OutcomeTold)
          t.bus.lastTurn = s.bus.lastTurn ∧
          (∀ bad o rest, s.bus.queue = bad ++ o :: rest →
            (∀ e ∈ bad, s.orderAllowed e.opening = false) → s.orderAllowed o.opening = true →
            t.bus.queue = rest ∧
            t.bus.inFlight = some { order := o, attempts := 1, superseded := false } ∧
            t.bus.transaction =
              some { node := o.opening, request := orderFrame o, discard := false } ∧
            t.mail.outcomes =
              s.mail.outcomes ++ flightTold s .discarded ++ discarded bad) ∧
          ((∀ e ∈ s.bus.queue, s.orderAllowed e.opening = false) →
            t.bus.queue = [] ∧ t.bus.inFlight = none ∧ t.bus.transaction = none ∧
            t.mail.outcomes =
              s.mail.outcomes ++ flightTold s .discarded ++ discarded s.bus.queue))

/-! ### Laws of the whole part -/

/-- Every command keeps the attention output asserted exactly while a condition is sticky and
unmasked, keeps the receive buffer within its 206 bytes and empty unless a frame is being received,
keeps the slot of the deferred response free while a write is under way, as the model's refusal of a
CONFIGURE while a response waits there has it (notes/assumptions/15.md), and keeps every handle of
the age order and the rank lists the name of a living record (R26, R40, R163, R166, R179). -/
def Obligations.AttentionAndBufferKept : Prop :=
  (∀ s t : State, attentionRight s → bufferInBounds s → step s = .next t →
    attentionRight t ∧ bufferInBounds t) ∧
  (∀ s t : State, deferredSlotFree s → step s = .next t → deferredSlotFree t) ∧
  ∀ s t : State, handlesLive s.demand → step s = .next t → handlesLive t.demand

/-- Every command keeps the target and the frozen aperture of every enabled opening a multiple of
its step within its stroke limit, with every opening entry in effect valid and no result for an
opening that is not enabled (R2, R14, R86). -/
def Obligations.TargetsKeptInRange : Prop :=
  ∀ s t : State, entriesValid s → targetsInRange s → step s = .next t →
    entriesValid t ∧ targetsInRange t

/-- Every command keeps the number of openings in BREAKAWAY within the normal start budget, with the
movement block in effect valid (R13, R147). -/
def Obligations.SlotsKeptInBudget : Prop :=
  ∀ s t : State, entriesValid s → slotsInBudget s → step s = .next t → slotsInBudget t

/-- Every command keeps the filtered and the corrected speeds within 0 to 600 and every cap within 0 to
1000 (R65, R71, R92, R93). -/
def Obligations.WeatherKeptInRange : Prop :=
  ∀ s t : State, weatherInRange s → step s = .next t → weatherInRange t

/-- The part right after power-on reset, which the model takes with a non-volatile memory never written
(notes/assumptions/7.md), keeps every law of the whole part. -/
def Obligations.LawsHoldAtReset : Prop :=
  attentionRight State.reset ∧ bufferInBounds State.reset ∧ deferredSlotFree State.reset ∧
    handlesLive State.reset.demand ∧ entriesValid State.reset ∧
    targetsInRange State.reset ∧ slotsInBudget State.reset ∧ weatherInRange State.reset
end

