-- ==== Sys2Proof/Laws/State.lean ====
section
/-! SUPPORT. One lemma for each field of State after each replacement of a block, and for the
replacement of one numbered item, so that no later proof unfolds a record update. -/
namespace Sys2Proof.Machine

variable (s : State)

@[simp] theorem State.setStore_store (x : Store) : (s.setStore x).store = x := rfl
@[simp] theorem State.setStore_demand (x : Store) : (s.setStore x).demand = s.demand := rfl
@[simp] theorem State.setStore_weather (x : Store) : (s.setStore x).weather = s.weather := rfl
@[simp] theorem State.setStore_results (x : Store) : (s.setStore x).results = s.results := rfl
@[simp] theorem State.setStore_fire (x : Store) : (s.setStore x).fire = s.fire := rfl
@[simp] theorem State.setStore_stations (x : Store) : (s.setStore x).stations = s.stations := rfl
@[simp] theorem State.setStore_moves (x : Store) : (s.setStore x).moves = s.moves := rfl
@[simp] theorem State.setStore_bus (x : Store) : (s.setStore x).bus = s.bus := rfl
@[simp] theorem State.setStore_link (x : Store) : (s.setStore x).link = s.link := rfl
@[simp] theorem State.setStore_conditions (x : Store) : (s.setStore x).conditions = s.conditions := rfl
@[simp] theorem State.setStore_mail (x : Store) : (s.setStore x).mail = s.mail := rfl
@[simp] theorem State.setStore_pending (x : Store) : (s.setStore x).pending = s.pending := rfl

@[simp] theorem State.setDemand_store (x : DemandTable) : (s.setDemand x).store = s.store := rfl
@[simp] theorem State.setDemand_demand (x : DemandTable) : (s.setDemand x).demand = x := rfl
@[simp] theorem State.setDemand_weather (x : DemandTable) : (s.setDemand x).weather = s.weather := rfl
@[simp] theorem State.setDemand_results (x : DemandTable) : (s.setDemand x).results = s.results := rfl
@[simp] theorem State.setDemand_fire (x : DemandTable) : (s.setDemand x).fire = s.fire := rfl
@[simp] theorem State.setDemand_stations (x : DemandTable) : (s.setDemand x).stations = s.stations := rfl
@[simp] theorem State.setDemand_moves (x : DemandTable) : (s.setDemand x).moves = s.moves := rfl
@[simp] theorem State.setDemand_bus (x : DemandTable) : (s.setDemand x).bus = s.bus := rfl
@[simp] theorem State.setDemand_link (x : DemandTable) : (s.setDemand x).link = s.link := rfl
@[simp] theorem State.setDemand_conditions (x : DemandTable) : (s.setDemand x).conditions = s.conditions := rfl
@[simp] theorem State.setDemand_mail (x : DemandTable) : (s.setDemand x).mail = s.mail := rfl
@[simp] theorem State.setDemand_pending (x : DemandTable) : (s.setDemand x).pending = s.pending := rfl

@[simp] theorem State.setWeather_store (x : Weather) : (s.setWeather x).store = s.store := rfl
@[simp] theorem State.setWeather_demand (x : Weather) : (s.setWeather x).demand = s.demand := rfl
@[simp] theorem State.setWeather_weather (x : Weather) : (s.setWeather x).weather = x := rfl
@[simp] theorem State.setWeather_results (x : Weather) : (s.setWeather x).results = s.results := rfl
@[simp] theorem State.setWeather_fire (x : Weather) : (s.setWeather x).fire = s.fire := rfl
@[simp] theorem State.setWeather_stations (x : Weather) : (s.setWeather x).stations = s.stations := rfl
@[simp] theorem State.setWeather_moves (x : Weather) : (s.setWeather x).moves = s.moves := rfl
@[simp] theorem State.setWeather_bus (x : Weather) : (s.setWeather x).bus = s.bus := rfl
@[simp] theorem State.setWeather_link (x : Weather) : (s.setWeather x).link = s.link := rfl
@[simp] theorem State.setWeather_conditions (x : Weather) : (s.setWeather x).conditions = s.conditions := rfl
@[simp] theorem State.setWeather_mail (x : Weather) : (s.setWeather x).mail = s.mail := rfl
@[simp] theorem State.setWeather_pending (x : Weather) : (s.setWeather x).pending = s.pending := rfl

@[simp] theorem State.setResults_store (x : List (Option OpeningResult)) : (s.setResults x).store = s.store := rfl
@[simp] theorem State.setResults_demand (x : List (Option OpeningResult)) : (s.setResults x).demand = s.demand := rfl
@[simp] theorem State.setResults_weather (x : List (Option OpeningResult)) : (s.setResults x).weather = s.weather := rfl
@[simp] theorem State.setResults_results (x : List (Option OpeningResult)) : (s.setResults x).results = x := rfl
@[simp] theorem State.setResults_fire (x : List (Option OpeningResult)) : (s.setResults x).fire = s.fire := rfl
@[simp] theorem State.setResults_stations (x : List (Option OpeningResult)) : (s.setResults x).stations = s.stations := rfl
@[simp] theorem State.setResults_moves (x : List (Option OpeningResult)) : (s.setResults x).moves = s.moves := rfl
@[simp] theorem State.setResults_bus (x : List (Option OpeningResult)) : (s.setResults x).bus = s.bus := rfl
@[simp] theorem State.setResults_link (x : List (Option OpeningResult)) : (s.setResults x).link = s.link := rfl
@[simp] theorem State.setResults_conditions (x : List (Option OpeningResult)) : (s.setResults x).conditions = s.conditions := rfl
@[simp] theorem State.setResults_mail (x : List (Option OpeningResult)) : (s.setResults x).mail = s.mail := rfl
@[simp] theorem State.setResults_pending (x : List (Option OpeningResult)) : (s.setResults x).pending = s.pending := rfl

@[simp] theorem State.setFire_store (x : FireUnit) : (s.setFire x).store = s.store := rfl
@[simp] theorem State.setFire_demand (x : FireUnit) : (s.setFire x).demand = s.demand := rfl
@[simp] theorem State.setFire_weather (x : FireUnit) : (s.setFire x).weather = s.weather := rfl
@[simp] theorem State.setFire_results (x : FireUnit) : (s.setFire x).results = s.results := rfl
@[simp] theorem State.setFire_fire (x : FireUnit) : (s.setFire x).fire = x := rfl
@[simp] theorem State.setFire_stations (x : FireUnit) : (s.setFire x).stations = s.stations := rfl
@[simp] theorem State.setFire_moves (x : FireUnit) : (s.setFire x).moves = s.moves := rfl
@[simp] theorem State.setFire_bus (x : FireUnit) : (s.setFire x).bus = s.bus := rfl
@[simp] theorem State.setFire_link (x : FireUnit) : (s.setFire x).link = s.link := rfl
@[simp] theorem State.setFire_conditions (x : FireUnit) : (s.setFire x).conditions = s.conditions := rfl
@[simp] theorem State.setFire_mail (x : FireUnit) : (s.setFire x).mail = s.mail := rfl
@[simp] theorem State.setFire_pending (x : FireUnit) : (s.setFire x).pending = s.pending := rfl

@[simp] theorem State.setStations_store (x : List Station) : (s.setStations x).store = s.store := rfl
@[simp] theorem State.setStations_demand (x : List Station) : (s.setStations x).demand = s.demand := rfl
@[simp] theorem State.setStations_weather (x : List Station) : (s.setStations x).weather = s.weather := rfl
@[simp] theorem State.setStations_results (x : List Station) : (s.setStations x).results = s.results := rfl
@[simp] theorem State.setStations_fire (x : List Station) : (s.setStations x).fire = s.fire := rfl
@[simp] theorem State.setStations_stations (x : List Station) : (s.setStations x).stations = x := rfl
@[simp] theorem State.setStations_moves (x : List Station) : (s.setStations x).moves = s.moves := rfl
@[simp] theorem State.setStations_bus (x : List Station) : (s.setStations x).bus = s.bus := rfl
@[simp] theorem State.setStations_link (x : List Station) : (s.setStations x).link = s.link := rfl
@[simp] theorem State.setStations_conditions (x : List Station) : (s.setStations x).conditions = s.conditions := rfl
@[simp] theorem State.setStations_mail (x : List Station) : (s.setStations x).mail = s.mail := rfl
@[simp] theorem State.setStations_pending (x : List Station) : (s.setStations x).pending = s.pending := rfl

@[simp] theorem State.setMoves_store (x : List (Option MoveRecord)) : (s.setMoves x).store = s.store := rfl
@[simp] theorem State.setMoves_demand (x : List (Option MoveRecord)) : (s.setMoves x).demand = s.demand := rfl
@[simp] theorem State.setMoves_weather (x : List (Option MoveRecord)) : (s.setMoves x).weather = s.weather := rfl
@[simp] theorem State.setMoves_results (x : List (Option MoveRecord)) : (s.setMoves x).results = s.results := rfl
@[simp] theorem State.setMoves_fire (x : List (Option MoveRecord)) : (s.setMoves x).fire = s.fire := rfl
@[simp] theorem State.setMoves_stations (x : List (Option MoveRecord)) : (s.setMoves x).stations = s.stations := rfl
@[simp] theorem State.setMoves_moves (x : List (Option MoveRecord)) : (s.setMoves x).moves = x := rfl
@[simp] theorem State.setMoves_bus (x : List (Option MoveRecord)) : (s.setMoves x).bus = s.bus := rfl
@[simp] theorem State.setMoves_link (x : List (Option MoveRecord)) : (s.setMoves x).link = s.link := rfl
@[simp] theorem State.setMoves_conditions (x : List (Option MoveRecord)) : (s.setMoves x).conditions = s.conditions := rfl
@[simp] theorem State.setMoves_mail (x : List (Option MoveRecord)) : (s.setMoves x).mail = s.mail := rfl
@[simp] theorem State.setMoves_pending (x : List (Option MoveRecord)) : (s.setMoves x).pending = s.pending := rfl

@[simp] theorem State.setBus_store (x : Bus) : (s.setBus x).store = s.store := rfl
@[simp] theorem State.setBus_demand (x : Bus) : (s.setBus x).demand = s.demand := rfl
@[simp] theorem State.setBus_weather (x : Bus) : (s.setBus x).weather = s.weather := rfl
@[simp] theorem State.setBus_results (x : Bus) : (s.setBus x).results = s.results := rfl
@[simp] theorem State.setBus_fire (x : Bus) : (s.setBus x).fire = s.fire := rfl
@[simp] theorem State.setBus_stations (x : Bus) : (s.setBus x).stations = s.stations := rfl
@[simp] theorem State.setBus_moves (x : Bus) : (s.setBus x).moves = s.moves := rfl
@[simp] theorem State.setBus_bus (x : Bus) : (s.setBus x).bus = x := rfl
@[simp] theorem State.setBus_link (x : Bus) : (s.setBus x).link = s.link := rfl
@[simp] theorem State.setBus_conditions (x : Bus) : (s.setBus x).conditions = s.conditions := rfl
@[simp] theorem State.setBus_mail (x : Bus) : (s.setBus x).mail = s.mail := rfl
@[simp] theorem State.setBus_pending (x : Bus) : (s.setBus x).pending = s.pending := rfl

@[simp] theorem State.setLink_store (x : Link) : (s.setLink x).store = s.store := rfl
@[simp] theorem State.setLink_demand (x : Link) : (s.setLink x).demand = s.demand := rfl
@[simp] theorem State.setLink_weather (x : Link) : (s.setLink x).weather = s.weather := rfl
@[simp] theorem State.setLink_results (x : Link) : (s.setLink x).results = s.results := rfl
@[simp] theorem State.setLink_fire (x : Link) : (s.setLink x).fire = s.fire := rfl
@[simp] theorem State.setLink_stations (x : Link) : (s.setLink x).stations = s.stations := rfl
@[simp] theorem State.setLink_moves (x : Link) : (s.setLink x).moves = s.moves := rfl
@[simp] theorem State.setLink_bus (x : Link) : (s.setLink x).bus = s.bus := rfl
@[simp] theorem State.setLink_link (x : Link) : (s.setLink x).link = x := rfl
@[simp] theorem State.setLink_conditions (x : Link) : (s.setLink x).conditions = s.conditions := rfl
@[simp] theorem State.setLink_mail (x : Link) : (s.setLink x).mail = s.mail := rfl
@[simp] theorem State.setLink_pending (x : Link) : (s.setLink x).pending = s.pending := rfl

@[simp] theorem State.setConditions_store (x : Conditions) : (s.setConditions x).store = s.store := rfl
@[simp] theorem State.setConditions_demand (x : Conditions) : (s.setConditions x).demand = s.demand := rfl
@[simp] theorem State.setConditions_weather (x : Conditions) : (s.setConditions x).weather = s.weather := rfl
@[simp] theorem State.setConditions_results (x : Conditions) : (s.setConditions x).results = s.results := rfl
@[simp] theorem State.setConditions_fire (x : Conditions) : (s.setConditions x).fire = s.fire := rfl
@[simp] theorem State.setConditions_stations (x : Conditions) : (s.setConditions x).stations = s.stations := rfl
@[simp] theorem State.setConditions_moves (x : Conditions) : (s.setConditions x).moves = s.moves := rfl
@[simp] theorem State.setConditions_bus (x : Conditions) : (s.setConditions x).bus = s.bus := rfl
@[simp] theorem State.setConditions_link (x : Conditions) : (s.setConditions x).link = s.link := rfl
@[simp] theorem State.setConditions_conditions (x : Conditions) : (s.setConditions x).conditions = x := rfl
@[simp] theorem State.setConditions_mail (x : Conditions) : (s.setConditions x).mail = s.mail := rfl
@[simp] theorem State.setConditions_pending (x : Conditions) : (s.setConditions x).pending = s.pending := rfl

@[simp] theorem State.setMail_store (x : Mail) : (s.setMail x).store = s.store := rfl
@[simp] theorem State.setMail_demand (x : Mail) : (s.setMail x).demand = s.demand := rfl
@[simp] theorem State.setMail_weather (x : Mail) : (s.setMail x).weather = s.weather := rfl
@[simp] theorem State.setMail_results (x : Mail) : (s.setMail x).results = s.results := rfl
@[simp] theorem State.setMail_fire (x : Mail) : (s.setMail x).fire = s.fire := rfl
@[simp] theorem State.setMail_stations (x : Mail) : (s.setMail x).stations = s.stations := rfl
@[simp] theorem State.setMail_moves (x : Mail) : (s.setMail x).moves = s.moves := rfl
@[simp] theorem State.setMail_bus (x : Mail) : (s.setMail x).bus = s.bus := rfl
@[simp] theorem State.setMail_link (x : Mail) : (s.setMail x).link = s.link := rfl
@[simp] theorem State.setMail_conditions (x : Mail) : (s.setMail x).conditions = s.conditions := rfl
@[simp] theorem State.setMail_mail (x : Mail) : (s.setMail x).mail = x := rfl
@[simp] theorem State.setMail_pending (x : Mail) : (s.setMail x).pending = s.pending := rfl

@[simp] theorem State.setPending_store (x : List Instr) : (s.setPending x).store = s.store := rfl
@[simp] theorem State.setPending_demand (x : List Instr) : (s.setPending x).demand = s.demand := rfl
@[simp] theorem State.setPending_weather (x : List Instr) : (s.setPending x).weather = s.weather := rfl
@[simp] theorem State.setPending_results (x : List Instr) : (s.setPending x).results = s.results := rfl
@[simp] theorem State.setPending_fire (x : List Instr) : (s.setPending x).fire = s.fire := rfl
@[simp] theorem State.setPending_stations (x : List Instr) : (s.setPending x).stations = s.stations := rfl
@[simp] theorem State.setPending_moves (x : List Instr) : (s.setPending x).moves = s.moves := rfl
@[simp] theorem State.setPending_bus (x : List Instr) : (s.setPending x).bus = s.bus := rfl
@[simp] theorem State.setPending_link (x : List Instr) : (s.setPending x).link = s.link := rfl
@[simp] theorem State.setPending_conditions (x : List Instr) : (s.setPending x).conditions = s.conditions := rfl
@[simp] theorem State.setPending_mail (x : List Instr) : (s.setPending x).mail = s.mail := rfl
@[simp] theorem State.setPending_pending (x : List Instr) : (s.setPending x).pending = x := rfl

@[simp] theorem State.setZone_store (z : Nat) (r : Zone) : (s.setZone z r).store = s.store := rfl
@[simp] theorem State.setZone_demand (z : Nat) (r : Zone) : (s.setZone z r).demand = s.demand := rfl
@[simp] theorem State.setZone_weather (z : Nat) (r : Zone) :
    (s.setZone z r).weather = s.weather := rfl
@[simp] theorem State.setZone_results (z : Nat) (r : Zone) :
    (s.setZone z r).results = s.results := rfl
@[simp] theorem State.setZone_fire (z : Nat) (r : Zone) :
    (s.setZone z r).fire = { s.fire with zones := setNth s.fire.zones z r } := rfl
@[simp] theorem State.setZone_stations (z : Nat) (r : Zone) :
    (s.setZone z r).stations = s.stations := rfl
@[simp] theorem State.setZone_moves (z : Nat) (r : Zone) : (s.setZone z r).moves = s.moves := rfl
@[simp] theorem State.setZone_bus (z : Nat) (r : Zone) : (s.setZone z r).bus = s.bus := rfl
@[simp] theorem State.setZone_link (z : Nat) (r : Zone) : (s.setZone z r).link = s.link := rfl
@[simp] theorem State.setZone_conditions (z : Nat) (r : Zone) :
    (s.setZone z r).conditions = s.conditions := rfl
@[simp] theorem State.setZone_mail (z : Nat) (r : Zone) : (s.setZone z r).mail = s.mail := rfl
@[simp] theorem State.setZone_pending (z : Nat) (r : Zone) :
    (s.setZone z r).pending = s.pending := rfl

@[simp] theorem State.setStation_store (n : Nat) (r : Station) :
    (s.setStation n r).store = s.store := rfl
@[simp] theorem State.setStation_demand (n : Nat) (r : Station) :
    (s.setStation n r).demand = s.demand := rfl
@[simp] theorem State.setStation_weather (n : Nat) (r : Station) :
    (s.setStation n r).weather = s.weather := rfl
@[simp] theorem State.setStation_results (n : Nat) (r : Station) :
    (s.setStation n r).results = s.results := rfl
@[simp] theorem State.setStation_fire (n : Nat) (r : Station) :
    (s.setStation n r).fire = s.fire := rfl
@[simp] theorem State.setStation_stations (n : Nat) (r : Station) :
    (s.setStation n r).stations = setNth s.stations n r := rfl
@[simp] theorem State.setStation_moves (n : Nat) (r : Station) :
    (s.setStation n r).moves = s.moves := rfl
@[simp] theorem State.setStation_bus (n : Nat) (r : Station) : (s.setStation n r).bus = s.bus := rfl
@[simp] theorem State.setStation_link (n : Nat) (r : Station) :
    (s.setStation n r).link = s.link := rfl
@[simp] theorem State.setStation_conditions (n : Nat) (r : Station) :
    (s.setStation n r).conditions = s.conditions := rfl
@[simp] theorem State.setStation_mail (n : Nat) (r : Station) :
    (s.setStation n r).mail = s.mail := rfl
@[simp] theorem State.setStation_pending (n : Nat) (r : Station) :
    (s.setStation n r).pending = s.pending := rfl

@[simp] theorem State.setMove_store (n : Nat) (r : MoveRecord) :
    (s.setMove n r).store = s.store := rfl
@[simp] theorem State.setMove_demand (n : Nat) (r : MoveRecord) :
    (s.setMove n r).demand = s.demand := rfl
@[simp] theorem State.setMove_weather (n : Nat) (r : MoveRecord) :
    (s.setMove n r).weather = s.weather := rfl
@[simp] theorem State.setMove_results (n : Nat) (r : MoveRecord) :
    (s.setMove n r).results = s.results := rfl
@[simp] theorem State.setMove_fire (n : Nat) (r : MoveRecord) : (s.setMove n r).fire = s.fire := rfl
@[simp] theorem State.setMove_stations (n : Nat) (r : MoveRecord) :
    (s.setMove n r).stations = s.stations := rfl
@[simp] theorem State.setMove_moves (n : Nat) (r : MoveRecord) :
    (s.setMove n r).moves = setNth s.moves n (some r) := rfl
@[simp] theorem State.setMove_bus (n : Nat) (r : MoveRecord) : (s.setMove n r).bus = s.bus := rfl
@[simp] theorem State.setMove_link (n : Nat) (r : MoveRecord) : (s.setMove n r).link = s.link := rfl
@[simp] theorem State.setMove_conditions (n : Nat) (r : MoveRecord) :
    (s.setMove n r).conditions = s.conditions := rfl
@[simp] theorem State.setMove_mail (n : Nat) (r : MoveRecord) : (s.setMove n r).mail = s.mail := rfl
@[simp] theorem State.setMove_pending (n : Nat) (r : MoveRecord) :
    (s.setMove n r).pending = s.pending := rfl

@[simp] theorem State.setNode_store (n : Nat) (r : NodeRecord) :
    (s.setNode n r).store = s.store := rfl
@[simp] theorem State.setNode_demand (n : Nat) (r : NodeRecord) :
    (s.setNode n r).demand = s.demand := rfl
@[simp] theorem State.setNode_weather (n : Nat) (r : NodeRecord) :
    (s.setNode n r).weather = s.weather := rfl
@[simp] theorem State.setNode_results (n : Nat) (r : NodeRecord) :
    (s.setNode n r).results = s.results := rfl
@[simp] theorem State.setNode_fire (n : Nat) (r : NodeRecord) : (s.setNode n r).fire = s.fire := rfl
@[simp] theorem State.setNode_stations (n : Nat) (r : NodeRecord) :
    (s.setNode n r).stations = s.stations := rfl
@[simp] theorem State.setNode_moves (n : Nat) (r : NodeRecord) :
    (s.setNode n r).moves = s.moves := rfl
@[simp] theorem State.setNode_bus (n : Nat) (r : NodeRecord) :
    (s.setNode n r).bus = { s.bus with nodes := setNth s.bus.nodes n (some r) } := rfl
@[simp] theorem State.setNode_link (n : Nat) (r : NodeRecord) : (s.setNode n r).link = s.link := rfl
@[simp] theorem State.setNode_conditions (n : Nat) (r : NodeRecord) :
    (s.setNode n r).conditions = s.conditions := rfl
@[simp] theorem State.setNode_mail (n : Nat) (r : NodeRecord) : (s.setNode n r).mail = s.mail := rfl
@[simp] theorem State.setNode_pending (n : Nat) (r : NodeRecord) :
    (s.setNode n r).pending = s.pending := rfl

@[simp] theorem State.setResult_store (n : Nat) (r : OpeningResult) :
    (s.setResult n r).store = s.store := rfl
@[simp] theorem State.setResult_demand (n : Nat) (r : OpeningResult) :
    (s.setResult n r).demand = s.demand := rfl
@[simp] theorem State.setResult_weather (n : Nat) (r : OpeningResult) :
    (s.setResult n r).weather = s.weather := rfl
@[simp] theorem State.setResult_results (n : Nat) (r : OpeningResult) :
    (s.setResult n r).results = setNth s.results n (some r) := rfl
@[simp] theorem State.setResult_fire (n : Nat) (r : OpeningResult) :
    (s.setResult n r).fire = s.fire := rfl
@[simp] theorem State.setResult_stations (n : Nat) (r : OpeningResult) :
    (s.setResult n r).stations = s.stations := rfl
@[simp] theorem State.setResult_moves (n : Nat) (r : OpeningResult) :
    (s.setResult n r).moves = s.moves := rfl
@[simp] theorem State.setResult_bus (n : Nat) (r : OpeningResult) :
    (s.setResult n r).bus = s.bus := rfl
@[simp] theorem State.setResult_link (n : Nat) (r : OpeningResult) :
    (s.setResult n r).link = s.link := rfl
@[simp] theorem State.setResult_conditions (n : Nat) (r : OpeningResult) :
    (s.setResult n r).conditions = s.conditions := rfl
@[simp] theorem State.setResult_mail (n : Nat) (r : OpeningResult) :
    (s.setResult n r).mail = s.mail := rfl
@[simp] theorem State.setResult_pending (n : Nat) (r : OpeningResult) :
    (s.setResult n r).pending = s.pending := rfl

@[simp] theorem State.tellWeather_store (ws : List WeatherTold) :
    (s.tellWeather ws).store = s.store := rfl
@[simp] theorem State.tellWeather_demand (ws : List WeatherTold) :
    (s.tellWeather ws).demand = s.demand := rfl
@[simp] theorem State.tellWeather_weather (ws : List WeatherTold) :
    (s.tellWeather ws).weather = s.weather := rfl
@[simp] theorem State.tellWeather_results (ws : List WeatherTold) :
    (s.tellWeather ws).results = s.results := rfl
@[simp] theorem State.tellWeather_fire (ws : List WeatherTold) :
    (s.tellWeather ws).fire = s.fire := rfl
@[simp] theorem State.tellWeather_stations (ws : List WeatherTold) :
    (s.tellWeather ws).stations = s.stations := rfl
@[simp] theorem State.tellWeather_moves (ws : List WeatherTold) :
    (s.tellWeather ws).moves = s.moves := rfl
@[simp] theorem State.tellWeather_bus (ws : List WeatherTold) :
    (s.tellWeather ws).bus = s.bus := rfl
@[simp] theorem State.tellWeather_link (ws : List WeatherTold) :
    (s.tellWeather ws).link = s.link := rfl
@[simp] theorem State.tellWeather_conditions (ws : List WeatherTold) :
    (s.tellWeather ws).conditions = s.conditions := rfl
@[simp] theorem State.tellWeather_mail (ws : List WeatherTold) :
    (s.tellWeather ws).mail = { s.mail with weather := s.mail.weather ++ ws } := rfl
@[simp] theorem State.tellWeather_pending (ws : List WeatherTold) :
    (s.tellWeather ws).pending = s.pending := rfl

@[simp] theorem State.tellTarget_store (t : TargetTold) : (s.tellTarget t).store = s.store := rfl
@[simp] theorem State.tellTarget_demand (t : TargetTold) : (s.tellTarget t).demand = s.demand := rfl
@[simp] theorem State.tellTarget_weather (t : TargetTold) :
    (s.tellTarget t).weather = s.weather := rfl
@[simp] theorem State.tellTarget_results (t : TargetTold) :
    (s.tellTarget t).results = s.results := rfl
@[simp] theorem State.tellTarget_fire (t : TargetTold) : (s.tellTarget t).fire = s.fire := rfl
@[simp] theorem State.tellTarget_stations (t : TargetTold) :
    (s.tellTarget t).stations = s.stations := rfl
@[simp] theorem State.tellTarget_moves (t : TargetTold) : (s.tellTarget t).moves = s.moves := rfl
@[simp] theorem State.tellTarget_bus (t : TargetTold) : (s.tellTarget t).bus = s.bus := rfl
@[simp] theorem State.tellTarget_link (t : TargetTold) : (s.tellTarget t).link = s.link := rfl
@[simp] theorem State.tellTarget_conditions (t : TargetTold) :
    (s.tellTarget t).conditions = s.conditions := rfl
@[simp] theorem State.tellTarget_mail (t : TargetTold) :
    (s.tellTarget t).mail = { s.mail with targets := s.mail.targets ++ [t] } := rfl
@[simp] theorem State.tellTarget_pending (t : TargetTold) :
    (s.tellTarget t).pending = s.pending := rfl

@[simp] theorem State.tellReply_store (r : ReplyTold) : (s.tellReply r).store = s.store := rfl
@[simp] theorem State.tellReply_demand (r : ReplyTold) : (s.tellReply r).demand = s.demand := rfl
@[simp] theorem State.tellReply_weather (r : ReplyTold) : (s.tellReply r).weather = s.weather := rfl
@[simp] theorem State.tellReply_results (r : ReplyTold) : (s.tellReply r).results = s.results := rfl
@[simp] theorem State.tellReply_fire (r : ReplyTold) : (s.tellReply r).fire = s.fire := rfl
@[simp] theorem State.tellReply_stations (r : ReplyTold) :
    (s.tellReply r).stations = s.stations := rfl
@[simp] theorem State.tellReply_moves (r : ReplyTold) : (s.tellReply r).moves = s.moves := rfl
@[simp] theorem State.tellReply_bus (r : ReplyTold) : (s.tellReply r).bus = s.bus := rfl
@[simp] theorem State.tellReply_link (r : ReplyTold) : (s.tellReply r).link = s.link := rfl
@[simp] theorem State.tellReply_conditions (r : ReplyTold) :
    (s.tellReply r).conditions = s.conditions := rfl
@[simp] theorem State.tellReply_mail (r : ReplyTold) :
    (s.tellReply r).mail = { s.mail with replies := s.mail.replies ++ [r] } := rfl
@[simp] theorem State.tellReply_pending (r : ReplyTold) : (s.tellReply r).pending = s.pending := rfl

@[simp] theorem State.tellOutcomes_store (os : List OutcomeTold) :
    (s.tellOutcomes os).store = s.store := rfl
@[simp] theorem State.tellOutcomes_demand (os : List OutcomeTold) :
    (s.tellOutcomes os).demand = s.demand := rfl
@[simp] theorem State.tellOutcomes_weather (os : List OutcomeTold) :
    (s.tellOutcomes os).weather = s.weather := rfl
@[simp] theorem State.tellOutcomes_results (os : List OutcomeTold) :
    (s.tellOutcomes os).results = s.results := rfl
@[simp] theorem State.tellOutcomes_fire (os : List OutcomeTold) :
    (s.tellOutcomes os).fire = s.fire := rfl
@[simp] theorem State.tellOutcomes_stations (os : List OutcomeTold) :
    (s.tellOutcomes os).stations = s.stations := rfl
@[simp] theorem State.tellOutcomes_moves (os : List OutcomeTold) :
    (s.tellOutcomes os).moves = s.moves := rfl
@[simp] theorem State.tellOutcomes_bus (os : List OutcomeTold) :
    (s.tellOutcomes os).bus = s.bus := rfl
@[simp] theorem State.tellOutcomes_link (os : List OutcomeTold) :
    (s.tellOutcomes os).link = s.link := rfl
@[simp] theorem State.tellOutcomes_conditions (os : List OutcomeTold) :
    (s.tellOutcomes os).conditions = s.conditions := rfl
@[simp] theorem State.tellOutcomes_mail (os : List OutcomeTold) :
    (s.tellOutcomes os).mail = { s.mail with outcomes := s.mail.outcomes ++ os } := rfl
@[simp] theorem State.tellOutcomes_pending (os : List OutcomeTold) :
    (s.tellOutcomes os).pending = s.pending := rfl

@[simp] theorem State.tellLost_store (n : Nat) : (s.tellLost n).store = s.store := rfl
@[simp] theorem State.tellLost_demand (n : Nat) : (s.tellLost n).demand = s.demand := rfl
@[simp] theorem State.tellLost_weather (n : Nat) : (s.tellLost n).weather = s.weather := rfl
@[simp] theorem State.tellLost_results (n : Nat) : (s.tellLost n).results = s.results := rfl
@[simp] theorem State.tellLost_fire (n : Nat) : (s.tellLost n).fire = s.fire := rfl
@[simp] theorem State.tellLost_stations (n : Nat) : (s.tellLost n).stations = s.stations := rfl
@[simp] theorem State.tellLost_moves (n : Nat) : (s.tellLost n).moves = s.moves := rfl
@[simp] theorem State.tellLost_bus (n : Nat) : (s.tellLost n).bus = s.bus := rfl
@[simp] theorem State.tellLost_link (n : Nat) : (s.tellLost n).link = s.link := rfl
@[simp] theorem State.tellLost_conditions (n : Nat) :
    (s.tellLost n).conditions = s.conditions := rfl
@[simp] theorem State.tellLost_mail (n : Nat) :
    (s.tellLost n).mail = { s.mail with lost := s.mail.lost ++ [n] } := rfl
@[simp] theorem State.tellLost_pending (n : Nat) : (s.tellLost n).pending = s.pending := rfl

@[simp] theorem State.report_store (w : Owner) (ls : List (Condition × Bool)) (es : List Condition) :
    (s.report w ls es).store = s.store := by
  unfold State.report; split <;> rfl
@[simp] theorem State.report_demand (w : Owner) (ls : List (Condition × Bool)) (es : List Condition) :
    (s.report w ls es).demand = s.demand := by
  unfold State.report; split <;> rfl
@[simp] theorem State.report_weather (w : Owner) (ls : List (Condition × Bool)) (es : List Condition) :
    (s.report w ls es).weather = s.weather := by
  unfold State.report; split <;> rfl
@[simp] theorem State.report_results (w : Owner) (ls : List (Condition × Bool)) (es : List Condition) :
    (s.report w ls es).results = s.results := by
  unfold State.report; split <;> rfl
@[simp] theorem State.report_fire (w : Owner) (ls : List (Condition × Bool)) (es : List Condition) :
    (s.report w ls es).fire = s.fire := by
  unfold State.report; split <;> rfl
@[simp] theorem State.report_stations (w : Owner) (ls : List (Condition × Bool)) (es : List Condition) :
    (s.report w ls es).stations = s.stations := by
  unfold State.report; split <;> rfl
@[simp] theorem State.report_moves (w : Owner) (ls : List (Condition × Bool)) (es : List Condition) :
    (s.report w ls es).moves = s.moves := by
  unfold State.report; split <;> rfl
@[simp] theorem State.report_bus (w : Owner) (ls : List (Condition × Bool)) (es : List Condition) :
    (s.report w ls es).bus = s.bus := by
  unfold State.report; split <;> rfl
@[simp] theorem State.report_link (w : Owner) (ls : List (Condition × Bool)) (es : List Condition) :
    (s.report w ls es).link = s.link := by
  unfold State.report; split <;> rfl
@[simp] theorem State.report_conditions (w : Owner) (ls : List (Condition × Bool)) (es : List Condition) :
    (s.report w ls es).conditions = s.conditions := by
  unfold State.report; split <;> rfl
@[simp] theorem State.report_pending (w : Owner) (ls : List (Condition × Bool)) (es : List Condition) :
    (s.report w ls es).pending = s.pending := by
  unfold State.report; split <;> rfl

@[simp] theorem State.tellHeads_store (ns : List Nat) :
    (s.tellHeads ns).store = s.store := by
  unfold State.tellHeads; split <;> rfl
@[simp] theorem State.tellHeads_demand (ns : List Nat) :
    (s.tellHeads ns).demand = s.demand := by
  unfold State.tellHeads; split <;> rfl
@[simp] theorem State.tellHeads_weather (ns : List Nat) :
    (s.tellHeads ns).weather = s.weather := by
  unfold State.tellHeads; split <;> rfl
@[simp] theorem State.tellHeads_results (ns : List Nat) :
    (s.tellHeads ns).results = s.results := by
  unfold State.tellHeads; split <;> rfl
@[simp] theorem State.tellHeads_fire (ns : List Nat) :
    (s.tellHeads ns).fire = s.fire := by
  unfold State.tellHeads; split <;> rfl
@[simp] theorem State.tellHeads_stations (ns : List Nat) :
    (s.tellHeads ns).stations = s.stations := by
  unfold State.tellHeads; split <;> rfl
@[simp] theorem State.tellHeads_moves (ns : List Nat) :
    (s.tellHeads ns).moves = s.moves := by
  unfold State.tellHeads; split <;> rfl
@[simp] theorem State.tellHeads_bus (ns : List Nat) :
    (s.tellHeads ns).bus = s.bus := by
  unfold State.tellHeads; split <;> rfl
@[simp] theorem State.tellHeads_link (ns : List Nat) :
    (s.tellHeads ns).link = s.link := by
  unfold State.tellHeads; split <;> rfl
@[simp] theorem State.tellHeads_conditions (ns : List Nat) :
    (s.tellHeads ns).conditions = s.conditions := by
  unfold State.tellHeads; split <;> rfl
@[simp] theorem State.tellHeads_pending (ns : List Nat) :
    (s.tellHeads ns).pending = s.pending := by
  unfold State.tellHeads; split <;> rfl

@[simp] theorem State.tellFreezes_store (ns : List Nat) : (s.tellFreezes ns).store = s.store := rfl
@[simp] theorem State.tellFreezes_demand (ns : List Nat) : (s.tellFreezes ns).demand = s.demand := rfl
@[simp] theorem State.tellFreezes_weather (ns : List Nat) : (s.tellFreezes ns).weather = s.weather := rfl
@[simp] theorem State.tellFreezes_results (ns : List Nat) : (s.tellFreezes ns).results = s.results := rfl
@[simp] theorem State.tellFreezes_fire (ns : List Nat) : (s.tellFreezes ns).fire = s.fire := rfl
@[simp] theorem State.tellFreezes_stations (ns : List Nat) : (s.tellFreezes ns).stations = s.stations := rfl
@[simp] theorem State.tellFreezes_moves (ns : List Nat) : (s.tellFreezes ns).moves = s.moves := rfl
@[simp] theorem State.tellFreezes_bus (ns : List Nat) : (s.tellFreezes ns).bus = s.bus := rfl
@[simp] theorem State.tellFreezes_link (ns : List Nat) : (s.tellFreezes ns).link = s.link := rfl
@[simp] theorem State.tellFreezes_conditions (ns : List Nat) : (s.tellFreezes ns).conditions = s.conditions := rfl
@[simp] theorem State.tellFreezes_pending (ns : List Nat) : (s.tellFreezes ns).pending = s.pending := rfl

@[simp] theorem State.freezeTaken_store (n : Nat) : (s.freezeTaken n).store = s.store := rfl
@[simp] theorem State.freezeTaken_demand (n : Nat) : (s.freezeTaken n).demand = s.demand := rfl
@[simp] theorem State.freezeTaken_weather (n : Nat) : (s.freezeTaken n).weather = s.weather := rfl
@[simp] theorem State.freezeTaken_results (n : Nat) : (s.freezeTaken n).results = s.results := rfl
@[simp] theorem State.freezeTaken_fire (n : Nat) : (s.freezeTaken n).fire = s.fire := rfl
@[simp] theorem State.freezeTaken_stations (n : Nat) : (s.freezeTaken n).stations = s.stations := rfl
@[simp] theorem State.freezeTaken_moves (n : Nat) : (s.freezeTaken n).moves = s.moves := rfl
@[simp] theorem State.freezeTaken_bus (n : Nat) : (s.freezeTaken n).bus = s.bus := rfl
@[simp] theorem State.freezeTaken_link (n : Nat) : (s.freezeTaken n).link = s.link := rfl
@[simp] theorem State.freezeTaken_conditions (n : Nat) : (s.freezeTaken n).conditions = s.conditions := rfl
@[simp] theorem State.freezeTaken_pending (n : Nat) : (s.freezeTaken n).pending = s.pending := rfl

@[simp] theorem State.tellSteps_store (z : Nat) (xs : List ScenarioStep) :
    (s.tellSteps z xs).store = s.store := rfl
@[simp] theorem State.tellSteps_demand (z : Nat) (xs : List ScenarioStep) :
    (s.tellSteps z xs).demand = s.demand := rfl
@[simp] theorem State.tellSteps_weather (z : Nat) (xs : List ScenarioStep) :
    (s.tellSteps z xs).weather = s.weather := rfl
@[simp] theorem State.tellSteps_results (z : Nat) (xs : List ScenarioStep) :
    (s.tellSteps z xs).results = s.results := rfl
@[simp] theorem State.tellSteps_fire (z : Nat) (xs : List ScenarioStep) :
    (s.tellSteps z xs).fire = s.fire := rfl
@[simp] theorem State.tellSteps_stations (z : Nat) (xs : List ScenarioStep) :
    (s.tellSteps z xs).stations = s.stations := rfl
@[simp] theorem State.tellSteps_moves (z : Nat) (xs : List ScenarioStep) :
    (s.tellSteps z xs).moves = s.moves := rfl
@[simp] theorem State.tellSteps_bus (z : Nat) (xs : List ScenarioStep) :
    (s.tellSteps z xs).bus = s.bus := rfl
@[simp] theorem State.tellSteps_link (z : Nat) (xs : List ScenarioStep) :
    (s.tellSteps z xs).link = s.link := rfl
@[simp] theorem State.tellSteps_conditions (z : Nat) (xs : List ScenarioStep) :
    (s.tellSteps z xs).conditions = s.conditions := rfl
@[simp] theorem State.tellSteps_pending (z : Nat) (xs : List ScenarioStep) :
    (s.tellSteps z xs).pending = s.pending := rfl

/-! ### Items of a numbered table -/

theorem nth_setNth_ne {α : Type} (l : List α) (n k : Nat) (a : α) (h : k ≠ n) :
    nth (setNth l n a) k = nth l k := by
  cases n <;> cases k <;> simp_all [nth, setNth]
  grind

theorem nth_setNth_self {α : Type} (l : List α) (n : Nat) (a b : α) (h : nth l n = some b) :
    nth (setNth l n a) n = some a := by
  cases n with
  | zero => simp [nth] at h
  | succ k =>
    simp only [nth, setNth] at h ⊢
    obtain ⟨hk, -⟩ := List.getElem?_eq_some_iff.mp h
    simp [hk]

@[simp] theorem length_setNth {α : Type} (l : List α) (n : Nat) (a : α) :
    (setNth l n a).length = l.length := by
  cases n <;> simp [setNth]

theorem nth_isSome {α : Type} (l : List α) (n : Nat) (h1 : 1 ≤ n) (h2 : n ≤ l.length) :
    ∃ a, nth l n = some a := by
  cases n with
  | zero => omega
  | succ k => exact ⟨l[k], by simp [nth]⟩

theorem nthSome_setNth_ne {α : Type} (l : List (Option α)) (n k : Nat) (a : Option α)
    (h : k ≠ n) : nthSome (setNth l n a) k = nthSome l k := by
  simp [nthSome, nth_setNth_ne _ _ _ _ h]

theorem nthSome_setNth_self {α : Type} (l : List (Option α)) (n : Nat) (a : Option α)
    (b : Option α) (h : nth l n = some b) : nthSome (setNth l n a) n = a := by
  simp only [nthSome, nth_setNth_self _ _ _ _ h]
  cases a <;> rfl

theorem nth_of_nthSome {α : Type} {l : List (Option α)} {n : Nat} {a : α}
    (h : nthSome l n = some a) : nth l n = some (some a) := by
  unfold nthSome at h
  split at h <;> simp_all

/-! ### Counting living records -/

/-- Counting over the places of a list is counting over the list. -/
theorem countP_places {α : Type} (q : α → Bool) (l : List α) :
    ((List.range l.length).countP fun k =>
      match l[k]? with
      | some a => q a
      | none => false) = l.countP q := by
  induction l with
  | nil => rfl
  | cons a l ih =>
    rw [List.length_cons, List.range_succ_eq_map, List.countP_cons, List.countP_map, List.countP_cons,
      ← ih]
    rfl

/-- What READ_GROUP counts over the slots IN USE are the living records for which `p` holds. -/
theorem usedSlots_countP (s : State) (p : DemandRecord → Bool) :
    (s.demand.usedSlots.countP fun k =>
      match s.demand.inSlot k with
      | some r => p r
      | none => false) = living s p := by
  rw [DemandTable.usedSlots, List.countP_filter, living,
    ← countP_places (fun sl : Slot => sl.record.any p)]
  refine List.countP_congr fun k _ => ?_
  unfold DemandTable.inSlot
  cases s.demand.slots[k]? with
  | none => simp
  | some sl =>
    obtain ⟨gen, record⟩ := sl
    cases record <;> simp

/-- The number of records of a source. -/
theorem slotsOf_length (s : State) (src : Source) :
    (s.demand.slotsOf src).length = living s fun r => r.source == src := by
  rw [DemandTable.slotsOf, ← List.countP_eq_length_filter]
  exact usedSlots_countP s fun r => r.source == src

end Sys2Proof.Machine
end

