-- ==== Sys2Proof/Laws/Frames.lean ====
section
/-! SUPPORT. For each shared operation, the blocks it can change and no others: one lemma each, which
the frame of a command chains instead of unfolding the operation. -/
namespace Sys2Proof.Machine

/-! ### Reasoning about frames -/

theorem sameOutside.refl (bs : List Block) (s : State) : sameOutside bs s s := by
  intro b _; cases b <;> rfl

theorem sameOutside.trans {bs : List Block} {s t u : State} (h1 : sameOutside bs s t)
    (h2 : sameOutside bs t u) : sameOutside bs s u := by
  intro b hb
  have a1 := h1 b hb
  have a2 := h2 b hb
  cases b <;> exact Eq.trans a2 a1

theorem sameOutside.mono {bs cs : List Block} {s t : State} (h : sameOutside bs s t)
    (hsub : ∀ b ∈ bs, b ∈ cs) : sameOutside cs s t :=
  fun b hb => h b fun hin => hb (hsub b hin)

/-- A chain of steps over a list keeps what each step keeps. -/
theorem sameOutside.foldl {α : Type} {bs : List Block} (f : State → α → State)
    (hf : ∀ s a, sameOutside bs s (f s a)) (l : List α) (s : State) :
    sameOutside bs s (l.foldl f s) := by
  induction l generalizing s with
  | nil => exact .refl _ _
  | cons a l ih => exact (hf s a).trans (ih _)

/-- The block itself, for a state built by a replacement. -/
theorem sameOutside.of_agrees {bs : List Block} {s t : State}
    (h1 : .store ∈ bs ∨ t.store = s.store) (h2 : .demand ∈ bs ∨ t.demand = s.demand)
    (h3 : .weather ∈ bs ∨ t.weather = s.weather) (h4 : .results ∈ bs ∨ t.results = s.results)
    (h5 : .fire ∈ bs ∨ t.fire = s.fire) (h6 : .stations ∈ bs ∨ t.stations = s.stations)
    (h7 : .moves ∈ bs ∨ t.moves = s.moves) (h8 : .bus ∈ bs ∨ t.bus = s.bus)
    (h9 : .link ∈ bs ∨ t.link = s.link) (h10 : .conditions ∈ bs ∨ t.conditions = s.conditions)
    (h11 : .mail ∈ bs ∨ t.mail = s.mail) (h12 : .pending ∈ bs ∨ t.pending = s.pending) :
    sameOutside bs s t := by
  intro b hb
  cases b <;> simp only [Block.agrees] <;> first
    | exact h1.resolve_left hb
    | exact h2.resolve_left hb
    | exact h3.resolve_left hb
    | exact h4.resolve_left hb
    | exact h5.resolve_left hb
    | exact h6.resolve_left hb
    | exact h7.resolve_left hb
    | exact h8.resolve_left hb
    | exact h9.resolve_left hb
    | exact h10.resolve_left hb
    | exact h11.resolve_left hb
    | exact h12.resolve_left hb

/-! ### Replacements and told events -/

theorem setStore_frame (s : State) (x : Store) : sameOutside [.store] s (s.setStore x) := by
  apply sameOutside.of_agrees <;> simp
theorem setDemand_frame (s : State) (x : DemandTable) : sameOutside [.demand] s (s.setDemand x) := by
  apply sameOutside.of_agrees <;> simp
theorem setWeather_frame (s : State) (x : Weather) : sameOutside [.weather] s (s.setWeather x) := by
  apply sameOutside.of_agrees <;> simp
theorem setResults_frame (s : State) (x : List (Option OpeningResult)) :
    sameOutside [.results] s (s.setResults x) := by
  apply sameOutside.of_agrees <;> simp
theorem setFire_frame (s : State) (x : FireUnit) : sameOutside [.fire] s (s.setFire x) := by
  apply sameOutside.of_agrees <;> simp
theorem setStations_frame (s : State) (x : List Station) :
    sameOutside [.stations] s (s.setStations x) := by
  apply sameOutside.of_agrees <;> simp
theorem setMoves_frame (s : State) (x : List (Option MoveRecord)) :
    sameOutside [.moves] s (s.setMoves x) := by
  apply sameOutside.of_agrees <;> simp
theorem setBus_frame (s : State) (x : Bus) : sameOutside [.bus] s (s.setBus x) := by
  apply sameOutside.of_agrees <;> simp
theorem setLink_frame (s : State) (x : Link) : sameOutside [.link] s (s.setLink x) := by
  apply sameOutside.of_agrees <;> simp
theorem setConditions_frame (s : State) (x : Conditions) :
    sameOutside [.conditions] s (s.setConditions x) := by
  apply sameOutside.of_agrees <;> simp
theorem setMail_frame (s : State) (x : Mail) : sameOutside [.mail] s (s.setMail x) := by
  apply sameOutside.of_agrees <;> simp
theorem setZone_frame (s : State) (z : Nat) (r : Zone) : sameOutside [.fire] s (s.setZone z r) :=
  setFire_frame _ _
theorem setStation_frame (s : State) (n : Nat) (r : Station) :
    sameOutside [.stations] s (s.setStation n r) := setStations_frame _ _
theorem setMove_frame (s : State) (n : Nat) (r : MoveRecord) :
    sameOutside [.moves] s (s.setMove n r) := setMoves_frame _ _
theorem setNode_frame (s : State) (n : Nat) (r : NodeRecord) :
    sameOutside [.bus] s (s.setNode n r) := setBus_frame _ _
theorem setResult_frame (s : State) (n : Nat) (r : OpeningResult) :
    sameOutside [.results] s (s.setResult n r) := setResults_frame _ _

theorem tellHeads_frame (s : State) (ns : List Nat) : sameOutside [.mail] s (s.tellHeads ns) := by
  apply sameOutside.of_agrees <;> simp
theorem tellFreezes_frame (s : State) (ns : List Nat) :
    sameOutside [.mail] s (s.tellFreezes ns) := setMail_frame _ _
theorem tellSteps_frame (s : State) (z : Nat) (xs : List ScenarioStep) :
    sameOutside [.mail] s (s.tellSteps z xs) := setMail_frame _ _
theorem freezeTaken_frame (s : State) (n : Nat) :
    sameOutside [.mail] s (s.freezeTaken n) := setMail_frame _ _
theorem tellWeather_frame (s : State) (ws : List WeatherTold) :
    sameOutside [.mail] s (s.tellWeather ws) := setMail_frame _ _
theorem tellTarget_frame (s : State) (t : TargetTold) :
    sameOutside [.mail] s (s.tellTarget t) := setMail_frame _ _
theorem tellReply_frame (s : State) (r : ReplyTold) :
    sameOutside [.mail] s (s.tellReply r) := setMail_frame _ _
theorem tellOutcomes_frame (s : State) (os : List OutcomeTold) :
    sameOutside [.mail] s (s.tellOutcomes os) := setMail_frame _ _
theorem tellLost_frame (s : State) (n : Nat) : sameOutside [.mail] s (s.tellLost n) :=
  setMail_frame _ _
theorem report_frame (s : State) (w : Owner) (ls : List (Condition × Bool)) (es : List Condition) :
    sameOutside [.mail] s (s.report w ls es) := by
  apply sameOutside.of_agrees <;> simp

/-! ### Lamps and the order queue -/

theorem evalLamps_frame (s : State) (z : Nat) : sameOutside [.fire] s (s.evalLamps z) := by
  unfold State.evalLamps
  split
  · split
    · exact setZone_frame _ _ _
    · exact .refl _ _
  · exact .refl _ _

theorem evalLampsOf_frame (s : State) (zs : List Nat) : sameOutside [.fire] s (s.evalLampsOf zs) :=
  sameOutside.foldl _ evalLamps_frame zs s

theorem queueOrder_frame (s : State) (n : Nat) (k : OrderKind) :
    sameOutside [.moves, .bus] s (s.queueOrder n k) := by
  have h := (setBus_frame s (s.bus.enqueue { opening := n, kind := k })).mono
    (cs := [.moves, .bus]) (by simp)
  unfold State.queueOrder
  dsimp only
  split
  · exact h.trans ((setMove_frame _ _ _).mono (by simp))
  · exact h

theorem withdrawOrder_frame (s : State) (n : Nat) (o : OrderEnd) :
    sameOutside [.bus, .mail] s (s.withdrawOrder n o) := by
  unfold State.withdrawOrder
  split
  · exact ((setBus_frame _ _).mono (by simp)).trans ((tellOutcomes_frame _ _).mono (by simp))
  · exact .refl _ _

/-! ### The movement controller -/

theorem enterStopping_frame (s : State) (n : Nat) :
    sameOutside [.moves, .bus] s (s.enterStopping n) := by
  unfold State.enterStopping
  split
  · exact ((setMove_frame _ _ _).mono (by simp)).trans (queueOrder_frame _ _ _)
  · exact .refl _ _

theorem evaluateAtRest_frame (s : State) (n : Nat) :
    sameOutside [.moves, .bus] s (s.evaluateAtRest n) := by
  unfold State.evaluateAtRest
  split
  · split
    · exact .refl _ _
    · split
      · exact enterStopping_frame _ _
      · split <;> exact (setMove_frame _ _ _).mono (by simp)
  · exact .refl _ _

theorem enterAtRest_frame (s : State) (n : Nat) :
    sameOutside [.moves, .bus] s (s.enterAtRest n) := by
  unfold State.enterAtRest
  split
  · exact ((setMove_frame _ _ _).mono (by simp)).trans (evaluateAtRest_frame _ _)
  · exact .refl _ _

theorem returnFaulted_frame (s : State) (n : Nat) :
    sameOutside [.moves, .bus] s (s.returnFaulted n) := by
  unfold State.returnFaulted
  split
  · exact ((setMove_frame _ _ _).mono (by simp)).trans (evaluateAtRest_frame _ _)
  · exact .refl _ _

theorem enterFaulted_frame (s : State) (n : Nat) (m : MoveRecord) (r : FaultReason) :
    sameOutside [.moves, .bus, .mail] s (s.enterFaulted n m r) :=
  ((setMove_frame _ _ _).mono (by simp)).trans ((withdrawOrder_frame _ _ _).mono (by simp))

theorem moveFault_frame (s : State) (n : Nat) (r : FaultReason) :
    sameOutside [.moves, .bus, .mail] s (s.moveFault n r) := by
  unfold State.moveFault
  split
  · split
    · dsimp only
      split
      · exact ((setMove_frame _ _ _).mono (by simp)).trans ((queueOrder_frame _ _ _).mono (by simp))
      · exact (setMove_frame _ _ _).mono (by simp)
    · exact enterFaulted_frame _ _ _ _
  · exact .refl _ _

theorem grant_frame (s : State) (n : Nat) : sameOutside [.moves, .bus] s (s.grant n) := by
  unfold State.grant
  split
  · exact ((setMove_frame _ _ _).mono (by simp)).trans (queueOrder_frame _ _ _)
  · exact .refl _ _

theorem grantOne_frame {s t : State} (h : s.grantOne = some t) :
    sameOutside [.moves, .bus] s t := by
  unfold State.grantOne at h
  split at h
  · split at h
    · cases h; exact grant_frame _ _
    · cases h
  · cases h

theorem grantUpTo_frame (k : Nat) (s : State) : sameOutside [.moves, .bus] s (s.grantUpTo k) := by
  induction k generalizing s with
  | zero => exact .refl _ _
  | succ k ih =>
    unfold State.grantUpTo
    split
    · next h => exact (grantOne_frame h).trans (ih _)
    · exact .refl _ _

theorem grantAll_frame (s : State) : sameOutside [.moves, .bus] s s.grantAll := grantUpTo_frame _ _

theorem announceMoves_frame (s before : State) :
    sameOutside [.fire, .mail] s (s.announceMoves before) :=
  ((evalLampsOf_frame _ _).mono (by simp)).trans ((report_frame _ _ _ _).mono (by simp))

/-- An event of the movement controller ends by changing movement records, the order queue, lamps and
what is told, and nothing else. -/
theorem endMoveEvent_frame (s before : State) :
    sameOutside [.moves, .bus, .fire, .mail] s (s.endMoveEvent before) :=
  (((announceMoves_frame _ _).mono (by simp)).trans ((grantAll_frame _).mono (by simp))).trans
    ((announceMoves_frame _ _).mono (by simp))

theorem retarget_frame (s : State) (n : Nat) (m : MoveRecord) (t : Nat) :
    sameOutside [.moves, .bus] s (s.retarget n m t) := by
  unfold State.retarget
  split
  · exact queueOrder_frame _ _ _
  · exact enterStopping_frame _ _

theorem onTarget_frame (s : State) (e : TargetTold) :
    sameOutside [.moves, .bus] s (s.onTarget e) := by
  unfold State.onTarget
  split
  · next m _ =>
    have h := (setMove_frame s e.opening { m with classTold := e.cls }).mono
      (cs := [.moves, .bus]) (by simp)
    dsimp only
    split
    · exact h.trans (evaluateAtRest_frame _ _)
    · split
      · exact h.trans (enterAtRest_frame _ _)
      · exact h
    · split
      · exact h.trans (retarget_frame _ _ _ _)
      · exact h
    · split
      · exact h.trans (retarget_frame _ _ _ _)
      · exact h
    · split
      · exact h.trans (returnFaulted_frame _ _)
      · exact h
    all_goals exact h
  · exact .refl _ _

theorem onReplyTravel_frame (s : State) (r : ReplyTold) (m : MoveRecord) :
    sameOutside [.moves, .bus, .mail] s (s.onReplyTravel r m) := by
  unfold State.onReplyTravel
  split
  · exact (enterAtRest_frame _ _).mono (by simp)
  · split
    · exact moveFault_frame _ _ _
    · split
      · exact (enterAtRest_frame _ _).mono (by simp)
      · split
        · exact moveFault_frame _ _ _
        · exact .refl _ _

theorem onReply_frame (s : State) (r : ReplyTold) :
    sameOutside [.moves, .bus, .mail] s (s.onReply r) := by
  have ha := (enterAtRest_frame s r.opening).mono (cs := [.moves, .bus, .mail]) (by simp)
  have hs := (enterStopping_frame s r.opening).mono (cs := [.moves, .bus, .mail]) (by simp)
  have he := (evaluateAtRest_frame s r.opening).mono (cs := [.moves, .bus, .mail]) (by simp)
  unfold State.onReply
  split
  · split
    · split
      · exact ha
      · split
        · exact ha
        · exact hs
    · split
      · exact .refl _ _
      · exact he
    · split
      · exact ha
      · split
        · exact hs
        · split
          · exact ha
          · exact .refl _ _
    · split
      · exact ha
      · split
        · exact moveFault_frame _ _ _
        · exact .refl _ _
    · exact onReplyTravel_frame _ _ _
    · split
      · exact ha
      · split
        · exact ha
        · exact .refl _ _
    · split
      · exact ha
      · exact .refl _ _
    · exact .refl _ _
  · exact .refl _ _

theorem onOutcome_frame (s : State) (o : OutcomeTold) : sameOutside [.moves] s (s.onOutcome o) := by
  unfold State.onOutcome
  split
  · exact setMove_frame _ _ _
  · exact .refl _ _

theorem onLost_frame (s : State) (n : Nat) :
    sameOutside [.moves, .bus, .mail] s (s.onLost n) := by
  unfold State.onLost
  split
  · exact moveFault_frame _ _ _
  · exact moveFault_frame _ _ _
  · exact moveFault_frame _ _ _
  · exact .refl _ _

theorem endBreakaway_frame (s : State) (n : Nat) : sameOutside [.moves] s (s.endBreakaway n) := by
  unfold State.endBreakaway
  split
  · exact setMove_frame _ _ _
  · exact .refl _ _

theorem judgeHeadway_frame (s : State) (n : Nat) :
    sameOutside [.moves, .bus, .mail] s (s.judgeHeadway n) := by
  unfold State.judgeHeadway
  split
  · dsimp only
    split
    · exact (setMove_frame _ _ _).mono (by simp)
    · exact moveFault_frame _ _ _
  · exact .refl _ _

theorem moveSecond_frame (s : State) (n : Nat) :
    sameOutside [.moves, .bus, .mail] s (s.moveSecond n) := by
  have hm : ∀ r, sameOutside [.moves, .bus, .mail] s (s.setMove n r) := fun r =>
    (setMove_frame s n r).mono (by simp)
  unfold State.moveSecond
  split
  · split
    · exact hm _
    · dsimp only
      split
      · exact (hm _).trans ((endBreakaway_frame _ _).mono (by simp))
      · exact hm _
    · dsimp only
      split
      · exact (hm _).trans (moveFault_frame _ _ _)
      · split
        · exact (hm _).trans (judgeHeadway_frame _ _)
        · exact hm _
    · split
      · exact moveFault_frame _ _ _
      · exact hm _
    · split
      · exact (enterAtRest_frame _ _).mono (by simp)
      · exact hm _
    all_goals exact .refl _ _
  · exact .refl _ _

theorem fireResetMoves_frame (s : State) (ns : List Nat) :
    sameOutside [.moves, .bus, .fire, .mail] s (s.fireResetMoves ns) := by
  refine .trans ?_ (endMoveEvent_frame _ _)
  refine sameOutside.foldl _ (fun t n => ?_) ns s
  split
  · exact (returnFaulted_frame _ _).mono (by simp)
  · exact .refl _ _

theorem entryJudged_frame (s : State) (n : Nat) :
    sameOutside [.moves, .bus, .fire, .mail] s (s.entryJudged n) := by
  refine .trans ?_ (endMoveEvent_frame _ _)
  split
  · exact (evaluateAtRest_frame _ _).mono (by simp)
  · split
    · exact (enterAtRest_frame _ _).mono (by simp)
    · exact .refl _ _
  · exact .refl _ _

/-! ### The resolver -/

theorem tellResult_frame (s : State) (n : Nat) (o : Option OpeningResult) (r : OpeningResult) :
    sameOutside [.mail] s (s.tellResult n o r) := by
  unfold State.tellResult
  split
  · split
    · exact .refl _ _
    · exact tellTarget_frame _ _
  · exact tellTarget_frame _ _

theorem recomputeOne_frame (s : State) (n : Nat) :
    sameOutside [.results, .mail] s (s.recomputeOne n) := by
  unfold State.recomputeOne
  split
  · exact (((setResult_frame _ _ _).mono (by simp)).trans
      ((tellResult_frame _ _ _ _).mono (by simp))).trans ((freezeTaken_frame _ _).mono (by simp))
  · exact .refl _ _

theorem judgeWeatherClose_frame (s before : State) :
    sameOutside [.mail] s (s.judgeWeatherClose before) := report_frame _ _ _ _

/-- A recomputation changes results and what is told, and nothing else. -/
theorem recompute_frame (s : State) (ns : List Nat) :
    sameOutside [.results, .mail] s (s.recompute ns) :=
  (sameOutside.foldl _ recomputeOne_frame ns s).trans ((judgeWeatherClose_frame _ _).mono (by simp))

/-! ### The demand manager -/

theorem stationGone_frame (s : State) (x : DemandRecord × RetireReason) :
    sameOutside [.stations] s (s.stationGone x) := by
  unfold State.stationGone
  split
  · split
    · exact setStation_frame _ _ _
    · exact .refl _ _
  · exact .refl _ _

theorem endOperation_frame (s : State) (run : DemandRun) (adjusted : List Nat) :
    sameOutside [.demand, .stations, .mail] s (s.endOperation run adjusted).1 :=
  ((((setDemand_frame _ _).mono (by simp)).trans
    ((sameOutside.foldl _ stationGone_frame _ _).mono (by simp))).trans
    ((report_frame _ _ _ _).mono (by simp))).trans ((tellFreezes_frame _ _).mono (by simp))

/-- An operation that retires nothing leaves the station unit as it is. -/
theorem endOperation_frame_of_none (s : State) (run : DemandRun) (adjusted : List Nat)
    (h : run.retired = []) : sameOutside [.demand, .mail] s (s.endOperation run adjusted).1 := by
  unfold State.endOperation
  rw [h]
  exact (((setDemand_frame _ _).mono (by simp)).trans ((report_frame _ _ _ _).mono (by simp))).trans
    ((tellFreezes_frame _ _).mono (by simp))

theorem closeOperation_frame (s : State) (run : DemandRun) (adjusted : List Nat) :
    sameOutside [.demand, .stations, .mail] s (s.closeOperation run adjusted) :=
  (endOperation_frame _ _ _).trans ((tellHeads_frame _ _).mono (by simp))

theorem placeRecord_frame (s : State) (r : DemandRecord) :
    sameOutside [.demand, .stations, .mail] s (s.placeRecord r).1 := closeOperation_frame _ _ _

theorem retireSource_frame (s : State) (src : Source) :
    sameOutside [.demand, .stations, .mail] s (s.retireSource src) := closeOperation_frame _ _ _

theorem retireSlot_frame (s : State) (k : Nat) (reason : RetireReason) :
    sameOutside [.demand, .stations, .mail] s (s.retireSlot k reason) := closeOperation_frame _ _ _

/-! ### The fire unit -/

theorem endFireEvent_frame (s before : State) (zs : List Nat) :
    sameOutside [.fire, .mail] s (s.endFireEvent before zs) :=
  ((evalLampsOf_frame _ _).mono (by simp)).trans ((report_frame _ _ _ _).mono (by simp))

theorem takeSteps_frame (s : State) (z left : Nat) :
    sameOutside [.demand, .stations, .mail] s (s.takeSteps z left) :=
  (((setMail_frame _ _).mono (by simp)).trans ((tellSteps_frame _ _ _).mono (by simp))).trans
    (sameOutside.foldl _ (fun t _ => placeRecord_frame t _) _ _)

theorem placeScenario_frame (s : State) (z left : Nat) :
    sameOutside [.demand, .stations, .mail] s (s.placeScenario z left) :=
  ((tellSteps_frame _ _ _).mono (by simp)).trans (takeSteps_frame _ _ _)

theorem zoneTransition_frame (s : State) (z : Nat) (c : LineClass) (left : Nat) :
    sameOutside [.fire, .demand, .stations, .mail] s (s.zoneTransition z c left) := by
  unfold State.zoneTransition
  split
  · dsimp only
    split
    · exact ((setZone_frame _ _ _).mono (by simp)).trans ((placeScenario_frame _ _ _).mono (by simp))
    · exact (setZone_frame _ _ _).mono (by simp)
  · exact .refl _ _

theorem acceptLine_frame (s : State) (z : Nat) (c : LineClass) (left : Nat) :
    sameOutside [.fire, .demand, .stations, .mail] s (s.acceptLine z c left) := by
  unfold State.acceptLine
  split
  · exact (((setZone_frame _ _ _).mono (by simp)).trans (zoneTransition_frame _ _ _ _)).trans
      ((endFireEvent_frame _ _ _).mono (by simp))
  · exact .refl _ _

theorem sampleLine_frame (s : State) (z : Nat) (count : BitVec 10) :
    sameOutside [.fire, .demand, .stations, .mail] s (s.sampleLine z count) := by
  have hz : ∀ t r, sameOutside [.fire, .demand, .stations, .mail] t (t.setZone z r) := fun t r =>
    (setZone_frame t z r).mono (by simp)
  unfold State.sampleLine
  split
  · dsimp only
    split
    · exact hz _ _
    · split
      · split
        · exact (hz _ _).trans (acceptLine_frame _ _ _ _)
        · exact hz _ _
      · exact hz _ _
  · exact .refl _ _

theorem actOnSwitch_frame (s : State) (z : Nat) (p : SwitchPos) :
    sameOutside [.demand, .stations, .mail] s (s.actOnSwitch z p) := by
  cases p
  · exact retireSource_frame _ _
  · exact placeRecord_frame _ _
  · exact placeRecord_frame _ _
  · exact .refl _ _

theorem acceptSwitch_frame (s : State) (z : Nat) (r : Zone) :
    sameOutside [.fire, .demand, .stations, .mail] s (s.acceptSwitch z r) := by
  unfold State.acceptSwitch
  dsimp only
  split
  · exact (setZone_frame _ _ _).mono (by simp)
  · exact (((setZone_frame _ _ _).mono (by simp)).trans ((actOnSwitch_frame _ _ _).mono (by simp))).trans
      ((endFireEvent_frame _ _ _).mono (by simp))

theorem resetZone_frame (s : State) (z : Nat) :
    sameOutside [.fire, .demand, .stations, .moves, .bus, .mail] s (s.resetZone z) := by
  unfold State.resetZone
  split
  · next r _ =>
    have h : sameOutside [.fire, .demand, .stations, .moves, .bus, .mail] s
        ((((s.setZone z { r with state := .normal, lineFault := false }).takeSteps z 0).retireSource
          (.scenario z)).fireResetMoves
          ((((s.setZone z { r with state := .normal, lineFault := false }).takeSteps z 0).retireSource
          (.scenario z)).store.zoneOpenings z)) :=
      ((((setZone_frame _ _ _).mono (by simp)).trans ((takeSteps_frame _ _ _).mono (by simp))).trans
        ((retireSource_frame _ _).mono (by simp))).trans
        ((fireResetMoves_frame _ _).mono (by simp))
    dsimp only
    split
    · exact h.trans ((zoneTransition_frame _ _ _ _).mono (by simp))
    · exact h
  · exact .refl _ _

theorem fireReset_frame (s : State) :
    sameOutside [.fire, .demand, .stations, .moves, .bus, .mail] s s.fireReset :=
  (sameOutside.foldl _ resetZone_frame _ _).trans ((endFireEvent_frame _ _ _).mono (by simp))

theorem zoneWritten_frame (s : State) (z : Nat) (enabled : Bool) (left : Nat) :
    sameOutside [.fire, .demand, .stations, .mail] s (s.zoneWritten z enabled left) := by
  have hz : ∀ r, sameOutside [.fire, .demand, .stations, .mail] s (s.setZone z r) := fun r =>
    (setZone_frame s z r).mono (by simp)
  have he : ∀ t zs, sameOutside [.fire, .demand, .stations, .mail] t (t.endFireEvent s zs) :=
    fun t zs => (endFireEvent_frame t s zs).mono (by simp)
  unfold State.zoneWritten
  split
  · split
    · exact (hz _).trans (he _ _)
    · exact (hz _).trans (he _ _)
    · dsimp only
      split
      · exact ((hz _).trans (zoneTransition_frame _ _ _ _)).trans (he _ _)
      · exact (hz _).trans (he _ _)
    · exact .refl _ _
  · exact .refl _ _

/-! ### The station unit -/

theorem setStationHandle_frame (s : State) (n : Nat) (h : Option Handle) :
    sameOutside [.stations] s (s.setStationHandle n h) := by
  unfold State.setStationHandle
  split
  · exact setStation_frame _ _ _
  · exact .refl _ _

theorem stationPlace_frame (s : State) (n aperture : Nat) :
    sameOutside [.stations, .demand, .mail] s (s.stationPlace n aperture) := by
  unfold State.stationPlace
  dsimp only
  split
  · exact (report_frame _ _ _ _).mono (by simp)
  · exact ((placeRecord_frame _ _).mono (by simp)).trans ((setStationHandle_frame _ _ _).mono (by simp))

theorem adjustOrPlace_frame (s : State) (n : Nat) (delta : Int) (fallback : Nat) :
    sameOutside [.stations, .demand, .mail] s (s.adjustOrPlace n delta fallback) := by
  unfold State.adjustOrPlace
  dsimp only
  split
  · split
    · exact ((closeOperation_frame _ _ _).mono (by simp)).trans
        ((setStationHandle_frame _ _ _).mono (by simp))
    · exact .refl _ _
  · exact stationPlace_frame _ _ _

theorem shortPress_frame (s : State) (n : Nat) (b : ButtonId) :
    sameOutside [.stations, .demand, .mail] s (s.shortPress n b) := by
  unfold State.shortPress
  split
  · exact adjustOrPlace_frame _ _ _ _
  · exact .refl _ _

theorem longPress_frame (s : State) (n aperture : Nat) :
    sameOutside [.stations, .demand, .mail] s (s.longPress n aperture) := by
  unfold State.longPress
  split
  · exact stationPlace_frame _ _ _
  · exact .refl _ _

theorem bothHeld_frame (s : State) (n : Nat) :
    sameOutside [.stations, .demand, .mail] s (s.bothHeld n) := by
  unfold State.bothHeld
  repeat' split
  all_goals first
    | exact (retireSlot_frame _ _ _).mono (by simp)
    | exact .refl _ _

theorem cancelStation_frame (s : State) (n : Nat) :
    sameOutside [.stations] s (s.cancelStation n) := by
  unfold State.cancelStation
  split
  · exact setStation_frame _ _ _
  · exact .refl _ _

theorem acceptButton_frame (s : State) (n : Nat) (b : ButtonId) (st : Station) :
    sameOutside [.stations, .demand, .mail] s (s.acceptButton n b st) := by
  unfold State.acceptButton
  dsimp only
  split
  · exact (setStation_frame _ _ _).mono (by simp)
  · split
    · exact ((setStation_frame _ _ _).mono (by simp)).trans (shortPress_frame _ _ _)
    · exact (setStation_frame _ _ _).mono (by simp)

/-! ### The weather unit -/

theorem takeSupply_frame (s before : State) :
    sameOutside [.moves, .bus, .fire, .mail] s (s.takeSupply before) := by
  unfold State.takeSupply
  split
  · exact .refl _ _
  · exact endMoveEvent_frame _ _

theorem takeDirection_frame (s before : State) :
    sameOutside [.results, .mail] s (s.takeDirection before) := by
  unfold State.takeDirection
  split
  · exact .refl _ _
  · exact recompute_frame _ _

/-- An event of the weather unit leaves the store, the demand manager, the stations, the link and the
condition unit as they are. -/
theorem weatherEvent_frame (s : State) (w : Weather) :
    sameOutside [.weather, .results, .fire, .moves, .bus, .mail] s (s.weatherEvent w) :=
  (((((setWeather_frame _ _).mono (by simp)).trans ((tellWeather_frame _ _).mono (by simp))).trans
    ((report_frame _ _ _ _).mono (by simp))).trans ((takeSupply_frame _ _).mono (by simp))).trans
    ((takeDirection_frame _ _).mono (by simp))

theorem takeSupply_of_eq {s before : State} (h : before.weather.lowSupply = s.weather.lowSupply) :
    s.takeSupply before = s := if_pos h

theorem takeDirection_of_eq {s before : State} (h : before.weather.heldDir = s.weather.heldDir) :
    s.takeDirection before = s := if_pos h

/-- An event that leaves D as it is leaves the results as they are too. -/
theorem weatherEvent_frame_of_heldDir {s : State} {w : Weather} (h : s.weather.heldDir = w.heldDir) :
    sameOutside [.weather, .fire, .moves, .bus, .mail] s (s.weatherEvent w) := by
  have hw : ((((s.setWeather w).tellWeather (s.weather.told w)).reportWeather s).takeSupply
      s).weather = w :=
    (takeSupply_frame _ _ .weather (by simp)).trans
      ((report_frame _ _ _ _ .weather (by simp)).trans rfl)
  unfold State.weatherEvent
  rw [takeDirection_of_eq (by rw [hw]; exact h)]
  exact ((((setWeather_frame _ _).mono (by simp)).trans ((tellWeather_frame _ _).mono (by simp))).trans
    ((report_frame _ _ _ _).mono (by simp))).trans ((takeSupply_frame _ _).mono (by simp))

/-- An event that leaves LOW_SUPPLY as it is leaves the openings' movements, the drive bus and the fire
unit as they are too. -/
theorem weatherEvent_frame_of_lowSupply {s : State} {w : Weather}
    (h : s.weather.lowSupply = w.lowSupply) :
    sameOutside [.weather, .results, .mail] s (s.weatherEvent w) := by
  have hw : (((s.setWeather w).tellWeather (s.weather.told w)).reportWeather s).weather = w :=
    report_frame _ _ _ _ .weather (by simp)
  unfold State.weatherEvent
  rw [takeSupply_of_eq (by rw [hw]; exact h)]
  exact (((setWeather_frame _ _).mono (by simp)).trans ((tellWeather_frame _ _).mono (by simp))).trans
    ((report_frame _ _ _ _).mono (by simp)) |>.trans ((takeDirection_frame _ _).mono (by simp))

/-- An event that leaves D and LOW_SUPPLY as they are acts on the weather unit alone. -/
theorem weatherEvent_frame_of_quiet {s : State} {w : Weather} (hd : s.weather.heldDir = w.heldDir)
    (hl : s.weather.lowSupply = w.lowSupply) :
    sameOutside [.weather, .mail] s (s.weatherEvent w) := fun b hb =>
  if hr : b = .results then weatherEvent_frame_of_heldDir hd b (by simp_all)
  else weatherEvent_frame_of_lowSupply hl b (by simp_all)

/-! ### The drive bus controller -/

theorem endBusEvent_frame (s before : State) :
    sameOutside [.fire, .mail] s (s.endBusEvent before) :=
  ((evalLampsOf_frame _ _).mono (by simp)).trans ((report_frame _ _ _ _).mono (by simp))

theorem endOrder_frame (s : State) (f : InFlight) (o : OrderEnd) :
    sameOutside [.bus, .mail] s (s.endOrder f o) := by
  unfold State.endOrder
  dsimp only
  split
  · exact (setBus_frame _ _).mono (by simp)
  · exact ((setBus_frame _ _).mono (by simp)).trans ((tellOutcomes_frame _ _).mono (by simp))

theorem requeueOrder_frame (s : State) (f : InFlight) : sameOutside [.bus] s (s.requeueOrder f) := by
  unfold State.requeueOrder
  dsimp only
  split
  · exact setBus_frame _ _
  · exact (setBus_frame _ _).trans (setBus_frame _ _)

theorem takeReply_frame (s : State) (n : Nat) (r : DriveReply) :
    sameOutside [.bus, .mail] s (s.takeReply n r) := by
  unfold State.takeReply
  split
  · dsimp only
    split
    · exact (((setNode_frame _ _ _).mono (by simp)).trans ((tellReply_frame _ _).mono (by simp))).trans
        (withdrawOrder_frame _ _ _)
    · exact ((setNode_frame _ _ _).mono (by simp)).trans ((tellReply_frame _ _).mono (by simp))
  · exact .refl _ _

theorem countFailure_frame (s : State) (n : Nat) (o : TransactionOutcome) :
    sameOutside [.bus, .mail] s (s.countFailure n o) := by
  unfold State.countFailure
  split
  · split
    · exact (((setNode_frame _ _ _).mono (by simp)).trans (withdrawOrder_frame _ _ _)).trans
        ((tellLost_frame _ _).mono (by simp))
    · exact (setNode_frame _ _ _).mono (by simp)
  · exact .refl _ _

theorem orderReplied_frame (s : State) (o : TransactionOutcome) :
    sameOutside [.bus, .mail] s (s.orderReplied o) := by
  unfold State.orderReplied
  split
  · split
    · exact endOrder_frame _ _ _
    · exact endOrder_frame _ _ _
    · exact (requeueOrder_frame _ _).mono (by simp)
    · exact endOrder_frame _ _ _
    · exact .refl _ _
    · exact .refl _ _
  · exact .refl _ _

/-- The entry taken next is the first that passes the check of R155; those before it are discarded. -/
theorem takeNextOrder_of_allowed (s : State) (bad : List Order) (o : Order) (rest : List Order)
    (hq : s.bus.queue = bad ++ o :: rest) (hbad : ∀ e ∈ bad, s.orderAllowed e.opening = false)
    (ho : s.orderAllowed o.opening = true) :
    s.takeNextOrder =
      ((s.setBus { s.bus with queue := rest }).tellOutcomes
        (bad.map fun e => { opening := e.opening, ending := .discarded })).sendOrder o 1 false := by
  have hb : ∀ e ∈ bad, (!s.orderAllowed e.opening) = true := fun e he => by simp [hbad e he]
  simp [State.takeNextOrder, hq, List.takeWhile_append_of_pos hb, List.dropWhile_append_of_pos hb, ho]

/-- Where no entry passes the check of R155 the whole queue is discarded, and nothing is sent. -/
theorem takeNextOrder_of_none_allowed (s : State)
    (hbad : ∀ e ∈ s.bus.queue, s.orderAllowed e.opening = false) :
    s.takeNextOrder =
      (s.setBus { s.bus with queue := [] }).tellOutcomes
        (s.bus.queue.map fun e => { opening := e.opening, ending := .discarded }) := by
  have ht : (s.bus.queue.takeWhile fun e => !s.orderAllowed e.opening) = s.bus.queue :=
    List.takeWhile_eq_self_iff.2 fun e he => by simp [hbad e he]
  have hd : (s.bus.queue.dropWhile fun e => !s.orderAllowed e.opening) = [] :=
    List.dropWhile_eq_nil_iff.2 fun e he => by simp [hbad e he]
  simp only [State.takeNextOrder, ht, hd, List.drop_nil]

theorem takeNextOrder_frame (s : State) : sameOutside [.bus, .mail] s s.takeNextOrder := by
  unfold State.takeNextOrder
  dsimp only
  split
  · exact (((setBus_frame _ _).mono (by simp)).trans ((tellOutcomes_frame _ _).mono (by simp))).trans
      ((setBus_frame _ _).mono (by simp))
  · exact ((setBus_frame _ _).mono (by simp)).trans ((tellOutcomes_frame _ _).mono (by simp))

theorem orderFailed_frame (s : State) : sameOutside [.bus, .mail] s s.orderFailed := by
  unfold State.orderFailed
  split
  · split
    · exact endOrder_frame _ _ _
    · split
      · exact (endOrder_frame _ _ _).trans (takeNextOrder_frame _)
      · split
        · exact endOrder_frame _ _ _
        · exact (setBus_frame _ _).mono (by simp)
  · exact .refl _ _

theorem transactionReplied_frame (s : State) (n : Nat) (r : DriveReply) :
    sameOutside [.bus, .fire, .mail] s (s.transactionReplied n r) :=
  ((((setBus_frame _ _).mono (by simp)).trans ((takeReply_frame _ _ _).mono (by simp))).trans
    ((orderReplied_frame _ _).mono (by simp))).trans ((endBusEvent_frame _ _).mono (by simp))

theorem transactionFailed_frame (s : State) (n : Nat) (o : TransactionOutcome) :
    sameOutside [.bus, .fire, .mail] s (s.transactionFailed n o) :=
  ((((setBus_frame _ _).mono (by simp)).trans ((countFailure_frame _ _ _).mono (by simp))).trans
    ((orderFailed_frame _).mono (by simp))).trans ((endBusEvent_frame _ _).mono (by simp))

theorem orderTurn_frame (s : State) : sameOutside [.bus, .mail] s s.orderTurn :=
  ((setBus_frame _ _).mono (by simp)).trans (takeNextOrder_frame _)

/-! ### The site store -/

theorem openingEnabled_frame (s : State) (n : Nat) :
    sameOutside [.results, .fire, .moves, .bus, .mail] s (s.openingEnabled n) :=
  ((((setBus_frame _ _).mono (by simp)).trans ((setMoves_frame _ _).mono (by simp))).trans
    ((endMoveEvent_frame _ _).mono (by simp))).trans ((recompute_frame _ _).mono (by simp))

theorem openingDisabled_frame (s : State) (n : Nat) :
    sameOutside [.results, .fire, .moves, .bus, .mail] s (s.openingDisabled n) :=
  (((((((setResults_frame _ _).mono (by simp)).trans ((judgeWeatherClose_frame _ _).mono
    (by simp))).trans ((setMoves_frame _ _).mono (by simp))).trans
    ((setMail_frame _ _).mono (by simp))).trans ((endMoveEvent_frame _ _).mono (by simp))).trans
    ((setBus_frame _ _).mono (by simp))).trans ((endBusEvent_frame _ _).mono (by simp))

theorem openingWritten_frame (s : State) (n : Nat) (old new : OpeningEntry) :
    sameOutside [.results, .fire, .moves, .bus, .mail] s (s.openingWritten n old new) := by
  unfold State.openingWritten
  refine .trans ?_ ((evalLampsOf_frame _ _).mono (by simp))
  split
  · exact openingEnabled_frame _ _
  · exact openingDisabled_frame _ _
  · exact ((recompute_frame _ _).mono (by simp)).trans ((entryJudged_frame _ _).mono (by simp))
  · exact (endMoveEvent_frame _ _).mono (by simp)

theorem weatherWritten_frame (s before : State) (old new : WeatherBlock) :
    sameOutside [.weather, .results, .fire, .moves, .bus, .mail] s
      (s.weatherWritten before old new) :=
  (((((setWeather_frame _ _).mono (by simp)).trans ((tellWeather_frame _ _).mono (by simp))).trans
    ((report_frame _ _ _ _).mono (by simp))).trans ((takeSupply_frame _ _).mono (by simp))).trans
    ((recompute_frame _ _).mono (by simp))

/-- What the blocks do with a completed write leaves the store, the link and the condition unit as
they are. -/
theorem writeTold_frame (s before : State) (left : Nat) (ev : EntryValue) :
    sameOutside [.demand, .weather, .results, .fire, .stations, .moves, .bus, .mail] s
      (s.writeTold before left ev) := by
  cases ev with
  | opening n v => exact (openingWritten_frame _ _ _ _).mono (by simp)
  | group g l => exact (sameOutside.foldl _ cancelStation_frame _ _).mono (by simp)
  | zone z v => exact (zoneWritten_frame _ _ _ _).mono (by simp)
  | scenario z l => exact .refl _ _
  | station n v => exact (cancelStation_frame _ _).mono (by simp)
  | supervisor m v => exact .refl _ _
  | weather v => exact (weatherWritten_frame _ _ _ _).mono (by simp)
  | movement v => exact (endMoveEvent_frame _ _).mono (by simp)

/-! ### Responses and requests -/

theorem dropHeld_frame (s : State) : sameOutside [.link] s s.dropHeld := setLink_frame _ _

/-- After the discarding of a held response none waits (R165). -/
theorem dropHeld_held (s : State) : s.dropHeld.link.held = none := by
  unfold State.dropHeld Link.discardHeld
  split
  · rfl
  · next h => exact h

/-- All that the discarding of a held response does to the rest of the link (R165, R172). -/
theorem dropHeld_discards (s : State) : heldDiscarded s s.dropHeld := by
  unfold heldDiscarded State.dropHeld Link.discardHeld
  split <;> simp_all [Response.restarts]

/-- All that the holding of a response does. -/
theorem hold_answered (s : State) (r : Response) : answered [.link] s (s.hold r) r :=
  ⟨setLink_frame _ _, rfl, dropHeld_discards s⟩

theorem respond_frame (s : State) (m : Nat) (code : Byte) (a : Answer) :
    sameOutside [.link] s (s.respond m code a) := setLink_frame _ _

theorem writeAnswered_frame (s before : State) (w : EntryWrite) (st : Status) :
    sameOutside [.link] s (s.writeAnswered before w st) := setLink_frame _ _

theorem carryOutPlace_frame {s : State} {r : DemandRecord} {c : Bool}
    {x : State × Handle × OutcomeFlags} (h : s.carryOutPlace r c = some x) :
    sameOutside [.demand, .results, .stations, .mail] s x.1 := by
  unfold State.carryOutPlace at h
  dsimp only at h
  split at h
  · cases h
    exact ((endOperation_frame _ _ _).mono (by simp)).trans ((recompute_frame _ _).mono (by simp))
  · cases h

theorem requestPlace_frame (s : State) (m : Nat) (f : PlaceFields) :
    sameOutside [.demand, .results, .stations, .mail] s (s.requestPlace m f).1 := by
  unfold State.requestPlace
  split
  · split
    · split
      · exact .refl _ _
      · split
        · next h => exact carryOutPlace_frame h
        · exact .refl _ _
    · exact .refl _ _
  · exact .refl _ _

/-- A PROBE changes nothing (R63). -/
theorem requestProbe_state (s : State) (m : Nat) (f : PlaceFields) :
    (s.requestProbe m f).1 = s := by
  unfold State.requestProbe
  split
  · split
    · dsimp only
      split
      · rfl
      · split <;> rfl
    · rfl
  · rfl

theorem requestAdjust_frame (s : State) (m : Nat) (slot gen : Byte) (delta : Word16) :
    sameOutside [.demand, .results, .mail] s (s.requestAdjust m slot gen delta).1 := by
  unfold State.requestAdjust
  dsimp only
  split
  · exact .refl _ _
  · split
    · split
      · exact ((endOperation_frame_of_none _ _ _ rfl).mono (by simp)).trans
          ((recompute_frame _ _).mono (by simp))
      · exact .refl _ _
    · exact .refl _ _

theorem requestRetire_frame (s : State) (m : Nat) (slot gen : Byte) :
    sameOutside [.demand, .stations, .mail] s (s.requestRetire m slot gen).1 := by
  unfold State.requestRetire
  dsimp only
  split
  · split
    · exact retireSlot_frame _ _ _
    · exact .refl _ _
  · exact .refl _ _

theorem requestConditions_frame (s : State) (set : BitVec 24) :
    sameOutside [.conditions] s (s.requestClearConditions set).1 ∧
      sameOutside [.conditions] s (s.requestSetMask set).1 := by
  unfold State.requestClearConditions State.requestSetMask
  split
  · exact ⟨.refl _ _, .refl _ _⟩
  · exact ⟨setConditions_frame _ _, setConditions_frame _ _⟩

theorem requestConfigure_frame (s : State) (m : Nat) (kind index : Byte) (v : List Byte) :
    sameOutside [.store] s (s.requestConfigure m kind index v).1 := by
  unfold State.requestConfigure
  split
  · split
    · split
      · split
        · exact .refl _ _
        · exact .refl _ _
        · split
          · exact .refl _ _
          · exact setStore_frame _ _
      · exact .refl _ _
    · exact .refl _ _
  · exact .refl _ _

theorem clearFault_frame (s : State) (n : Nat) :
    sameOutside [.moves, .bus, .fire, .mail] s (s.clearFault n) := by
  refine .trans ?_ (endMoveEvent_frame _ _)
  split
  · exact (returnFaulted_frame _ _).mono (by simp)
  · exact (returnFaulted_frame _ _).mono (by simp)
  · exact .refl _ _

end Sys2Proof.Machine
end

