-- ==== Sys2Proof/Tests/Slice0.lean ====
section
/-! SUPPORT. Small tests of the model against the manual's own tables and examples, each about one step
on a small state, the smoke test of well-formedness, and for each obligation a concrete state and
operands that meet its premises. -/
namespace Sys2Proof.Tests

set_option Elab.async false

open Sys2Proof.Machine

/-! ### A small site -/

/-- The opening of the worked case of 05, as opening 1 of zone 1. -/
def entry1 : OpeningEntry :=
  { enabled := true, exposure := .facade, facing := 200, limit := 600, step := 25, rest := 0,
    rain := 100, deadband := 10, strokeTime := 120, breakawayTime := 2, zone := 1 }

/-- The weather block of the worked case of 05. -/
def weather1 : WeatherBlock :=
  { WeatherBlock.factory with
    anemA := { present := true, factor := 80, trim := 4, trimMinus := true }
    anemB := { present := true, factor := 80, trim := 0, trimMinus := false }
    combine := .maximum, filterShift := 2, windward := { free := 50, close := 120 }
    halfSector := 60, dirDwell := 5, vanePresent := true, rainPresent := true
    probePresent := true }

/-- An entry loaded from its first copy. -/
def loaded {α : Type} (v : α) : Entry α :=
  { value := v, origin := .stored
    first := { checkMatches := true, sequence := 200, value := v }
    second := { checkMatches := true, sequence := 199, value := v }
    inEffect := some .first }

/-- Supervisor 1 may do everything but place PURGE. -/
def sup1 : SupervisorEntry :=
  { mayLockout := true, mayLocal := true, mayComfort := true, mayPurge := false,
    mayConfigure := true, mayFireReset := true, mayRestart := true }

def store1 : Store :=
  { Store.blank with
    openings := loaded entry1 :: List.replicate 47 (.blank .factory)
    groups := loaded [1] :: List.replicate 23 (.blank [])
    zones := loaded true :: List.replicate 7 (.blank false)
    scenarios := loaded [{ group := 1, aperture := 500 }] :: List.replicate 7 (.blank [])
    stations := loaded { enabled := true, group := 1, step := 100, lifetime := 600 } ::
      List.replicate 7 (.blank .factory)
    supervisors := [loaded sup1, .blank .factoryOther, .blank .factoryOther, .blank .factoryOther]
    weather := loaded weather1 }

/-- The latest reply of drive node 1. -/
def reply1 : DriveReply :=
  { position := 200, motion := .stopped, endClosed := false, endOpen := false,
    overcurrent := false, isolated := false, notReady := false, supplyGood := true }

def node1 : NodeRecord :=
  { state := .online, failures := 0, lastReply := some reply1, lastOutcome := some .ok }

def move1 : MoveRecord := { MoveRecord.atReset with state := .atRest }

def zone1 : Zone := { Zone.atReset with state := .normal, accepted := some .normal }

/-- The site at rest, its link idle. -/
def base : State :=
  { State.reset with
    store := store1
    weather := { State.reset.weather.afterReset weather1 240 with capTakeOver := false }
    results := some { entry1.resultAtReset with target := 200 } :: List.replicate 47 none
    moves := some move1 :: List.replicate 47 none
    bus := { State.reset.bus with
      nodes := some node1 :: List.replicate 47 none, rotation := 1, lastTurn := .poll }
    fire := { State.reset.fire with zones := zone1 :: List.replicate 7 .atReset }
    link := { Link.atReset with rx := .idle }
    mail := .empty }

/-- A COMFORT record of supervisor 1 on opening 1. -/
def rec1 : DemandRecord :=
  { source := .supervisor 1, cls := .comfort, target := .opening 1, aperture := some 800,
    mode := .hold, lifetime := some 1, waitLimit := none, waitRemaining := none }

/-- The site with a record in slot 0 that heads list 1. -/
def served (r : DemandRecord) : State :=
  { base with demand := DemandTable.empty.install 0 r [1] }

/-- The site with a movement record for opening 1. -/
def moved (m : MoveRecord) : State := { base with moves := some m :: List.replicate 47 none }

/-- The site with a last reply for node 1. -/
def replied (r : DriveReply) (s : State) : State :=
  { s with bus := { s.bus with
    nodes := some { node1 with lastReply := some r } :: List.replicate 47 none } }

/-- The site with a drive node 1 in a state. -/
def noded (st : NodeState) (failures : Nat) (s : State) : State :=
  { s with bus := { s.bus with
    nodes := some { node1 with state := st, failures := failures } :: List.replicate 47 none } }

/-- The site with a target for opening 1. -/
def targeted (x : Nat) : State :=
  { base with results := some { entry1.resultAtReset with target := x } :: List.replicate 47 none }

/-- The site with a second opening like the first, the record `m` for opening 1, the order `own` of
opening 1 in flight and the order `next` queued. -/
def secondOrder (m : MoveRecord) (own next : Order) : State :=
  { base with
    moves := some m :: some move1 :: List.replicate 46 none
    bus := { base.bus with
      nodes := some node1 :: some node1 :: List.replicate 46 none
      lastTurn := .order
      queue := [next]
      inFlight := some { order := own, attempts := 1, superseded := false }
      transaction := some { node := 1, request := orderFrame own, discard := false } } }

/-- The site with a record for zone 1. -/
def zoned (z : Zone) : State :=
  { base with fire := { base.fire with zones := z :: List.replicate 7 .atReset } }

/-- The site with a record for station 1. -/
def stationed (st : Station) : State := { base with stations := st :: List.replicate 7 .atReset }

/-- The state after a command that completes, the same state where it stops. -/
def after (c : Instr) (s : State) : State :=
  match exec c s with
  | .next t => t
  | .fault _ => s
  | .refused _ => s

/-- The status of the response held after a command. -/
def answer (c : Instr) (s : State) : Option Status := (after c s).link.held.map Response.status

/-- A PLACE of COMFORT 300 on opening 1. -/
def place1 : PlaceFields :=
  { cls := 4, targetKind := 0, targetNumber := 1, aperture := 300, mode := 0, lifetime := 60,
    waitLimit := 0 }

/-! ### Well-formedness -/

theorem test_wf_supervisors :
    (∀ m ∈ [0, 5], ∀ c ∈ [Instr.place m place1, .adjust m 0 0 0, .retire m 0 0, .probe m place1,
      .listRecords m none, .readRecord m 0 0, .readOpening m 1, .readGroup m 1, .readZone m 1,
      .readWeather m, .readConditions m, .clearConditions m 0, .setMask m 0,
      .configure m 7 0 [4, 1, 16], .readConfig m 7 0, .clearFault m 1, .fireReset m, .restart m],
      c.wellFormed = false) := by decide

set_option maxRecDepth 20000 in
theorem test_wf_numbers :
    (∀ k ∈ [0, 49], ∀ c ∈ [Instr.targetEvent k, .movementReply k, .orderOutcome k,
      .nodeLostEvent k, .breakawayEnd k, .overtime k, .progressWindowEnd k, .noStop k,
      .retryTimerEnd k, .startWaitRise k], c.wellFormed = false) ∧
    (∀ k ∈ [0, 9], ∀ c ∈ [Instr.zoneLineSample k 0, .lineAcceptance k 0,
      .firemanSwitchChange k true false, .switchAcceptance k,
      .buttonContactChange k .openButton true, .buttonAcceptance k .openButton,
      .holdTimerExpiry k], c.wellFormed = false) ∧
    (∀ c ∈ [Instr.recordExpired 96, .recordStarved 96, .replyReceived [],
      .replyReceived [0, 0, 0, 0, 0, 0, 0], .configure 1 0 1 (List.replicate 199 0)],
      c.wellFormed = false) ∧
    ∀ c ∈ [Instr.place 4 place1, .targetEvent 48, .lineAcceptance 8 0, .holdTimerExpiry 1,
      .recordExpired 95, .replyReceived [0], .configure 1 0 1 (List.replicate 198 0)],
      c.wellFormed = true := by decide

/-! ### Operations, against the manual's tables -/

/-- The check of both lines on the digits 1 to 9, the standard check value of the CRC-16 with the
polynomial and initial value of R173. -/
theorem test_crc :
    crc16 [0x31, 0x32, 0x33, 0x34, 0x35, 0x36, 0x37, 0x38, 0x39] = 0x29B1#16 := by decide +kernel

/-- The table of R68. -/
theorem test_corrected_speed :
    let minus : AnemometerScale := { present := true, factor := 80, trim := 4, trimMinus := true }
    correctedSpeed minus 47 = 55 ∧ correctedSpeed { minus with trimMinus := false } 47 = 61 ∧
      correctedSpeed { minus with trim := 0 } 45 = 56 ∧ correctedSpeed minus 40 = 47 ∧
      correctedSpeed minus 900 = 1055 := by decide

/-- The table of R71 and the example of 04. -/
theorem test_filter :
    filterToward 2 40 56 = 44 ∧ filterToward 2 40 55 = 43 ∧ filterToward 2 44 47 = 45 ∧
      filterToward 2 45 0 = 34 ∧ filterToward 2 34 600 = 175 := by decide

/-- The worked case of 05. -/
theorem test_caps_and_quantise :
    let sp : ProfileSpeeds := { free := 50, close := 120 }
    computedCap sp .valid 85 = 500 ∧ computedCap sp .valid 97 = 328 ∧
      computedCap sp .over 60 = 857 ∧ computedCap sp .fault 60 = 0 ∧
      quantise entry1 328 = 325 ∧ roundingOf 328 325 = .down ∧ quantise entry1 412 = 400 ∧
      angularDistance 200 230 = 30 := by decide

/-- The deadlines of the examples of 08. -/
theorem test_deadlines :
    travelDeadline entry1 590 = 114 ∧ travelDeadline entry1 72 = 20 ∧
      travelDeadline { entry1 with strokeTime := 60, breakawayTime := 3 } 562 = 59 := by decide

/-- The example of 06 on a line going into alarm. -/
theorem test_line_classes :
    sampleClass (some .normal) 390 = .normal ∧ sampleClass (some .normal) 380 = .alarm ∧
      sampleClass (some .alarm) 410 = .alarm ∧ sampleClass none 60 = .alarm ∧
      sampleClass none 59 = .short ∧ sampleClass none 800 = .openCircuit := by decide

/-! ### One step of each command -/

set_option maxRecDepth 100000 in
theorem test_power_on_reset :
    exec (.powerOnReset false 0) State.reset = .next State.reset := rfl

theorem test_byte_and_gap :
    (after (.byteArrives 16 false) base).link.buffer = [16] ∧
      (after .discardIdleGap { base with link := .atReset }).link.rx = .idle := by decide +kernel

/-- COMFORT 300 is placed on opening 1, heads its list, and is answered whole, lifetime 60, GOVERNING (R32,
R37, R174); no wind speed has come yet, so the held cap of 0 bounds the target (R94). -/
theorem test_place :
    let t := after (.place 1 place1) base
    t.demand.headClass 1 = some .comfort ∧ answer (.place 1 place1) base = some .accepted ∧
      (t.result 1).map OpeningResult.target = some 0 ∧
      t.link.held.map Response.body = some [0, 0, 0, 1, 4, 0, 1, 0x01, 0x2C, 0, 0, 60, 0, 0, 0] := by
  decide +kernel

theorem test_place_refusals :
    answer (.place 1 { place1 with cls := 5 }) base = some .notPermitted ∧
      answer (.place 1 { place1 with cls := 6 }) base = some .badField ∧
      answer (.place 1 { place1 with targetNumber := 2 }) base = some .badField := by decide +kernel

/-- The CLOSE press of the example of 07, for a supervisor: a replacement takes the next generation. -/
theorem test_place_replaces :
    let t := after (.place 1 place1) (served rec1)
    t.demand.head 1 = some { slot := 0, gen := 1 } ∧
      t.link.held.map (fun r => r.flags.replaced) = some true := by decide +kernel

theorem test_adjust :
    let t := after (.adjust 1 0 0 300) (served rec1)
    (t.demand.inSlot 0).bind DemandRecord.aperture = some 1000 ∧
      t.link.held.map (fun r => r.flags.clamped) = some true := by decide +kernel

theorem test_retire_and_readers :
    (after (.retire 1 0 0) (served rec1)).demand.count = 0 ∧
      answer (.retire 2 0 0) (served rec1) = some .notOwner ∧
      answer (.readRecord 1 0 1) (served rec1) = some .notFound ∧
      (after (.listRecords 1 none) (served rec1)).link.held.map Response.body = some [1, 0, 0] := by
  decide +kernel

theorem test_probe :
    let t := after (.probe 1 { place1 with aperture := 2000 }) base
    t.demand = base.demand ∧ t.link.held.map (fun r => r.flags.clamped) = some true := by
  decide +kernel

theorem test_reads :
    answer (.readOpening 1 49) base = some .badField ∧
      answer (.readGroup 1 24) base = some .accepted ∧
      answer (.readZone 1 9) base = some .badField ∧
      answer (.readWeather 1) base = some .accepted := by decide +kernel

/-- The example of 11: masking and unmasking ZONE_ALARM. -/
theorem test_conditions :
    let t := after (.conditionReport .weatherUnit) { base with mail := { Mail.empty with
      reports := [{ owner := .weatherUnit, lives := [(.rain, true)], events := [] }] } }
    t.conditions.attention = true ∧
      (after (.clearConditions 1 0x80) t).conditions.attention = false ∧
      (after (.setMask 1 0x80) t).conditions.attention = false ∧
      (after (.setMask 1 0) t).conditions.attention = true := by decide +kernel

theorem test_configure :
    let t := after (.configure 1 7 0 [3, 1, 17]) base
    t.store.writing.isSome = true ∧ t.link.held = none ∧
      (after (.writeComplete 0) t).store.movement.value.partAddress = 17 ∧
      ((after .writeFail t).link.deferred.map Response.status) = some .storeFault := by decide +kernel

theorem test_configure_refusals :
    answer (.configure 1 7 0 [3, 4, 17]) base = some .badField ∧
      answer (.configure 2 7 0 [3, 1, 17]) base = some .notPermitted ∧
      answer (.configure 1 1 1 [0]) (served { rec1 with target := .group 1 }) = some .badField ∧
      answer (.readConfig 1 8 0) base = some .badField ∧
      answer (.configure 1 7 0 [3, 1, 17]) (after .writeFail (after (.configure 1 7 0 [3, 1, 17]) base))
        = some .busy := by decide +kernel

theorem test_restart :
    let t := after (.restart 1) base
    (after .transmissionEnd (after .heldResponseSend t)).link.restartDue = true ∧
      (after (.heldResponseDiscard 16 false) t).link.restartDue = true ∧
      (after (.restartTaken false 240) (after .transmissionEnd (after .heldResponseSend t))).conditions.cause
        = .restart := by decide +kernel

/-- The example of 02: the second second of a lifetime. -/
theorem test_lifetimes :
    (after .demandTick (served rec1)).demand.count = 0 ∧
      (after (.recordExpired 0) (served rec1)).demand.handleOf 0 = { slot := 0, gen := 1 } ∧
      (after (.recordStarved 0) (served rec1)).demand.count = 1 := by decide +kernel

/-- Gate 1 of the example of 04, and the caps of the worked case of 05. -/
theorem test_gate_end :
    let w := { base.weather with
      filtered := 40, takeOver := false, anemA := { base.weather.anemA with count := 47 },
      anemB := { base.weather.anemB with count := 45 } }
    let t := (after .gateEnd { base with weather := w }).weather
    t.anemA.value = some 55 ∧ t.sample = some 56 ∧ t.filtered = 44 ∧
      t.capWindward.computed = 1000 ∧ t.capWindward.timer = some 0 := by decide +kernel

/-- The example of 04 on a change of held direction. -/
theorem test_vane :
    let w := { base.weather with heldDir := some 230 }
    (after (.vaneReading (some 252)) { base with weather := w }).weather.dwell = some 0 ∧
      (after (.vaneReading (some 241)) { base with weather := w }).weather.dwell = none ∧
      (after (.vaneReading (some 360)) base).weather.vaneClass = .fault ∧
      (after .vaneStale base).weather.vaneClass = .stale := by decide +kernel

theorem test_rain_and_probe :
    (after .wetHoldEnd { base with weather := { base.weather with
      wetHold := some 19 } }).weather.wet = true ∧
      (after (.probeReading (some (-81))) base).weather.tempValue = some (-80) ∧
      (after (.supplySample 401) base).weather.supplyClass = .over := by decide +kernel

/-- Sample 7 of the example of 06, the scenario's placement, and the reset that returns the zone. -/
theorem test_zone_alarm :
    let t := after (.zoneLineSample 1 248) (zoned { zone1 with candidate := some .alarm, agreement := 2 })
    (t.zone 1).map Zone.state = some .alarm ∧ t.demand.headClass 1 = some .smoke ∧
      (t.zone 1).map Zone.alarmLamp = some .steady := by decide +kernel

theorem test_fire_reset :
    let t := after (.fireReset 1) (zoned { zone1 with state := .latched })
    (t.zone 1).map Zone.state = some .normal ∧ t.link.held.map Response.body = some [1] := by
  decide +kernel

theorem test_switch :
    let t := after (.switchAcceptance 1) (zoned { zone1 with openMade := true })
    t.demand.headClass 1 = some .fireman ∧ (t.zone 1).map Zone.switchPos = some .openPos := by
  decide +kernel

/-- The first press of the example of 07. -/
theorem test_short_press :
    let st : Station := { Station.atReset with
      openButton := { made := false, pressed := true, timer := some 50 }
      closeButton := { made := false, pressed := false, timer := none }
      gesture := .heldOpen, holdTimer := some 2000 }
    let t := after (.buttonAcceptance 1 .openButton) (stationed st)
    (t.demand.headRecord 1).bind DemandRecord.aperture = some 300 ∧
      (t.stationOf 1).bind Station.handle = some { slot := 0, gen := 0 } := by decide +kernel

/-- The first and the eighth rows of the example of 08. -/
theorem test_target_event :
    let told (x : Nat) : Mail := { Mail.empty with
      targets := [{ opening := 1, target := x, cls := some .comfort, changed := true }] }
    let up := { move1 with state := .travel, direction := some .up, deadline := some 107 }
    ((after (.targetEvent 1) { targeted 790 with mail := told 790 }).move 1).map MoveRecord.deadline =
        some (some 114) ∧
      ((after (.targetEvent 1) { moved up with mail := told 150 }).move 1).map MoveRecord.stopTimer =
        some (some 3) := by decide +kernel

/-- The first row of the example of 08 on a smoke move that fails twice. -/
theorem test_jam_retried :
    let m := { move1 with state := .travel, direction := some .up, classTold := some .smoke }
    let r : ReplyTold :=
      { opening := 1, before := some 400, isolated := false, position := 436, motion := .opening
        overcurrent := true }
    let t := after (.movementReply 1) { moved m with mail := { Mail.empty with replies := [r] } }
    (t.move 1).map MoveRecord.state = some .retryWait ∧
      (t.move 1).map MoveRecord.retryTimer = some (some 10) ∧
      t.bus.queue = [{ opening := 1, kind := .stop }] := by decide +kernel

theorem test_movement_tick :
    let b := { move1 with state := .breakaway, breakaway := some 1, deadline := some 113 }
    let v := { move1 with state := .travel, deadline := some 1 }
    ((after .movementTick (moved b)).move 1).map MoveRecord.progressWindow = some (some 5) ∧
      ((after (.overtime 1) (moved v)).move 1).map MoveRecord.faultReason = some (some .overtime) := by
  decide +kernel

theorem test_bus_turns :
    let s := { base with bus := { base.bus with queue := [{ opening := 1, kind := .stop }] } }
    (after .orderTurn s).bus.inFlight.isSome = true ∧
      (after .pollTurn base).bus.transaction.map Transaction.node = some 1 := by decide +kernel

/-- R155: an order whose opening is FAULTED by its repetition is discarded, and the next entry is sent
within the same turn. -/
theorem test_next_order_within_turn :
    let own : Order := { opening := 1, kind := .move 300 }
    let next : Order := { opening := 2, kind := .stop }
    let t := after .noReply (secondOrder { move1 with state := .faulted } own next)
    t.bus.inFlight = some { order := next, attempts := 1, superseded := false } ∧
      t.bus.queue = [] ∧ t.mail.outcomes = [{ opening := 1, ending := .discarded }] := by
  decide +kernel

theorem test_node_lost :
    let s := noded .online 2 { base with bus := { base.bus with
      transaction := some { node := 1, request := pollFrame 1, discard := false } } }
    (after .noReply s).nodeState 1 = some .lost ∧ (after .noReply s).mail.lost = [1] ∧
      (after (.replyReceived [1, 0, 0]) s).nodeState 1 = some .lost := by decide +kernel

/-! ### Witnesses: states and operands that meet the premises of each obligation -/

theorem witness_StepRunsFrontCommand : base.pending = [] := rfl

theorem witness_WellFormedCommandsComplete :
    (Instr.targetEvent 48).wellFormed = true ∧ isOpening 0 = false ∧ isOpening 49 = false ∧
      isZone 0 = false ∧ isZone 9 = false ∧ isStation 9 = false ∧ isSlot 96 = false := by decide

theorem witness_CommandsTouchOnlyTheirBlocks :
    exec (.readWeather 1) base = .next (base.takeReadWeather 1) ∧
      exec (.rainSample true) base =
        .next (base.weatherEvent (base.weather.rainSample weather1 true)) ∧
      exec (.supplySample 240) base =
        .next (base.weatherEvent (base.weather.supplySample weather1 240)) := ⟨rfl, rfl, rfl⟩

/-- A transaction with node 1 is under way. -/
def busy : State :=
  { base with bus := { base.bus with
    transaction := some { node := 1, request := pollFrame 1, discard := false } } }

theorem witness_UnitsKeptApart :
    exec (.lineAcceptance 8 0) base = .next base ∧ exec (.holdTimerExpiry 1) base = .next base ∧
      base.stationOf 8 = some Station.atReset ∧
      exec (.targetEvent 48) base = .next base ∧
      exec .noReply busy = .next (busy.transactionFailed 1 .noReply) ∧
      busy.bus.transaction.isSome = true ∧
      exec (.recordExpired 95) (served rec1) = .next (served rec1) ∧
      (served rec1).demand.inSlot 0 = some rec1 ∧
      exec .vaneStale base = .next (base.weatherEvent
        { base.weather with vaneClass := .stale, vaneTimer := none }) ∧
      exec (.rainSample true) base =
        .next (base.weatherEvent (base.weather.rainSample weather1 true)) ∧
      exec (.supplySample 240) base =
        .next (base.weatherEvent (base.weather.supplySample weather1 240)) :=
  ⟨rfl, rfl, rfl, rfl, rfl, rfl, rfl, rfl, rfl, rfl, rfl⟩

theorem witness_ReceiverMovesByTable :
    base.link.sending = none ∧ base.link.held = none ∧
      (let l := { base.link with rx := .receiving, buffer := List.replicate 206 0 };
        l.rx = .receiving ∧ l.buffer.length = 206 ∧ l.sending = none ∧ l.held = none) ∧
      Link.atReset.rx = .discarding ∧ Link.atReset.sending = none := by decide +kernel

/-- The response to a RESTART. -/
def restartResponse : Response :=
  { source := 16, dest := 1, code := 0x92#8, status := .accepted, flags := .none,
    attention := false, body := [] }

theorem witness_ResponsesAreSentOrDiscarded :
    (let s := after (.restart 1) base;
      s.link.held = some restartResponse ∧ s.link.sending = none ∧ s.link.rx = .idle) ∧
    (let l := { base.link with deferred := some restartResponse };
      l.deferred = some restartResponse ∧ l.rx = .idle ∧ l.held = none ∧ l.sending = none) ∧
    (let l := { Link.atReset with deferred := some restartResponse };
      l.deferred = some restartResponse ∧ l.rx ≠ .idle) ∧
    (after .heldResponseSend (after (.restart 1) base)).link.sending = some restartResponse := by
  decide +kernel

/-- The site with a frame in its receive buffer. -/
def framed (frame : List Byte) : State :=
  { base with link := { base.link with rx := .receiving, buffer := frame } }

theorem witness_RequestFramesAreTakenAsTheirRequests :
    let s := framed (requestFrame 16 1 0x01#8 (placePayload place1))
    requestParts (.place 1 place1) = some (1, 0x01#8, placePayload place1) ∧
      (Instr.place 1 place1).wellFormed = true ∧ s.store.movement.value.partAddress ≤ 31 ∧
      s.link.rx = .receiving ∧ s.link.sending = none ∧ s.link.misframed = false ∧
      s.link.buffer =
        requestFrame s.store.movement.value.partAddress 1 0x01#8 (placePayload place1) := by
  decide +kernel

theorem witness_BadFramesChangeNothing :
    let short := (framed [16, 1, 0x12, 0, 0]).link
    let wrongCheck := (framed [16, 1, 0x12, 0, 0, 0]).link
    let other := (framed (requestFrame 17 1 0x12#8 [])).link
    let source := (framed (requestFrame 16 5 0x12#8 [])).link
    let code := (framed (requestFrame 16 1 0x80#8 [])).link
    let long := (framed (requestFrame 16 1 0x0E#8 (List.replicate 201 0))).link
    let broken := (after (.byteArrives 0 true) (framed [16, 1, 0x12, 0, 0])).link
    short.rx = .receiving ∧ short.sending = none ∧ short.buffer.length < 6 ∧
      (200 < (long.buffer.getD 3 0).toNat) ∧
      wrongCheck.buffer.drop 4 ≠ splitWord (crc16 (wrongCheck.buffer.take 4)) ∧
      (other.buffer.getD 0 0).toNat ≠ base.store.movement.value.partAddress ∧
      isSupervisor (source.buffer.getD 1 0).toNat = false ∧
      0x80 ≤ (code.buffer.getD 2 0).toNat ∧
      broken.misframed = true ∧ broken.rx = .receiving ∧ broken.sending = none := by decide +kernel

/-- The record that `place1` asks for. -/
def placed1 : DemandRecord :=
  { source := .supervisor 1, cls := .comfort, target := .opening 1, aperture := some 300,
    mode := .hold, lifetime := some 60, waitLimit := none, waitRemaining := none }

theorem witness_PlaceInstallsRecord :
    isSupervisor 1 = true ∧ base.classPermitted 1 place1.cls = true ∧
      base.placedRecord 1 place1 = some placed1 ∧
      base.demand.refusal placed1 (base.store.covered placed1.target) = none ∧
      base.demand.lists.length = 48 ∧ (served rec1).demand.matching placed1 = some 0 ∧
      (served rec1).demand.refusal placed1 [1] = none ∧
      (base.store.covered placed1.target).Nodup ∧
      (let s := served { rec1 with cls := .purge, mode := .yield };
        s.demand.find { slot := 0, gen := 0 } =
          some { rec1 with cls := .purge, mode := .yield } ∧
        { slot := 0, gen := 0 } ∈ s.demand.list 1 ∧ s.demand.matching placed1 = none ∧
        s.demand.refusal placed1 [1] = none ∧ s.placedRecord 1 place1 = some placed1 ∧
        (after (.place 1 place1) s).demand.list 1 = [{ slot := 1, gen := 0 }]) := by
  decide +kernel

/-- A table whose 96 slots hold records of supervisor 2 on opening 2. -/
def full : DemandTable :=
  { DemandTable.empty with
    slots := List.replicate 96 { gen := 0, record := some { rec1 with target := .opening 2 } } }

/-- A table whose list 1 holds 8 handles. -/
def crowded : DemandTable :=
  { DemandTable.empty with
    lists := ((List.range 8).map fun k => { slot := k, gen := 0 }) :: List.replicate 47 [] }

theorem witness_PlaceRefusedInOrder :
    classOfCode 5 = some .purge ∧ (base.store.supervisor 1).mayPlace .purge = false ∧
      base.classPermitted 1 6 = true ∧ base.placedRecord 1 { place1 with cls := 6 } = none ∧
      full.matching placed1 = none ∧ full.freeSlot = none ∧
      crowded.matching placed1 = none ∧ crowded.freeSlot ≠ none ∧
      1 ∈ base.store.covered placed1.target ∧ 8 ≤ (crowded.list 1).length := by decide +kernel

theorem witness_ProbeLeavesNoTrace :
    base.classPermitted 1 5 = false ∧ base.placedRecord 1 { place1 with mode := 2 } = none ∧
      base.placedRecord 1 place1 = some placed1 ∧ base.demand.refusal placed1 [1] = none ∧
      full.refusal placed1 [1] = some .noSlot ∧ crowded.refusal placed1 [1] = some .listFull := by
  decide +kernel

theorem witness_AdjustMovesAperture :
    (served rec1).demand.find { slot := 0, gen := 0 } = some rec1 ∧
      rec1.source = .supervisor 1 ∧ rec1.cls ≠ .lockout ∧ rec1.aperture = some 800 ∧
      -1000 ≤ (1000#16 : Word16).toInt ∧ (1000#16 : Word16).toInt ≤ 1000 := by decide +kernel

theorem witness_RetireFreesSlot :
    isSupervisor 1 = true ∧ (served rec1).demand.find { slot := 0, gen := 0 } = some rec1 ∧
      rec1.source = .supervisor 1 := by decide +kernel

theorem witness_OthersRecordsAreSafe :
    isSupervisor 2 = true ∧ (served rec1).demand.find { slot := 0, gen := 1 } = none ∧
      (served rec1).demand.find { slot := 0, gen := 0 } = some rec1 ∧
      rec1.source ≠ .supervisor 2 ∧ rec1.cls ≠ .lockout ∧
      -1000 ≤ (0#16 : Word16).toInt ∧ (0#16 : Word16).toInt ≤ 1000 := by decide +kernel

theorem witness_RecordsReadAsTheyStand :
    isSupervisor 4 = true ∧ sourceOf 0 5 = none ∧
      (served rec1).demand.find { slot := 0, gen := 1 } = none ∧
      (served rec1).demand.find { slot := 0, gen := 0 } = some rec1 := by decide +kernel

theorem witness_ReadsAnswerWhatStands :
    isOpening 49 = false ∧ isOpening 48 = true ∧ base.result 48 = none ∧
      base.result 1 = some { entry1.resultAtReset with target := 200 } ∧
      base.move 1 = some move1 ∧ base.node 1 = some node1 ∧ isZone 9 = false ∧
      base.zone 1 = some zone1 ∧ nth base.store.openings 1 = some (loaded entry1) ∧
      base.store.openings.length < 49 := by
  decide +kernel

/-- An entry of every kind of one index, and the index above each range. -/
theorem witness_ReadsAnswerWhatStands_config :
    nth base.store.groups 1 = some (loaded [1]) ∧ nth base.store.zones 1 = some (loaded true) ∧
      nth base.store.scenarios 1 = some (loaded [{ group := 1, aperture := 500 }]) ∧
      (nth base.store.stations 1).isSome = true ∧
      nth base.store.supervisors 1 = some (loaded sup1) ∧ base.store.groups.length < 25 ∧
      base.store.zones.length < 9 ∧ base.store.scenarios.length < 9 ∧
      base.store.stations.length < 9 ∧ base.store.supervisors.length < 5 ∧
      (after (.readConfig 1 5 1) base).link.held.map Response.body =
        some [5, 1, 0, 0x1C, 1, 1, 1] ∧
      answer (.readConfig 1 5 5) base = some .badField := by decide +kernel

/-- A handle is found only in the slot that it names. -/
theorem slot_of_find {t : DemandTable} {h : Handle} {r : DemandRecord} (hr : t.find h = some r) :
    t.inSlot h.slot = some r ∧ t.handleOf h.slot = h := by
  obtain ⟨k, g⟩ := h
  unfold DemandTable.find at hr
  unfold DemandTable.inSlot DemandTable.handleOf
  split at hr
  next sl hs =>
    split at hr
    next hg => exact ⟨by simp only [hr], by simp only [hg]⟩
    next => cases hr
  next => cases hr

/-- With a FIREMAN record of zone 1 in slot 0 its handle, and without one no handle, meets the premise of
READ_ZONE. -/
theorem witness_ReadsAnswerWhatStands_fireman :
    (∀ h, (∃ r, base.demand.find h = some r ∧ r.source = .fireman 1) ↔ none = some h) ∧
      ∀ h, (∃ r, (served (firemanRecord 1 0)).demand.find h = some r ∧ r.source = .fireman 1) ↔
        some { slot := 0, gen := 0 } = some h := by
  have bound : ∀ (t : DemandTable) k r, t.inSlot k = some r → k < t.slots.length := by
    intro t k r hk
    unfold DemandTable.inSlot at hk
    split at hk
    next sl hs => exact (List.getElem?_eq_some_iff.1 hs).1
    next => cases hk
  refine ⟨fun h => ⟨?_, fun hn => by cases hn⟩, fun h => ⟨?_, ?_⟩⟩
  · rintro ⟨r, hr, -⟩
    have hk := (slot_of_find hr).1
    have hall : ∀ k ∈ List.range base.demand.slots.length, base.demand.inSlot k = none := by
      decide +kernel
    rw [hall _ (List.mem_range.2 (bound _ _ _ hk))] at hk
    cases hk
  · rintro ⟨r, hr, -⟩
    obtain ⟨hk, hh⟩ := slot_of_find hr
    have hall : ∀ k ∈ List.range (served (firemanRecord 1 0)).demand.slots.length,
        (served (firemanRecord 1 0)).demand.inSlot k = none ∨ k = 0 := by decide +kernel
    rcases hall _ (List.mem_range.2 (bound _ _ _ hk)) with hn | h0
    · rw [hn] at hk; cases hk
    · rw [h0] at hh; rw [← hh]; decide +kernel
  · intro hh
    cases hh
    exact ⟨firemanRecord 1 0, by decide +kernel, rfl⟩

theorem witness_ClearAndMaskConditions :
    isSupervisor 1 = true ∧ (0x7FFFF#24).toNat < 2 ^ 19 ∧ 2 ^ 19 ≤ (0x80000#24).toNat := by decide

theorem witness_ReportIsTaken :
    let r : Report :=
      { owner := .weatherUnit, lives := [(.rain, true), (.frost, false)], events := [] }
    let s := { base with mail := { Mail.empty with reports := [r] } }
    takeFirst (fun x => x.owner == .weatherUnit) s.mail.reports = some (r, []) ∧
      (r.lives.map Prod.fst).Nodup := by decide +kernel

theorem witness_ConfigureStartsWrite :
    let ev : EntryValue := .movement { normalBudget := 3, lowBudget := 1, partAddress := 17 }
    isSupervisor 1 = true ∧ (base.store.supervisor 1).mayConfigure = true ∧
      parseEntry 7 0 [3, 1, 17] = some ev ∧ ev.valid = true ∧
      base.store.relationsHold ev = true ∧ base.store.writing = none ∧
      base.link.deferred = none ∧ base.entryInUse ev = false ∧
      parseEntry 0 1 (entry1.bytes) = some (.opening 1 entry1) ∧
      nth base.store.openings 1 = some (loaded entry1) ∧
      (loaded entry1).inEffect = some .first ∧ base.entryInUse (.opening 1 entry1) = false := by
  decide +kernel

/-- The response of an accepted RESTART still waits when an accepted CONFIGURE is taken: it is discarded
and the restart is due (R165, R172). -/
theorem witness_ConfigureStartsWrite_held :
    let s := after (.restart 1) base
    let t := after (.configure 1 7 0 [3, 1, 17]) s
    s.link.held.map Response.restarts = some true ∧ s.store.writing = none ∧
      s.link.deferred = none ∧ s.link.restartDue = false ∧ t.store.writing.isSome = true ∧
      t.link.held = none ∧ t.link.restartDue = true := by decide +kernel

/-- The site with the write of a movement block under way. -/
def writing1 : State := after (.configure 1 7 0 [3, 1, 17]) base

/-- The write of a movement block with a budget of 0. -/
def write0 : EntryWrite :=
  { entry := .movement { normalBudget := 0, lowBudget := 0, partAddress := 16 }, sender := 1,
    kind := 7, index := 0 }

/-- Opening 1 is in BREAKAWAY, and a movement block with a budget of 0 is being written. -/
def writing0 : State :=
  { moved { move1 with state := .breakaway } with
    store := { store1 with writing := some write0 } }

theorem witness_PermissionsAndOrderOfRefusals :
    (base.store.supervisor 2).mayConfigure = false ∧ (base.store.supervisor 2).mayFireReset = false ∧
      (base.store.supervisor 2).mayRestart = false ∧ (base.store.supervisor 1).mayRestart = true ∧
      parseEntry 8 0 [] = none ∧
      parseEntry 7 0 [3, 4, 17] =
        some (.movement { normalBudget := 3, lowBudget := 4, partAddress := 17 }) ∧
      (EntryValue.movement { normalBudget := 3, lowBudget := 4, partAddress := 17 }).valid = false ∧
      parseEntry 1 1 [0] = some (.group 1 []) ∧ base.store.relationsHold (.group 1 []) = false ∧
      writing1.store.writing ≠ none ∧ (after .writeFail writing1).link.deferred ≠ none ∧
      (after .writeFail writing1).store.writing = none ∧ base.link.deferred = none ∧
      parseEntry 1 1 [1, 1] = some (.group 1 [1]) ∧ (EntryValue.group 1 [1]).valid = true ∧
      base.store.relationsHold (.group 1 [1]) = true ∧
      (served { rec1 with target := .group 1 }).entryInUse (.group 1 [1]) = true := by
  decide +kernel

theorem witness_WriteCompleteTakesEffect :
    let w : EntryWrite :=
      { entry := .movement { normalBudget := 3, lowBudget := 1, partAddress := 17 }, sender := 1,
        kind := 7, index := 0 }
    writing1.store.writing = some w ∧ writing1.entryInUse w.entry = false ∧
      nth writing1.store.openings 48 = some (.blank .factory) := by decide +kernel

/-- A write under way of an entry, on a state with one. -/
def writingOf (ev : EntryValue) (s : State) : State :=
  { s with store := { s.store with
      writing := some { entry := ev, sender := 1, kind := 0, index := 1 } } }

/-- The state after a write of `ev` on `s`, where the entry is not in use. -/
def written (ev : EntryValue) (s : State) : State := after (.writeComplete 0) (writingOf ev s)

/-- The site with no group, so that opening 1 may be disabled. -/
def ungrouped (s : State) : State :=
  { s with store := { s.store with groups := List.replicate 24 (.blank []) } }

/-- The writes of opening 1: one that brings it to wait and start, one that disables it while its node is
LOST, and one that enables opening 2. -/
theorem witness_WriteCompleteTakesEffect_opening :
    let near := .opening 1 { entry1 with rest := 25, deadband := 50 }
    let off := .opening 1 { entry1 with enabled := false }
    let s := ungrouped (noded .lost 3 (moved { move1 with state := .faulted }))
    (writingOf near (targeted 300)).entryInUse near = false ∧
      nth base.store.openings 1 = some (loaded entry1) ∧ base.move 1 = some move1 ∧
      ((written near (targeted 300)).result 1).map OpeningResult.target = some 0 ∧
      (written near (targeted 300)).moveState 1 = some .breakaway ∧
      (writingOf off s).entryInUse off = false ∧ s.moveState 1 = some .faulted ∧
      s.nodeState 1 = some .lost ∧ (written off s).move 1 = none ∧ (written off s).node 1 = none ∧
      (written off s).bus.rotation = 0 ∧ base.bus.rotation = 1 ∧
      (writingOf (.opening 2 entry1) base).entryInUse (.opening 2 entry1) = false ∧
      (base.store.opening 2).enabled = false ∧ base.result 2 = none ∧
      (written (.opening 2 entry1) base).moveState 2 = some .unknown ∧
      (written (.opening 2 entry1) base).nodeState 2 = some .unpolled := by decide +kernel

/-- The writes of a zone, a group and a station. -/
theorem witness_WriteCompleteTakesEffect_units :
    let off := zoned { zone1 with state := .disabled, accepted := some .alarm }
    let held := stationed { Station.atReset with gesture := .heldOpen, holdTimer := some 2000 }
    (writingOf (.zone 1 true) off).entryInUse (.zone 1 true) = false ∧
      off.mail.stepsOf 1 = [] ∧ handlesLive off.demand ∧
      ((written (.zone 1 true) off).zone 1).map Zone.state = some .alarm ∧
      (written (.zone 1 true) off).demand.headClass 1 = some .smoke ∧
      (writingOf (.zone 1 false) base).entryInUse (.zone 1 false) = false ∧
      ((written (.zone 1 false) base).zone 1).map Zone.state = some .disabled ∧
      (writingOf (.group 1 [1]) held).entryInUse (.group 1 [1]) = false ∧
      (held.store.station 1).group = 1 ∧
      ((written (.group 1 [1]) held).stationOf 1).map Station.gesture = some .spent ∧
      (writingOf (.station 1 .factory) held).entryInUse (.station 1 .factory) = false ∧
      ((written (.station 1 .factory) held).stationOf 1).map Station.holdTimer = some none ∧
      (writingOf (.scenario 1 []) base).entryInUse (.scenario 1 []) = false ∧
      (writingOf (.supervisor 1 sup1) base).entryInUse (.supervisor 1 sup1) = false := by
  unfold handlesLive; decide +kernel

/-- A weather block without its vane, probe and rain contact, one with a single anemometer again, and a
movement block with a budget of 1 while opening 1 waits. -/
theorem witness_WriteCompleteTakesEffect_blocks :
    let bare : WeatherBlock :=
      { weather1 with vanePresent := false, rainPresent := false, probePresent := false }
    let none1 : WeatherBlock :=
      { weather1 with
        anemA := { weather1.anemA with present := false }
        anemB := { weather1.anemB with present := false } }
    let s := { base with weather := { base.weather with heldDir := some 9, wet := true, tempState := .low } }
    let u := { base with store := { store1 with weather := loaded none1 } }
    let waits := { moved { move1 with state := .waitSlot, waitAge := some 0 } with
      results := (targeted 790).results }
    let one : MovementBlock := { normalBudget := 1, lowBudget := 0, partAddress := 17 }
    bare ≠ base.store.weather.value ∧ (written (.weather bare) s).weather.heldDir = none ∧
      (written (.weather bare) s).weather.wet = false ∧
      (written (.weather bare) s).weather.tempState = .normal ∧
      (written (.weather weather1) u).weather.capTakeOver = true ∧
      u.weather.capTakeOver = false ∧ (written (.weather weather1) base).weather = base.weather ∧
      (writingOf (.movement one) waits).entryInUse (.movement one) = false ∧
      waits.eligible 1 = true ∧ waits.target 1 ≠ none ∧
      waits.breakawayOpenings.length < one.normalBudget ∧ waits.weather.lowSupply = false ∧
      (written (.movement one) waits).moveState 1 = some .breakaway := by decide +kernel

theorem witness_WriteAbandonedOrFailed :
    writing0.store.writing = some write0 ∧ writing0.entryInUse write0.entry = true := by
  decide +kernel

theorem witness_ResetLeaves :
    (after .transmissionEnd (after .heldResponseSend (after (.restart 1) base))).link.restartDue =
        true ∧
      base.store.enabled 1 = true ∧ base.store.enabled 2 = false ∧ base.zone 8 = some .atReset := by
  decide +kernel

/-- Counts 129 and 128 apart, where the clauses of R14 meet. -/
theorem witness_LoadTakesNewerValidCopy :
    let e := loaded entry1
    let older := { e with second := { e.second with sequence := 71 } }
    base.store.writing = none ∧ nth base.store.openings 1 = some e ∧
      (e.first.checkMatches && e.first.value.valid) = true ∧
      (e.second.checkMatches && e.second.value.valid) = true ∧
      (older.first.sequence.toNat + 256 - older.second.sequence.toNat) % 256 = 129 ∧
      (e.first.sequence.toNat + 256 - e.second.sequence.toNat) % 256 < 129 ∧
      nth base.store.openings 48 = some (.blank .factory) ∧
      (Entry.blank OpeningEntry.factory).first.checkMatches = false := by decide +kernel

/-- A load whose pass over the relations keeps group 1 and scenario 1, empties group 2, whose member is not
enabled, and with it scenario 2, and gives supervisor 1 its default (R19). -/
theorem witness_LoadTakesNewerValidCopy_relations :
    let st : Store := { store1 with
      groups := loaded [1] :: loaded [2] :: List.replicate 22 (.blank [])
      scenarios := loaded [{ group := 1, aperture := 500 }] ::
        loaded [{ group := 2, aperture := 500 }] :: List.replicate 6 (.blank [])
      supervisors := loaded { sup1 with mayConfigure := false } :: store1.supervisors.drop 1 }
    let t := (after (.powerOnReset false 240) { base with store := st }).store
    st.writing = none ∧ nth st.groups 2 = some (loaded [2]) ∧ t.group 1 = [1] ∧ t.group 2 = [] ∧
      t.scenario 1 = [{ group := 1, aperture := 500 }] ∧ t.scenario 2 = [] ∧
      (t.supervisor 1).mayConfigure = true ∧ (t.supervisor 1).mayLockout = false ∧
      (after (.powerOnReset false 240) base).store.supervisor 1 = sup1 := by decide +kernel

/-- A write of opening 1 under way, its spare copy begun, a RESTART due (R20). -/
theorem witness_LoadTakesNewerValidCopy_write :
    let v := { entry1 with rest := 25 }
    let e : Entry OpeningEntry :=
      { loaded entry1 with second := { checkMatches := false, sequence := 201, value := v } }
    let w : EntryWrite := { entry := .opening 1 v, sender := 1, kind := 0, index := 1 }
    let s := { base with
      store := { store1 with
        writing := some w, openings := e :: List.replicate 47 (.blank .factory) }
      link := { base.link with restartDue := true } }
    s.link.restartDue = true ∧ s.store.writing = some w ∧ w.entry = .opening 1 v ∧
      nth s.store.openings 1 = some e ∧ e.inEffect = some .first ∧
      e.first.checkMatches = true ∧ e.first.value.valid = true ∧ e.second.checkMatches = false ∧
      e.second.value = v ∧ v.valid = true ∧ e.second.sequence = e.first.sequence + 1 ∧
      ((after (.restartTaken true 240) s).store.opening 1).rest = 25 ∧
      ((after (.restartTaken false 240) s).store.opening 1).rest = 0 := by decide +kernel

theorem witness_ClearFaultReturnsOpening :
    let m := { move1 with state := .faulted, faultReason := some .jammed, retries := 1 }
    let s := noded .isolated 0 (moved m)
    base.store.enabled 1 = true ∧ s.store.enabled 1 = true ∧ s.move 1 = some m ∧
      s.nodeState 1 ≠ some .online ∧ base.move 1 = some move1 ∧ move1.state ≠ .faulted ∧
      move1.state ≠ .retryWait ∧ base.grantOne = none ∧ base.store.enabled 2 = false := by
  decide +kernel

/-- A FAULTED or RETRY_WAIT opening whose node is ONLINE: stopped at its target it rests, stopped elsewhere
it is granted a slot, and moving it is stopped. -/
theorem witness_ClearFaultReturnsOpening_online :
    let m := { move1 with state := .faulted, faultReason := some .jammed, retries := 1 }
    let w := { move1 with state := .retryWait, retryTimer := some 4, retries := 1 }
    let far := { targeted 400 with moves := some w :: List.replicate 47 none }
    let moving := replied { reply1 with motion := .closing } (moved m)
    (moved m).nodeState 1 = some .online ∧ (moved m).move 1 = some m ∧ far.move 1 = some w ∧
      far.nodeState 1 = some .online ∧ moving.nodeState 1 = some .online ∧
      (after (.clearFault 1 1) (moved m)).move 1 = some move1 ∧
      (after (.clearFault 1 1) far).moveState 1 = some .breakaway ∧
      (after (.clearFault 1 1) moving).moveState 1 = some .stopping := by decide +kernel

theorem witness_FireResetReturnsLatchedZones :
    let z := { zone1 with state := .latched }
    let s := { zoned z with fire := { (zoned z).fire with keyMade := true, keyPressed := false } }
    (s.store.supervisor 1).mayFireReset = true ∧ s.fire.keyTimer.isSome = true ∧
      s.fire.keyMade = true ∧ s.fire.keyPressed = false ∧ s.zone 1 = some z ∧
      z.state = .latched ∧ z.accepted = some .normal ∧ s.zone 8 = some .atReset ∧
      Zone.atReset.state ≠ .latched := by decide +kernel

/-- A LATCHED zone whose line stands at SHORT, with a FAULTED opening of its own. -/
theorem witness_FireResetReturnsLatchedZones_short :
    let z := { zone1 with state := .latched, accepted := some .short, lineFault := true }
    let m := { move1 with state := .faulted, faultReason := some .stalled, retries := 1 }
    let s := { zoned z with moves := some m :: List.replicate 47 none }
    let t := after (.fireReset 1) s
    s.zone 1 = some z ∧ z.state = .latched ∧ s.store.enabled 1 = true ∧
      (s.store.opening 1).zone = 1 ∧ s.move 1 = some m ∧ m.state = .faulted ∧
      t.move 1 = some move1 ∧ (t.zone 1).map Zone.state = some .fault ∧
      (t.mail.reports.any fun x => x.owner == .fireUnit && x.events.contains .zoneLineFault &&
        x.lives.contains (.zoneAlarm, false)) = true ∧
      (base.move 1 = some move1 ∧ move1.state ≠ .faulted) := by decide +kernel

theorem witness_TimersRetireRecords :
    (served rec1).demand.inSlot 0 = some rec1 ∧ rec1.lifetime = some 1 ∧
      (let r := { rec1 with lifetime := some 2 };
        r.lifetime = some (0 + 2) ∧ r.waitLimit = none ∧ r.waitRemaining = none) ∧
      (let r := { rec1 with lifetime := none, waitLimit := some 3, waitRemaining := some 1 };
        let s := { base with demand :=
          (DemandTable.empty.install 0 r [1]).install 1 { rec1 with cls := .lockout } [1] };
        s.demand.inSlot 0 = some r ∧ s.demand.headedBy (s.demand.handleOf 0) = [] ∧
        s.demand.lists.length = 48) ∧
      (let r := { rec1 with lifetime := none, waitLimit := some 3, waitRemaining := some (0 + 2) };
        let lock := { rec1 with cls := .lockout };
        let s := { base with demand :=
          (DemandTable.empty.install 0 r [1]).install 1 lock [1] };
        let stays := { lock with lifetime := none };
        let kept := { base with demand :=
          (DemandTable.empty.install 0 r [1]).install 1 stays [1] };
        s.demand.inSlot 0 = some r ∧ s.demand.headedBy (s.demand.handleOf 0) = [] ∧
        ((after .demandTick kept).demand.inSlot 0).map DemandRecord.waitRemaining = some (some 1) ∧
        ((after .demandTick s).demand.inSlot 0).map DemandRecord.waitRemaining = some (some 3)) ∧
      (served { rec1 with lifetime := none }).demand.headedBy { slot := 0, gen := 0 } ≠ [] ∧
      rec1.waitRemaining ≠ some 0 ∧ rec1.waitRemaining ≠ some 1 ∧
      (served rec1).demand.headedBy ((served rec1).demand.handleOf 0) ≠ [] := by decide +kernel

theorem witness_QuantiseTakesNearestMultiple :
    1 ≤ entry1.step ∧ entry1.limit % entry1.step = 0 ∧ 600 ≤ entry1.limit := by decide

/-- A head of each kind: COMFORT, SMOKE with and without STORM, FIREMAN, LOCKOUT with its frozen
aperture to be set (from position 200) and set already, and none. -/
theorem witness_RecomputeServesHead :
    let t : Mail := { Mail.empty with heads := [[1, 2]] }
    let s := { served rec1 with mail := t }
    let smoke := served { rec1 with cls := .smoke }
    let lock := { rec1 with cls := .lockout, aperture := none }
    let fresh := { served lock with mail := { t with freezes := [1] } }
    let set := { served lock with
      mail := t
      results := some { entry1.resultAtReset with frozen := some 325 } :: List.replicate 47 none }
    let shown (s : State) : Option (Option Nat) :=
      ((after (.resolverRecompute .demandManager) s).result 1).map OpeningResult.frozen
    fresh.demand.headClass 1 = some .lockout ∧ 1 ∈ fresh.mail.freezes ∧
      fresh.lastReply 1 = some reply1 ∧ fresh.nodeState 1 = some .online ∧
      shown fresh = some (some 200) ∧ 1 ∉ set.mail.freezes ∧ shown set = some (some 325) ∧
      1 ≤ s.results.length ∧ [1, 2].Nodup ∧
      s.mail.heads = [1, 2] :: [] ∧ s.store.enabled 1 = true ∧
      s.result 1 = some { entry1.resultAtReset with target := 200 } ∧
      s.demand.headClass 1 = some .comfort ∧ base.demand.headClass 1 = none ∧
      smoke.demand.headClass 1 = some .smoke ∧
      (served { rec1 with cls := .fireman }).demand.headClass 1 = some .fireman ∧
      windwardOf entry1 (some 260) 60 = true ∧ windwardOf entry1 (some 261) 60 = false ∧
      ({ base.weather with windState := .high } : Weather).storm = true := by decide +kernel

theorem witness_RecomputeAfterWeather :
    let s := { base with mail := { Mail.empty with weather := [.rain] } }
    s.mail.weather = .rain :: [] ∧ s.store.enabled 1 = true ∧ 1 ≤ s.results.length ∧
      s.result 1 = some { entry1.resultAtReset with target := 200 } ∧
      entry1.resultAtReset.profile = .leeward := by
  decide +kernel

theorem witness_CorrectedSpeed :
    weather1.anemB.trim = 0 ∧ 0 < weather1.anemA.trim ∧ weather1.anemA.trimMinus = true ∧
      ({ weather1.anemA with trimMinus := false } : AnemometerScale).trimMinus = false := by decide

theorem witness_FilterMovesTowardSample : (1 ≤ 4) ∧ (40 < 41) ∧ (600 ≤ 600) := by decide

theorem witness_GateEndTakesSpeed :
    let b := { weather1 with anemB := { weather1.anemB with present := false } }
    let s := { base with store := { store1 with weather := loaded b } }
    s.store.weather.value.anemA.present = true ∧ s.store.weather.value.anemB.present = false ∧
      s.weather.anemA.faultyGate = false := by decide +kernel

/-- The rows of R70: both usable, one faulty, both faulty. -/
theorem witness_GateEndTakesSpeed_combined :
    let a (faulty : Bool) : Anemometer := { base.weather.anemA with count := 47, faultyGate := faulty }
    let b (faulty : Bool) : Anemometer := { base.weather.anemB with count := 45, faultyGate := faulty }
    let gate (x y : Bool) : Weather :=
      (after .gateEnd { base with weather := { base.weather with anemA := a x, anemB := b y } }).weather
    ((gate false false).anemA.value = some 55 ∧ (gate false false).anemB.value = some 56 ∧
      (gate false false).sample = some 56 ∧ (gate false false).speedClass = .valid) ∧
      ((gate true false).anemA.cls = .fault ∧ (gate true false).sample = some 56) ∧
      ((gate false true).anemB.cls = .fault ∧ (gate false true).sample = some 55) ∧
      ((gate true true).sample = none ∧ (gate true true).speedClass = .fault) := by decide +kernel

/-- The five cases of R93, each with its cap before the gate end and the cap computed at it. -/
theorem witness_HeldCapsFollow :
    base.weather.capTakeOver = false ∧
      (let gate (h : HeldCap) : HeldCap :=
          (after .gateEnd { base with weather := { base.weather with
            filtered := 40, takeOver := false, capWindward := h } }).weather.capWindward;
        let h (x : Nat) (k : Option Nat) : HeldCap := { computed := 0, held := x, timer := k };
        gate (h 1001 none) = { computed := 1000, held := 1000, timer := none } ∧
          gate (h 1000 (some 7)) = { computed := 1000, held := 1000, timer := none } ∧
          gate (h 999 none) = { computed := 1000, held := 999, timer := some 0 } ∧
          gate (h 999 (some 298)) = { computed := 1000, held := 999, timer := some 299 } ∧
          gate (h 999 (some 299)) = { computed := 1000, held := 1000, timer := none }) := by
  decide +kernel

/-- The take-over of R94, unordered and ordered, and the write of R95 that lowers and raises H. -/
theorem witness_HeldCapsFollow_takeOver :
    let h : HeldCap := { computed := 7, held := 7, timer := none }
    let gate (faulty : Bool) : Weather := (after .gateEnd { base with weather := { base.weather with
      anemA := { base.weather.anemA with faultyGate := faulty }
      anemB := { base.weather.anemB with faultyGate := faulty }
      capTakeOver := true, capWindward := h } }).weather
    let v : WeatherBlock := { weather1 with windward := { free := 20, close := 60 } }
    let anew (x : HeldCap) : HeldCap := (written (.weather v) { base with weather :=
      { base.weather with filtered := 40, speedClass := .valid, capWindward := x } }).weather.capWindward
    (gate true).speedClass.ordered = false ∧ (gate true).capTakeOver = true ∧
      (gate true).capWindward = { computed := 0, held := 7, timer := none } ∧
      (gate false).speedClass.ordered = true ∧ (gate false).capTakeOver = false ∧
      (gate false).capWindward = { computed := 1000, held := 1000, timer := none } ∧
      v ≠ base.store.weather.value ∧
      anew { h with held := 501 } = { computed := 500, held := 500, timer := none } ∧
      anew { h with held := 500, timer := some 3 } =
        { computed := 500, held := 500, timer := none } ∧
      anew { h with held := 499, timer := some 3 } =
        { computed := 500, held := 499, timer := some 3 } := by decide +kernel

/-- The tenth gate end with the probe alone in FAULT and with every channel ordered, the gates beside it,
and a channel that recovers after it. -/
theorem witness_ReopenAndSensorReport_sensors :
    let w (gates : Nat) (cls : ChannelClass) : Weather := { base.weather with
      gates := gates, speedClass := .valid, vaneClass := .valid, tempClass := cls
      anemA := { base.weather.anemA with cls := .over }
      anemB := { base.weather.anemB with cls := .valid } }
    let s (gates : Nat) (cls : ChannelClass) : State := { base with weather := w gates cls }
    let told (c : Instr) (s : State) : List (Condition × Bool) :=
      (after c s).mail.reports.flatMap Report.lives
    base.store.weather.value.probePresent = true ∧
      told .sensorReportStart (s 9 .fault) = [(.sensorInvalid, true)] ∧
      told .sensorReportStart (s 9 .valid) = [] ∧ told .sensorReportStart (s 8 .fault) = [] ∧
      (.sensorInvalid, true) ∈ told .gateEnd (s 9 .fault) ∧
      (.sensorInvalid, true) ∉ told .gateEnd (s 8 .fault) ∧
      told (.probeReading (some 40)) (s 10 .fault) = [(.sensorInvalid, false)] ∧
      told .probeStale (s 10 .under) = [(.sensorInvalid, true)] := by decide +kernel

theorem witness_ReopenAndSensorReport :
    let w := { base.weather with
      gates := 9, capFlat := { computed := 1, held := 0, timer := some 299 } }
    w.capTakeOver = false ∧ (w.cap .flat).timer = some 299 ∧ weather1.reopenDelay ≤ 299 + 1 ∧
      (w.cap .flat).held < (w.cap .flat).computed ∧ w.gates = 9 ∧
      weather1.anemA.present = true ∧ w.anemA.cls = .stale := by decide +kernel

theorem witness_VaneReadings :
    let w := { base.weather with
      heldDir := some 230, vaneClass := .valid, vaneValue := some 245, dwell := some 4 }
    base.store.weather.value.vanePresent = true ∧ base.weather.heldDir = none ∧
      base.weather.vaneTimer.isSome = true ∧ w.dwell = some 4 ∧ w.vaneClass = .valid ∧
      w.vaneValue = some 245 ∧ w.heldDir = some 230 ∧
      weather1.dirDeadband ≤ angularDistance 245 230 ∧ weather1.dirDwell ≤ 4 + 1 := by
  decide +kernel

theorem witness_RainHolds :
    let dry := { base.weather with wetHold := some 18 }
    let wet := { base.weather with wet := true, wetHold := none, dryHold := some 5999 }
    base.store.weather.value.rainPresent = true ∧ dry.wet = false ∧ dry.wetHold = some 18 ∧
      ({ dry with wetHold := some 19 } : Weather).wetHold = some 19 ∧ wet.wet = true ∧
      wet.dryHold = some 5999 ∧ 5999 + 1 = 10 * base.store.weather.value.dryHold ∧
      5998 + 1 < 10 * base.store.weather.value.dryHold ∧
      State.reset.store.weather.value.rainPresent = false := by
  decide +kernel

theorem witness_ProbeAndSupply :
    base.store.weather.value.probePresent = true ∧ base.weather.tempTimer.isSome = true := by
  decide +kernel

/-- An entry into FROST, one into LOW_SUPPLY, and a supply sample that changes neither. -/
theorem witness_ProbeAndSupply_reports :
    ((after (.probeReading (some 0)) base).weather.frost ≠ base.weather.frost) ∧
      ((after (.supplySample 220) base).weather.lowSupply ≠ base.weather.lowSupply) ∧
      ((after (.supplySample 221) base).weather.lowSupply = base.weather.lowSupply) ∧
      (let s := { base with weather := { base.weather with
          anemA := { base.weather.anemA with count := 200 } } };
        (after .gateEnd s).weather.storm ≠ s.weather.storm) := by decide +kernel

/-- Values at the boundaries of the rows of R80, with a high limit of 10, a low limit of 0 and the
largest hysteresis. -/
theorem witness_HystMonitorTable :
    let m : MonitorLimits := { mode := .hyst, high := 10, low := 0, hysteresis := 10 }
    m.mode = .hyst ∧ m.low < m.high ∧ 0 ≤ m.hysteresis ∧ m.hysteresis ≤ m.high - m.low ∧
      (m.low < 9 ∧ (9 : Int) < m.high) ∧ (m.low < 1 ∧ m.high - m.hysteresis ≤ 1) ∧
      ((9 : Int) < m.high ∧ 9 ≤ m.low + m.hysteresis) ∧
      (let k := { m with hysteresis := 4 };
        k.low < 5 ∧ (5 : Int) < k.high - k.hysteresis ∧ k.low + k.hysteresis < 5) := by decide

/-- Values at the boundaries of the table of R79. -/
theorem witness_HystMonitorTable_band :
    let m : MonitorLimits := { mode := .band, high := 10, low := 4, hysteresis := 0 }
    m.mode = .band ∧ m.high ≤ 10 ∧ (9 : Int) < m.high ∧ (3 : Int) < m.low ∧ m.low ≤ 4 := by decide

theorem witness_LineSampleDebounced :
    isZone 8 = true ∧ base.zone 8 = some .atReset ∧ base.zone 1 = some zone1 ∧
      sampleClass zone1.accepted 384 = .normal ∧ sampleClass zone1.accepted 383 = .alarm := by
  decide +kernel

theorem witness_LineAcceptanceMovesZone :
    let z := { zone1 with candidate := some .alarm, agreement := 2 }
    isZone 1 = true ∧ (zoned z).zone 1 = some z ∧ z.candidate = some .alarm ∧ z.agreement = 2 ∧
      z.state = .normal ∧ base.store.scenario 1 = [{ group := 1, aperture := 500 }] ∧
      ((base.store.scenario 1).map ScenarioStep.group).Nodup ∧
      1 + base.demand.count ≤ base.demand.slots.length ∧ base.mail.stepsOf 1 = [] ∧
      (let t := after (.lineAcceptance 1 1) (zoned z);
        t.mail.stepsOf 1 = [{ group := 1, aperture := 500 }] ∧ t.demand.count = 0 ∧
          (t.zone 1).map Zone.candidate = some none ∧
          (after (.lineAcceptance 1 0) t).demand.headClass 1 = some .smoke) := by decide +kernel

/-- Tables whose every handle names a living record, the placements of a scenario waiting, and the record
they place; and a table that holds a stale handle. -/
theorem witness_LineAcceptanceMovesZone_waiting :
    let x : ScenarioStep := { group := 1, aperture := 500 }
    let s := { served rec1 with mail := { Mail.empty with steps := [{ zone := 1, step := x }] } }
    handlesLive base.demand ∧ handlesLive s.demand ∧ zone1.candidate = none ∧
      s.zone 1 = some zone1 ∧ s.mail.stepsOf 1 = [x] ∧ ([x].map ScenarioStep.group).Nodup ∧
      [x].length + s.demand.count ≤ s.demand.slots.length ∧
      (after (.lineAcceptance 1 0) s).demand.headClass 1 = some .smoke ∧
      ¬handlesLive { s.demand with ages := [{ slot := 0, gen := 9 }] } := by
  unfold handlesLive; decide +kernel

/-- SHORT accepted by a NORMAL zone and by a LATCHED one with its flag clear raises ZONE_LINE_FAULT; by one
with its flag set it raises nothing. -/
theorem witness_LineAcceptanceMovesZone_short :
    let z := { zone1 with candidate := some .short, agreement := 2 }
    let l := { z with state := .latched }
    let set := { l with lineFault := true }
    let raises := fun (s : State) =>
      (after (.lineAcceptance 1 0) s).mail.reports.any fun x =>
        x.owner == .fireUnit && x.events.contains .zoneLineFault
    (zoned z).zone 1 = some z ∧ z.candidate = some .short ∧ z.agreement = 2 ∧ z.state = .normal ∧
      l.state = .latched ∧ l.lineFault = false ∧ raises (zoned z) = true ∧
      raises (zoned l) = true ∧ raises (zoned set) = false := by decide +kernel

theorem witness_PanelInputs :
    base.fire.phase < 8 ∧ base.zone 1 = some zone1 ∧ true ≠ base.fire.keyMade := by decide +kernel

theorem witness_SwitchAcceptanceActs :
    let opened := { zone1 with openMade := true }
    let back := { zone1 with switchPos := .closePos }
    let both := { zone1 with openMade := true, closeMade := true }
    (zoned opened).zone 1 = some opened ∧ opened.switchTimer.isSome = true ∧
      opened.closeMade = false ∧ opened.switchPos ≠ .openPos ∧ base.demand.freeSlot ≠ none ∧
      back.openMade = false ∧ back.closeMade = false ∧ back.switchPos ≠ .auto ∧
      both.openMade = true ∧ both.closeMade = true ∧ base.demand.lists.length = 48 ∧
      base.store.zoneOpenings 1 = [1] := by decide +kernel

/-- A table of 8 COMFORT records on opening 1, slot 2 of the lower rank PURGE; and one of 96 records in no
list. -/
def crowd : DemandTable :=
  (List.range 8).foldl (fun t k =>
    t.install k { rec1 with cls := if k = 2 then .purge else .comfort } [1]) .empty

def throng : DemandTable :=
  (List.range 96).foldl (fun t k => t.install k rec1 []) .empty

theorem witness_SwitchAcceptanceEvicts :
    isVictim crowd (crowd.ages.filter fun u => (crowd.list 1).contains u) { slot := 2, gen := 0 }
      { rec1 with cls := .purge } ∧
    crowd.freeSlot ≠ none ∧ crowd.lists.length = 48 ∧ 8 ≤ (crowd.list 1).length ∧
    isVictim throng throng.ages { slot := 0, gen := 0 } rec1 ∧ throng.freeSlot = none ∧
    (∀ k x, throng.inSlot k = some x → x.source ≠ .fireman 1) ∧
    ∀ k x, crowd.inSlot k = some x → x.source ≠ .fireman 1 := by
  have hsup : ∀ (t : DemandTable),
      (t.slots.all fun sl => match sl.record with
        | some r => decide (r.source ≠ .fireman 1)
        | none => true) = true →
      ∀ k x, t.inSlot k = some x → x.source ≠ .fireman 1 := by
    intro t h k x hx
    unfold DemandTable.inSlot at hx
    split at hx
    · next sl hsl =>
      have := List.all_eq_true.1 h sl (List.mem_of_getElem? hsl)
      rw [hx] at this
      exact of_decide_eq_true this
    · cases hx
  refine ⟨⟨by decide +kernel, by decide, [{ slot := 0, gen := 0 }, { slot := 1, gen := 0 }],
    crowd.ages.drop 3, by decide +kernel, by decide +kernel, by decide +kernel⟩,
    by decide +kernel, by decide +kernel, by decide +kernel,
    ⟨by decide +kernel, by decide, [], throng.ages.drop 1, by decide +kernel, by decide +kernel,
      by decide +kernel⟩, by decide +kernel, hsup _ (by decide +kernel), hsup _ (by decide +kernel)⟩

/-- A station whose OPEN button has been pressed and whose machine is in a state. -/
def pressed (g : Gesture) : Station :=
  { Station.atReset with
    openButton := { made := true, pressed := false, timer := some 50 }
    gesture := g, holdTimer := some 2000, handle := some { slot := 0, gen := 0 } }

theorem witness_ButtonsDebounced :
    isStation 1 = true ∧ (stationed (pressed .idle)).stationOf 1 = some (pressed .idle) ∧
      false ≠ ((pressed .idle).button .openButton).made ∧
      ((pressed .idle).button .openButton).timer.isSome = true ∧
      ((pressed .idle).button .openButton).pressed = false ∧ (pressed .idle).gesture = .idle ∧
      (pressed .heldClose).gesture = heldBy .closeButton ∧ ButtonId.closeButton ≠ .openButton := by
  decide +kernel

/-- A station whose OPEN button has been released, the CLOSE button up, and whose machine is in a
state. -/
def released (g : Gesture) : Station :=
  { Station.atReset with
    openButton := { made := false, pressed := true, timer := some 50 }
    closeButton := { made := false, pressed := false, timer := none }
    gesture := g, holdTimer := some 2000 }

/-- The record of station 1, with aperture 950. -/
def localRecord : DemandRecord := stationRecord 1 (base.store.station 1) 950

theorem witness_ButtonsReleased :
    let s := stationed (released .heldOpen)
    let own := { s with demand := DemandTable.empty.install 0 localRecord [1] }
    let stuck := { s with demand := full }
    ((released .heldOpen).button .openButton).timer.isSome = true ∧
      ((released .heldOpen).button .openButton).made = false ∧
      ((released .heldOpen).button .openButton).pressed = true ∧
      (released .heldOpen).gesture = heldBy .openButton ∧
      (released .spent).gesture ≠ heldBy .openButton ∧
      ((released .spent).button .closeButton).pressed = false ∧
      (s.store.station 1).enabled = true ∧ s.store.group (s.store.station 1).group = [1] ∧
      s.demand.matching localRecord = none ∧ s.demand.refusal localRecord [1] = none ∧
      own.demand.matching localRecord = some 0 ∧ own.demand.inSlot 0 = some localRecord ∧
      ((after (.buttonAcceptance 1 .openButton) own).demand.inSlot 0).bind DemandRecord.aperture =
        some 1000 ∧
      stuck.demand.matching localRecord = none ∧
      stuck.demand.refusal localRecord [1] = some .noSlot ∧
      (base.store.station 2).enabled = false := by decide +kernel

theorem witness_HoldTimerActs :
    let s := stationed (pressed .heldOpen)
    s.stationOf 1 = some (pressed .heldOpen) ∧ (pressed .heldOpen).holdTimer.isSome = true ∧
      (s.store.station 1).enabled = true ∧ s.store.group (s.store.station 1).group ≠ [] ∧
      s.demand.refusal (stationRecord 1 (s.store.station 1) 1000)
        (s.store.group (s.store.station 1).group) = none ∧
      (pressed .heldBoth).handle = some { slot := 0, gen := 0 } ∧
      (served rec1).demand.find { slot := 0, gen := 0 } = some rec1 := by decide +kernel

/-- Opening 1 travels up from position 200 with a deadband of 10: 211 lies ahead, 210 does not. -/
theorem witness_TargetEventsRetarget :
    let m := { move1 with state := .travel, direction := some .up }
    let e (x : Nat) : TargetTold := { opening := 1, target := x, cls := none, changed := true }
    let s := { moved m with mail := { Mail.empty with targets := [e 211, e 210] } }
    s.move 1 = some m ∧
      takeFirst (fun x => x.opening == 1) s.mail.targets = some (e 211, [e 210]) ∧
      m.state = .travel ∧ s.position 1 = some 200 ∧
      m.direction = some .up ∧ 200 + (s.store.opening 1).deadband < (e 211).target ∧
      ¬200 + (s.store.opening 1).deadband < (e 210).target ∧
      189 + (s.store.opening 1).deadband < 200 ∧ ¬190 + (s.store.opening 1).deadband < 200 := by
  decide +kernel

/-- A target event in each other movement state: the record, its class told, the target that stands, and
the state the opening ends in. -/
theorem witness_TargetEventsRetarget_states :
    let ends (m : MoveRecord) (cls : Option DemandClass) (x : Nat) : Option MoveState :=
      (after (.targetEvent 1) { moved m with
        results := (targeted x).results
        mail := { Mail.empty with
          targets := [{ opening := 1, target := x, cls := cls, changed := true }] } }).moveState 1
    let m (st : MoveState) : MoveRecord := { move1 with state := st }
    let lost := { m .faulted with faultReason := some .lost }
    ends (m .unknown) none 300 = some .unknown ∧ ends (m .atRest) none 210 = some .atRest ∧
      ends (m .atRest) none 211 = some .breakaway ∧ ends (m .waitSlot) none 210 = some .atRest ∧
      ends (m .waitSlot) none 211 = some .breakaway ∧
      ends (m .stopping) none 300 = some .stopping ∧
      ends (m .retryWait) (some .smoke) 300 = some .retryWait ∧
      ends (m .faulted) (some .comfort) 300 = some .faulted ∧
      ends (m .faulted) (some .smoke) 210 = some .atRest ∧
      ends { m .faulted with classTold := some .fireman } (some .smoke) 210 = some .faulted ∧
      ends lost (some .smoke) 300 = some .breakaway := by decide +kernel

theorem witness_RepliesEndTravel :
    let m := { move1 with state := .travel, classTold := some .smoke }
    let r (i o : Bool) : ReplyTold :=
      { opening := 1, before := none, isolated := i, position := 0, motion := .opening
        overcurrent := o }
    let s := noded .isolated 0 { moved m with mail := { Mail.empty with replies := [r true true] } }
    s.move 1 = some m ∧ m.state = .travel ∧
      takeFirst (fun x => x.opening == 1) s.mail.replies = some (r true true, []) ∧
      s.nodeState 1 ≠ some .online ∧ (r false true).isolated = false ∧
      (r false true).overcurrent = true ∧ isFireClass m.classTold = true ∧
      isFireClass move1.classTold = false ∧ m.retries = 0 ∧
      ({ m with retries := 1 } : MoveRecord).retries = 1 := by decide +kernel

/-- A reply in each movement state: the opening, its target, the reply, and the state it ends in. -/
theorem witness_RepliesEndTravel_states :
    let r (i o : Bool) (m : Motion) : ReplyTold :=
      { opening := 1, before := none, isolated := i, position := 200, motion := m, overcurrent := o }
    let ends (st : MoveState) (pending : Bool) (target : Nat) (x : ReplyTold) : Option MoveState :=
      (after (.movementReply 1)
        { moved { move1 with state := st, orderPending := pending } with
          results := (targeted target).results
          mail := { Mail.empty with replies := [x] } }).moveState 1
    ends .unknown false 210 (r false false .stopped) = some .atRest ∧
      ends .unknown false 210 (r false false .opening) = some .stopping ∧
      ends .atRest false 211 (r false false .stopped) = some .breakaway ∧
      ends .atRest false 211 (r true false .stopped) = some .atRest ∧
      ends .waitSlot false 210 (r false false .stopped) = some .atRest ∧
      ends .waitSlot false 211 (r false false .closing) = some .stopping ∧
      ends .breakaway false 211 (r false false .stopped) = some .breakaway ∧
      ends .breakaway false 211 (r false true .stopped) = some .faulted ∧
      ends .travel false 210 (r false false .stopped) = some .atRest ∧
      ends .travel false 211 (r false false .stopped) = some .faulted ∧
      ends .travel true 211 (r false false .stopped) = some .travel ∧
      ends .travel false 211 (r false false .opening) = some .travel ∧
      ends .stopping false 210 (r false false .stopped) = some .atRest ∧
      ends .stopping false 210 (r false true .opening) = some .stopping ∧
      ends .retryWait false 211 (r false true .stopped) = some .retryWait ∧
      ends .faulted false 211 (r true true .stopped) = some .faulted := by decide +kernel

theorem witness_OutcomesAndLoss :
    let o : OutcomeTold := { opening := 1, ending := .delivered }
    let s := { base with mail := { Mail.empty with outcomes := [o], lost := [1] } }
    isOpening 1 = true ∧ s.move 1 = some move1 ∧ move1.state ≠ .waitSlot ∧
      takeFirst (fun x => x.opening == 1) s.mail.outcomes = some (o, []) ∧
      s.bus.queue = [] ∧ s.bus.inFlight = none ∧ takeFirst (fun x => x == 1) s.mail.lost = some (1, []) ∧
      move1.state = .atRest ∧ (moved { move1 with state := .stopping }).moveState 1 =
        some .stopping := by decide +kernel

/-- An order outcome of an opening that waits, with its node not ONLINE and ONLINE. -/
theorem witness_OutcomesAndLoss_waiting :
    let m := { move1 with state := .waitSlot, waitAge := some 0, orderPending := true }
    let o : OutcomeTold := { opening := 1, ending := .dropped }
    let s := { moved m with mail := { Mail.empty with outcomes := [o], lost := [1] } }
    let lost := noded .lost 3 s
    lost.move 1 = some m ∧ lost.nodeState 1 ≠ some .online ∧ s.eligible 1 = true ∧
      takeFirst (fun x => x.opening == 1) s.mail.outcomes = some (o, []) ∧ s.bus.queue = [] ∧
      (after (.orderOutcome 1) lost).move 1 = some { m with orderPending := false } ∧
      (after (.orderOutcome 1) s).moveState 1 = some .breakaway := by decide +kernel

theorem witness_MovementTimers :
    let a := { move1 with state := .breakaway, breakaway := some 1 }
    let v := { move1 with
      state := .travel, deadline := some 1, progressWindow := some 1, progressRef := some 190,
      direction := some .up }
    let w := { move1 with state := .stopping, stopTimer := some 1 }
    let x := { move1 with state := .retryWait, retryTimer := some 1 }
    let y := { move1 with state := .waitSlot, waitAge := some 60 }
    base.position 1 = some 200 ∧ (moved a).move 1 = some a ∧
      (moved v).move 1 = some v ∧ isFireClass v.classTold = false ∧
      (let r : ReplyTold :=
          { opening := 1, before := some 199, isolated := false, position := 200
            motion := .opening, overcurrent := false };
        let s := { moved { v with deadline := some (0 + 2) } with
          results := (targeted 300).results, mail := { Mail.empty with replies := [r] } };
        takeFirst (fun e => e.opening == 1) s.mail.replies = some (r, []) ∧
          r.before = some 199 ∧ s.target 1 = some 300 ∧ ¬190 + 10 ≤ 199 ∧
          (after (.progressWindowEnd 1) s).moveState 1 = some .faulted ∧
          (after (.progressWindowEnd 1) { s with mail := .empty }).moveState 1 = some .travel ∧
          (base.mail.replies = [] ∧ 190 + 10 ≤ 200)) ∧
      (moved w).move 1 = some w ∧ (noded .lost 3 (moved x)).move 1 = some x ∧
      (noded .lost 3 (moved y)).move 1 = some y ∧
      (noded .lost 3 (moved y)).nodeState 1 ≠ some .online := by decide +kernel

theorem witness_MovementTickCounts :
    let y := { move1 with state := .waitSlot, waitAge := some 65534 }
    let a := { move1 with state := .breakaway, breakaway := some (0 + 2), deadline := some (0 + 1) }
    let v := { move1 with
      state := .travel, deadline := some (0 + 2), progressWindow := some (0 + 2) }
    let w := { move1 with state := .stopping, stopTimer := some (0 + 2) }
    let x := { move1 with state := .retryWait, retryTimer := some (0 + 2) }
    (noded .lost 3 (moved y)).move 1 = some y ∧
      (noded .lost 3 (moved y)).nodeState 1 ≠ some .online ∧ (moved a).move 1 = some a ∧
      (moved v).move 1 = some v ∧ (moved w).move 1 = some w ∧ (moved x).move 1 = some x ∧
      base.move 1 = some move1 ∧ move1.state = .atRest := by decide +kernel

/-- The last seconds: each record meets the premises of its clause, and the second ends it. -/
theorem witness_MovementTickCounts_last :
    let a := { move1 with state := .breakaway, breakaway := some 1, deadline := some (0 + 1) }
    let v := { move1 with
      state := .travel, deadline := some 1, progressWindow := some 1, progressRef := some 190,
      direction := some .up }
    let h := { v with deadline := some (0 + 2) }
    let w := { move1 with state := .stopping, stopTimer := some 1 }
    let x := { move1 with state := .retryWait, retryTimer := some 1 }
    let y := { move1 with state := .waitSlot, waitAge := some 60 }
    let r : ReplyTold :=
      { opening := 1, before := some 199, isolated := false, position := 200
        motion := .opening, overcurrent := false }
    let far (m : MoveRecord) : State := { moved m with results := (targeted 300).results }
    let ends (s : State) : Option MoveState := (after .movementTick s).moveState 1
    base.position 1 = some 200 ∧ ends (moved a) = some .travel ∧ ends (far v) = some .faulted ∧
      (far h).mail.replies = [] ∧ ends (far h) = some .travel ∧
      takeFirst (fun e => e.opening == 1) [r] = some (r, []) ∧
      ends { far h with mail := { Mail.empty with replies := [r] } } = some .faulted ∧
      ends (moved w) = some .faulted ∧ ends (moved x) = some .atRest ∧
      ends (far y) = some .breakaway ∧ (far y).nodeState 1 = some .online ∧
      (noded .lost 3 (far y)).startWait = false ∧
      (noded .lost 3 (far y)).nodeState 1 ≠ some .online ∧
      ends (noded .lost 3 (far y)) = some .waitSlot := by decide +kernel

/-- Opening 1 waits for a slot, alone. -/
def waiting : State :=
  { moved { move1 with state := .waitSlot, waitAge := some 0 } with results :=
    (targeted 790).results }

theorem witness_SlotGrantServesHighest :
    (waiting.move 1 = some { move1 with state := .waitSlot, waitAge := some 0 } ∧
      waiting.target 1 = some 790 ∧ waiting.position 1 = some 200 ∧
      waiting.breakawayOpenings.length < waiting.startBudget ∧ waiting.eligible 1 = true) ∧
    ∀ k, isOpening k = true → waiting.eligible k = true →
      standsAhead (waiting.standing k) (waiting.standing 1) = false ∧
      (k < 1 → standsAhead (waiting.standing 1) (waiting.standing k) = true) := by
  refine ⟨by decide +kernel, fun k hk => ?_⟩
  have hall : ∀ k ∈ List.range 49, isOpening k = true → waiting.eligible k = true →
      standsAhead (waiting.standing k) (waiting.standing 1) = false ∧
      (k < 1 → standsAhead (waiting.standing 1) (waiting.standing k) = true) := by decide +kernel
  refine hall k (List.mem_range.2 ?_) hk
  have hk2 : k ≤ 48 := of_decide_eq_true (Bool.and_eq_true_iff.1 hk).2
  omega

theorem witness_TurnsAlternate :
    let o : Order := { opening := 1, kind := .stop }
    let s := { base with bus := { base.bus with queue := [o] } }
    s.bus.transaction = none ∧ s.store.enabledOpenings ≠ [] ∧ s.bus.queue = o :: [] ∧
      s.bus.lastTurn = .poll ∧ s.orderAllowed 1 = true ∧
      (noded .lost 3 s).orderAllowed 1 = false ∧ base.bus.queue = [] ∧
      busy.bus.transaction ≠ none ∧ busy.bus.lastTurn = .poll := by decide +kernel

/-- A valid reply of node 1: position 0, stopped, supply good. -/
def replyFrame : List Byte := withCheck [1, 0, 0, 0x80]

theorem witness_TransactionsUpdateNode :
    let x : Transaction := { node := 1, request := pollFrame 1, discard := false }
    let f : InFlight :=
      { order := { opening := 1, kind := .stop }, attempts := 2, superseded := false }
    let s := { busy with bus := { busy.bus with inFlight := some f } }
    busy.bus.transaction = some x ∧ busy.node 1 = some node1 ∧ busy.bus.inFlight = none ∧
      validReply 1 replyFrame = some { reply1 with position := 0 } ∧
      ([1, 0, 0, 0, 0] : List Byte) ≠ [] ∧
      (noded .online 2 busy).node 1 = some { node1 with failures := 2 } ∧
      3 ≤ 2 + 1 ∧ node1.state ≠ .lost ∧ node1.failures + 1 < 3 ∧ f.order.opening = x.node ∧
      s.bus.inFlight = some f ∧ f.superseded = false ∧ f.attempts < 3 ∧
      s.orderAllowed x.node = true ∧ validReply 1 (([1, 0, 0, 0, 0] : List Byte).take 6) = none := by
  decide +kernel

/-- The four outcomes of a valid reply to a STOP in flight, superseded or not, a later STOP queued for the
opening where it is; and its third failure. -/
theorem witness_TransactionsUpdateNode_order :
    let stop : Order := { opening := 1, kind := .stop }
    let flown := fun (superseded : Bool) =>
      { busy with bus := { busy.bus with
        inFlight := some { order := stop, attempts := 1, superseded := superseded }
        queue := if superseded then [stop] else [] } }
    let ending := fun (flags : Byte) (superseded : Bool) =>
      let t := after (.replyReceived (withCheck [1, 0, 0, flags])) (flown superseded)
      (t.bus.queue.map Order.opening, t.mail.outcomes.map OutcomeTold.ending)
    let third := after .noReply (noded .online 2 (flown false))
    (validReply 1 (withCheck [1, 0, 0, 0x90])).map DriveReply.outcome = some .jam ∧
      (validReply 1 (withCheck [1, 0, 0, 0xC0])).map DriveReply.outcome = some .notReady ∧
      (validReply 1 (withCheck [1, 0, 0, 0xA0])).map DriveReply.outcome = some .isolated ∧
      ending 0x80 false = ([], [.delivered]) ∧ ending 0x90 false = ([], [.delivered]) ∧
      ending 0x80 true = ([1], []) ∧ ending 0xC0 false = ([1], []) ∧
      ending 0xC0 true = ([1], []) ∧ ending 0xA0 false = ([], [.discarded]) ∧
      ending 0xA0 true = ([], [.discarded]) ∧ third.nodeState 1 = some .lost ∧
      third.mail.outcomes.map OutcomeTold.ending = [.dropped] ∧ third.bus.inFlight = none ∧
      (after .noReply (flown true)).bus.inFlight = none ∧
      (after .noReply (flown true)).mail.outcomes = [] := by decide +kernel

theorem witness_TransactionsUpdateNode_check :
    let own : Order := { opening := 1, kind := .move 300 }
    let next : Order := { opening := 2, kind := .stop }
    let x : Transaction := { node := 1, request := orderFrame own, discard := false }
    let f : InFlight := { order := own, attempts := 1, superseded := false }
    let s := secondOrder { move1 with state := .faulted } own next
    s.bus.transaction = some x ∧ x.discard = false ∧ s.node x.node = some node1 ∧
      s.bus.inFlight = some f ∧ f.order.opening = x.node ∧ f.attempts < 3 ∧
      node1.failures + 1 < 3 ∧ node1.state ≠ .lost ∧ s.orderAllowed x.node = false ∧
      s.bus.queue = [] ++ next :: [] ∧ s.orderAllowed next.opening = true ∧
      ∀ e ∈ (secondOrder { move1 with state := .faulted } own { own with kind := .stop }).bus.queue,
        (secondOrder { move1 with state := .faulted } own
          { own with kind := .stop }).orderAllowed e.opening = false := by
  refine ⟨?_, ?_, ?_, ?_, ?_, ?_, ?_, ?_, ?_, ?_, ?_, ?_⟩ <;> decide +kernel

theorem base_openings_valid : ∀ n, (base.store.opening n).valid = true := by
  intro n
  by_cases h : n < 49
  · have hall : ∀ n ∈ List.range 49, (base.store.opening n).valid = true := by decide +kernel
    exact hall n (List.mem_range.2 h)
  · obtain ⟨k, rfl⟩ : ∃ k, n = k + 1 := ⟨n - 1, by omega⟩
    have hlen : base.store.openings.length = 48 := by decide +kernel
    have hnone : nth base.store.openings (k + 1) = none := List.getElem?_eq_none (by omega)
    simp only [Store.opening, hnone]
    decide +kernel

theorem witness_AttentionAndBufferKept :
    attentionRight base ∧ bufferInBounds base ∧ deferredSlotFree base ∧
      handlesLive (served rec1).demand ∧ step base = .next base ∧
      step (served rec1) = .next (served rec1) := by
  refine ⟨rfl, ⟨by decide, fun _ => ⟨rfl, rfl⟩⟩, fun _ => rfl, ?_, rfl, rfl⟩
  unfold handlesLive; decide +kernel

theorem witness_TargetsKeptInRange :
    entriesValid base ∧ targetsInRange base ∧ step base = .next base := by
  refine ⟨⟨base_openings_valid, by decide +kernel, fun _ h => by cases h⟩, fun n r h => ?_, rfl⟩
  match n, h with
  | 1, h => cases h; exact ⟨by decide +kernel, by decide, by decide, fun f hf => by cases hf⟩
  | k + 2, h =>
    exfalso
    have hrep : nth base.results (k + 2) = (List.replicate 47 none)[k]? := rfl
    simp only [State.result, nthSome, hrep, List.getElem?_replicate] at h
    split at h <;> simp_all

theorem witness_SlotsKeptInBudget :
    entriesValid base ∧ slotsInBudget base ∧ step base = .next base :=
  ⟨⟨base_openings_valid, by decide +kernel, fun _ h => by cases h⟩,
    by show _ ≤ _; decide +kernel, rfl⟩

theorem witness_WeatherKeptInRange : weatherInRange base ∧ step base = .next base := by
  refine ⟨⟨by decide, fun v h => (by cases h), fun v h => (by cases h), fun p => ?_⟩, rfl⟩
  cases p <;> decide

end Sys2Proof.Tests
end

section
/-! PROOFS. The weather unit's speeds, filter and limit monitors (04): what each shared operation
answers, by the cases of its rule. -/
namespace Sys2Proof.Machine

/-! ### The corrected speed (R68) -/

section
variable {sc : AnemometerScale}

theorem correctedSpeed_of_trim_eq_zero (ht : sc.trim = 0) (c : Nat) :
    correctedSpeed sc c = c * sc.factor / 64 := by
  simp [correctedSpeed, ht]

theorem correctedSpeed_of_plus (ht : 0 < sc.trim) (hp : sc.trimMinus = false) (c : Nat) :
    correctedSpeed sc c = c * sc.factor / 64 + c * sc.factor / 64 / 2 ^ sc.trim := by
  simp [correctedSpeed, ht.ne', hp]

theorem correctedSpeed_of_minus (ht : 0 < sc.trim) (hm : sc.trimMinus = true) (c : Nat) :
    correctedSpeed sc c = c * sc.factor / 64 - c * sc.factor / 64 / 2 ^ sc.trim := by
  simp [correctedSpeed, ht.ne', hm]

end

/-! ### The filtered speed (R71) -/

theorem filterToward_zero (f x : Nat) : filterToward 0 f x = x := if_pos rfl

theorem filterToward_self (n f : Nat) : filterToward n f f = f := by
  simp [filterToward]

/-- A rise: the difference is a natural number, so truncation toward zero is its floor. -/
theorem filterToward_of_lt {n f x : Nat} (hn : n ≠ 0) (h : f < x) :
    filterToward n f x = f + max 1 ((x - f) / 2 ^ n) := by
  have hd : (x : Int) - f = ((x - f : Nat) : Int) := by omega
  have hq : ((x : Int) - f).tdiv (2 ^ n) = (((x - f) / 2 ^ n : Nat) : Int) := by
    rw [hd]; exact_mod_cast Int.ofNat_tdiv (x - f) (2 ^ n)
  simp only [filterToward, hn, if_false, hq]
  generalize (x - f) / 2 ^ n = q
  split_ifs <;> omega

/-- A fall: truncation toward zero takes the floor of the size of the difference. -/
theorem filterToward_of_gt {n f x : Nat} (hn : n ≠ 0) (h : x < f) :
    filterToward n f x = f - max 1 ((f - x) / 2 ^ n) := by
  have hd : (x : Int) - f = -((f - x : Nat) : Int) := by omega
  have hq : ((x : Int) - f).tdiv (2 ^ n) = -(((f - x) / 2 ^ n : Nat) : Int) := by
    rw [hd, Int.neg_tdiv]; exact_mod_cast congrArg Neg.neg (Int.ofNat_tdiv (f - x) (2 ^ n))
  simp only [filterToward, hn, if_false, hq]
  generalize (f - x) / 2 ^ n = q
  split_ifs <;> omega

/-- The filter never rises past the sample: the quotient is at most the difference it came from. -/
theorem filterToward_le_max (n f x : Nat) : filterToward n f x ≤ max f x := by
  by_cases hn : n = 0
  · subst hn
    exact (filterToward_zero f x).trans_le (le_max_right f x)
  rcases lt_trichotomy f x with h | rfl | h
  · have hle : (x - f) / 2 ^ n ≤ x - f := Nat.div_le_self _ _
    rw [filterToward_of_lt hn h]; omega
  · rw [filterToward_self]; omega
  · rw [filterToward_of_gt hn h]; omega

/-! ### The limit monitors (R79, R80) -/

theorem monitorNext_none (m : MonitorLimits) (st : MonitorState) : monitorNext m st none = st := rfl

theorem monitorNext_some_of_hyst {m : MonitorLimits} (hm : m.mode = .hyst) (st : MonitorState)
    (v : Int) : monitorNext m st (some v) = hystNext m st v := by
  simp [monitorNext, hm]

theorem monitorNext_some_of_band {m : MonitorLimits} (hm : m.mode = .band) (st : MonitorState)
    (v : Int) : monitorNext m st (some v) = bandNext m st v := by
  simp [monitorNext, hm]

/-- The rows of NORMAL exclude each other where the limits stand in order (R80). -/
theorem hystNext_normal {m : MonitorLimits} (hlt : m.low < m.high) (v : Int) :
    (m.high ≤ v → hystNext m .normal v = .high) ∧
    (v ≤ m.low → hystNext m .normal v = .low) ∧
    (m.low < v → v < m.high → hystNext m .normal v = .normal) := by
  refine ⟨fun hhi => if_pos hhi, fun hlo => ?_, fun hlo hhi => ?_⟩
  · exact (if_neg (by omega)).trans (if_pos hlo)
  · exact (if_neg (by omega)).trans (if_neg (by omega))

/-- The rows of HIGH: at the low limit the first row decides (R80). -/
theorem hystNext_high (m : MonitorLimits) (v : Int) :
    (v ≤ m.low → hystNext m .high v = .low) ∧
    (m.low < v → v < m.high - m.hysteresis → hystNext m .high v = .normal) ∧
    (m.low < v → m.high - m.hysteresis ≤ v → hystNext m .high v = .high) := by
  refine ⟨fun hlo => if_pos hlo, fun hlo hback => ?_, fun hlo hstay => ?_⟩
  · exact (if_neg (by omega)).trans (if_pos hback)
  · exact (if_neg (by omega)).trans (if_neg (by omega))

/-- The rows of LOW: at the high limit the first row decides (R80). -/
theorem hystNext_low (m : MonitorLimits) (v : Int) :
    (m.high ≤ v → hystNext m .low v = .high) ∧
    (m.low + m.hysteresis < v → v < m.high → hystNext m .low v = .normal) ∧
    (v < m.high → v ≤ m.low + m.hysteresis → hystNext m .low v = .low) := by
  refine ⟨fun hhi => if_pos hhi, fun hback hhi => ?_, fun hhi hstay => ?_⟩
  · exact (if_neg (by omega)).trans (if_pos hback)
  · exact (if_neg (by omega)).trans (if_neg (by omega))

/-- The rows of NORMAL in BAND mode (R79). -/
theorem bandNext_normal (m : MonitorLimits) (v : Int) :
    (m.high ≤ v → bandNext m .normal v = .high) ∧
    (v < m.high → bandNext m .normal v = .normal) :=
  ⟨fun hhi => if_pos hhi, fun hhi => if_neg (by omega)⟩

/-- The rows of HIGH in BAND mode (R79). -/
theorem bandNext_high (m : MonitorLimits) (v : Int) :
    (v < m.low → bandNext m .high v = .normal) ∧
    (m.low ≤ v → bandNext m .high v = .high) :=
  ⟨fun hlo => if_pos hlo, fun hlo => if_neg (by omega)⟩

end Sys2Proof.Machine

/-! ### The statements of 04 settled -/

namespace Sys2Proof.Proofs

open Sys2Proof.Machine

/-- Settles O32, by the trim and its sign. A minus correction is at most the raw speed, so taking it
away in `Nat` loses nothing. -/
theorem correctedSpeed : Obligations.CorrectedSpeed := by
  intro sc c
  refine ⟨fun ht => correctedSpeed_of_trim_eq_zero ht c,
    fun ht hp => correctedSpeed_of_plus ht hp c, fun ht hm => ?_⟩
  rw [correctedSpeed_of_minus ht hm]
  exact Nat.cast_sub (Nat.div_le_self _ _)

/-- Settles O33, by the direction of the move; the range follows from the filter never rising past
the sample. -/
theorem filterMovesTowardSample : Obligations.FilterMovesTowardSample := by
  intro n f x
  refine ⟨filterToward_zero f x, filterToward_self n f, fun hn => filterToward_of_lt (by omega),
    fun hn => filterToward_of_gt (by omega), fun hf hx => ?_⟩
  exact (filterToward_le_max n f x).trans (max_le hf hx)

/-- Settles O40, by the mode and then the state of the monitor. The bounds on the hysteresis are not
needed: the statement reads the rows from the top, so no two of them meet. -/
theorem hystMonitorTable : Obligations.HystMonitorTable := by
  refine ⟨fun m v hm hlt _ _ => ?_, fun m v hm => ?_, monitorNext_none⟩
  · simp only [monitorNext_some_of_hyst hm]
    obtain ⟨normalHigh, normalLow, normalStays⟩ := hystNext_normal hlt v
    obtain ⟨highLow, highNormal, highStays⟩ := hystNext_high m v
    exact ⟨normalHigh, normalLow, normalStays, highLow, highNormal, highStays, hystNext_low m v⟩
  · simp only [monitorNext_some_of_band hm]
    obtain ⟨normalHigh, normalStays⟩ := bandNext_normal m v
    exact ⟨normalHigh, normalStays, bandNext_high m v⟩

end Sys2Proof.Proofs
end

section
/-! PROOFS: 06, the class of a zone line sample (R106). -/

namespace Sys2Proof.Machine

/-! ### A count sorted by three boundaries -/

theorem sortCount_eq_short_iff (a b c x : Nat) : sortCount a b c x = .short ↔ x < a := by
  unfold sortCount
  split_ifs <;> simp <;> omega

theorem sortCount_eq_alarm_iff (a b c x : Nat) :
    sortCount a b c x = .alarm ↔ a ≤ x ∧ x < b := by
  unfold sortCount
  split_ifs <;> simp <;> omega

/-- Below `a` the count is SHORT, so `b ≤ x` alone tells NORMAL from ALARM and SHORT only where the
boundaries stand in order. -/
theorem sortCount_eq_normal_iff {a b : Nat} (hab : a ≤ b) (c x : Nat) :
    sortCount a b c x = .normal ↔ b ≤ x ∧ x < c := by
  unfold sortCount
  split_ifs <;> simp <;> omega

theorem sortCount_eq_openCircuit_iff {a b c : Nat} (hab : a ≤ b) (hbc : b ≤ c) (x : Nat) :
    sortCount a b c x = .openCircuit ↔ c ≤ x := by
  unfold sortCount
  split_ifs <;> simp <;> omega

/-- One row of the table of R106: boundaries in order give each class its interval of counts. -/
theorem sortCount_row {a b c : Nat} (hab : a ≤ b) (hbc : b ≤ c) (x : Nat) :
    (sortCount a b c x = .short ↔ x < a) ∧
    (sortCount a b c x = .alarm ↔ a ≤ x ∧ x < b) ∧
    (sortCount a b c x = .normal ↔ b ≤ x ∧ x < c) ∧
    (sortCount a b c x = .openCircuit ↔ c ≤ x) :=
  ⟨sortCount_eq_short_iff a b c x, sortCount_eq_alarm_iff a b c x,
    sortCount_eq_normal_iff hab c x, sortCount_eq_openCircuit_iff hab hbc x⟩

end Sys2Proof.Machine

/-! ### The statement of 06 settled -/

namespace Sys2Proof.Proofs

open Sys2Proof.Machine

/-- Settles O41, by the accepted class: each class has its own row of boundaries, and moving the
accepted class's boundaries outward keeps every row in order. -/
theorem lineClassBoundaries : Obligations.LineClassBoundaries := by
  intro accepted x
  match accepted with
  | none => exact sortCount_row (a := 60) (b := 400) (c := 800) (by decide) (by decide) x
  | some .short => exact sortCount_row (a := 76) (b := 400) (c := 800) (by decide) (by decide) x
  | some .alarm => exact sortCount_row (a := 44) (b := 416) (c := 800) (by decide) (by decide) x
  | some .normal => exact sortCount_row (a := 60) (b := 384) (c := 816) (by decide) (by decide) x
  | some .openCircuit =>
    exact sortCount_row (a := 60) (b := 400) (c := 784) (by decide) (by decide) x

end Sys2Proof.Proofs
end

section
/-! PROOFS. The frames of the requests (R164, R173 to R175): every request command is what its own frame
carries, and every frame carries a request command or is malformed. -/
namespace Sys2Proof.Machine

/-! ### Fields and their bytes (R174) -/

theorem splitWord_joinBytes (hi lo : Byte) : splitWord (joinBytes hi lo) = [hi, lo] := by
  have h1 : (hi ++ lo : BitVec 16).extractLsb' 8 8 = hi := by
    ext i hi'; simp; grind
  have h2 : (hi ++ lo : BitVec 16).extractLsb' 0 8 = lo := by
    ext i hi'; simp; grind
  simp only [splitWord, joinBytes, h1, h2]

theorem joinBytes_splitWord (w : Word16) :
    joinBytes (w.extractLsb' 8 8) (w.extractLsb' 0 8) = w := by
  unfold joinBytes
  ext i hi
  simp
  grind

theorem setPayload_append (a b c : Byte) : setPayload (a ++ b ++ c) = [a, b, c] := by
  have h1 : (a ++ b ++ c : BitVec 24).extractLsb' 16 8 = a := by
    ext i hi; simp; grind
  have h2 : (a ++ b ++ c : BitVec 24).extractLsb' 8 8 = b := by
    ext i hi; simp; grind
  have h3 : (a ++ b ++ c : BitVec 24).extractLsb' 0 8 = c := by
    ext i hi; simp; grind
  simp only [setPayload, h1, h2, h3]

theorem append_setPayload (v : BitVec 24) :
    v.extractLsb' 16 8 ++ v.extractLsb' 8 8 ++ v.extractLsb' 0 8 = v := by
  ext i hi
  simp
  grind

theorem placePayload_of_placeFieldsOf {v : List Byte} {f : PlaceFields}
    (h : placeFieldsOf v = some f) : placePayload f = v := by
  unfold placeFieldsOf at h
  split at h <;> cases h
  simp [placePayload, splitWord_joinBytes]

theorem placeFieldsOf_placePayload (f : PlaceFields) : placeFieldsOf (placePayload f) = some f := by
  simp only [placePayload, splitWord, List.cons_append, List.nil_append, placeFieldsOf,
    joinBytes_splitWord]

/-! ### The request that a frame carries -/

theorem takeRequest_place (s : State) (m : Nat) (f : PlaceFields) :
    s.takeRequest m 0x01#8 (placePayload f) = s.takePlace m f := by
  change (match placeFieldsOf (placePayload f) with
    | some f => s.takePlace m f
    | none => s.takeMalformed m 0x01#8 (placePayload f)) = _
  rw [placeFieldsOf_placePayload]

theorem takeRequest_probe (s : State) (m : Nat) (f : PlaceFields) :
    s.takeRequest m 0x04#8 (placePayload f) = s.takeProbe m f := by
  change (match placeFieldsOf (placePayload f) with
    | some f => s.takeProbe m f
    | none => s.takeMalformed m 0x04#8 (placePayload f)) = _
  rw [placeFieldsOf_placePayload]

/-- A request command of a supervisor is the request that its own frame carries (R173 to R175). -/
theorem exec_eq_takeRequest {i : Instr} (s : State) {m : Nat} {code : Byte} {payload : List Byte}
    (hm : isSupervisor m = true) (h : requestParts i = some (m, code, payload)) :
    exec i s = .next (s.takeRequest m code payload) := by
  have taken : ∀ u : State, (if isSupervisor m then .next u else .next s :
      Host.Outcome State Fault Refusal) = .next u := fun u => if_pos hm
  cases i
  case place _ f =>
    cases h
    rw [takeRequest_place]; exact taken _
  case probe =>
    cases h
    rw [takeRequest_probe]; exact taken _
  case adjust _ slot gen delta =>
    cases h
    refine (taken _).trans (congrArg _ ?_)
    change _ = s.takeAdjust m slot gen (joinBytes _ _)
    rw [joinBytes_splitWord]
  case clearConditions _ set =>
    cases h
    refine (taken _).trans (congrArg _ ?_)
    change _ = s.takeClearConditions m (_ ++ _ ++ _)
    rw [append_setPayload]
  case setMask _ set =>
    cases h
    refine (taken _).trans (congrArg _ ?_)
    change _ = s.takeSetMask m (_ ++ _ ++ _)
    rw [append_setPayload]
  case listRecords _ f =>
    rcases f with _ | ⟨kind, number⟩ <;> cases h <;> exact taken _
  all_goals first
    | contradiction
    | (cases h; exact taken _)

/-- What a frame's code and payload are: those of a request command, or of none (R167). -/
theorem request_or_malformed (s : State) (m : Nat) (code : Byte) (payload : List Byte) :
    (∃ i, requestParts i = some (m, code, payload)) ∨
      s.takeRequest m code payload = s.takeMalformed m code payload := by
  rcases Nat.lt_or_ge code.toNat 19 with h | h
  · obtain ⟨k, hk, rfl⟩ : ∃ k, k < 19 ∧ code = BitVec.ofNat 8 k :=
      ⟨code.toNat, h, by simp⟩
    clear h
    interval_cases k
    -- 0x00, no request
    · right; rfl
    -- 0x01, PLACE
    · cases hf : placeFieldsOf payload with
      | some f =>
        exact .inl ⟨.place m f, by simp [requestParts, placePayload_of_placeFieldsOf hf]⟩
      | none =>
        right
        change (match placeFieldsOf payload with
          | some f => s.takePlace m f
          | none => _) = _
        rw [hf]
    -- 0x02, ADJUST
    · match payload with
      | [slot, gen, hi, lo] =>
        exact .inl ⟨.adjust m slot gen (joinBytes hi lo), by
          simp [requestParts, splitWord_joinBytes]⟩
      | [] | [_] | [_, _] | [_, _, _] | _ :: _ :: _ :: _ :: _ :: _ => right; rfl
    -- 0x03, RETIRE
    · match payload with
      | [slot, gen] => exact .inl ⟨.retire m slot gen, rfl⟩
      | [] | [_] | _ :: _ :: _ :: _ => right; rfl
    -- 0x04, PROBE
    · cases hf : placeFieldsOf payload with
      | some f =>
        exact .inl ⟨.probe m f, by simp [requestParts, placePayload_of_placeFieldsOf hf]⟩
      | none =>
        right
        change (match placeFieldsOf payload with
          | some f => s.takeProbe m f
          | none => _) = _
        rw [hf]
    -- 0x05, LIST_RECORDS
    · match payload with
      | [] => exact .inl ⟨.listRecords m none, rfl⟩
      | [kind, number] => exact .inl ⟨.listRecords m (some (kind, number)), rfl⟩
      | [_] | _ :: _ :: _ :: _ => right; rfl
    -- 0x06, READ_RECORD
    · match payload with
      | [slot, gen] => exact .inl ⟨.readRecord m slot gen, rfl⟩
      | [] | [_] | _ :: _ :: _ :: _ => right; rfl
    -- 0x07, READ_OPENING
    · match payload with
      | [n] => exact .inl ⟨.readOpening m n, rfl⟩
      | [] | _ :: _ :: _ => right; rfl
    -- 0x08, READ_GROUP
    · match payload with
      | [g] => exact .inl ⟨.readGroup m g, rfl⟩
      | [] | _ :: _ :: _ => right; rfl
    -- 0x09, READ_ZONE
    · match payload with
      | [z] => exact .inl ⟨.readZone m z, rfl⟩
      | [] | _ :: _ :: _ => right; rfl
    -- 0x0A, READ_WEATHER
    · match payload with
      | [] => exact .inl ⟨.readWeather m, rfl⟩
      | _ :: _ => right; rfl
    -- 0x0B, READ_CONDITIONS
    · match payload with
      | [] => exact .inl ⟨.readConditions m, rfl⟩
      | _ :: _ => right; rfl
    -- 0x0C, CLEAR_CONDITIONS
    · match payload with
      | [a, b, c] => exact .inl ⟨.clearConditions m (a ++ b ++ c), by
          simp [requestParts, setPayload_append]⟩
      | [] | [_] | [_, _] | _ :: _ :: _ :: _ :: _ => right; rfl
    -- 0x0D, SET_MASK
    · match payload with
      | [a, b, c] => exact .inl ⟨.setMask m (a ++ b ++ c), by
          simp [requestParts, setPayload_append]⟩
      | [] | [_] | [_, _] | _ :: _ :: _ :: _ :: _ => right; rfl
    -- 0x0E, CONFIGURE
    · match payload with
      | kind :: index :: value => exact .inl ⟨.configure m kind index value, rfl⟩
      | [] | [_] => right; rfl
    -- 0x0F, READ_CONFIG
    · match payload with
      | [kind, index] => exact .inl ⟨.readConfig m kind index, rfl⟩
      | [] | [_] | _ :: _ :: _ :: _ => right; rfl
    -- 0x10, CLEAR_FAULT
    · match payload with
      | [n] => exact .inl ⟨.clearFault m n, rfl⟩
      | [] | _ :: _ :: _ => right; rfl
    -- 0x11, FIRE_RESET
    · match payload with
      | [] => exact .inl ⟨.fireReset m, rfl⟩
      | _ :: _ => right; rfl
    -- 0x12, RESTART
    · match payload with
      | [] => exact .inl ⟨.restart m, rfl⟩
      | _ :: _ => right; rfl
  · right
    obtain ⟨n, hn⟩ := Nat.exists_eq_add_of_le' h
    unfold State.takeRequest
    rw [hn]
    rfl
end Sys2Proof.Machine
end

section
/-! PROOFS. What each command changes and what it leaves (00, Block diagram): the frame of every request
and of every meaning, chained from the frames of the shared operations. -/
namespace Sys2Proof.Machine

/-! ### The frame of a request and of its response -/

theorem Answered.respond_frame {bs : List Block} {s : State} {x : Answered}
    (h : sameOutside bs s x.1) (m : Nat) (code : Byte) :
    sameOutside (.link :: bs) s (x.respond m code) :=
  (h.mono fun _ hb => List.mem_cons_of_mem _ hb).trans
    ((Machine.respond_frame x.1 m code x.2).mono (by simp))

/-- A request that changes nothing has its response held, and nothing else happens. -/
theorem Answered.respond_frame_of_state {s : State} {x : Answered} (h : x.1 = s) (m : Nat)
    (code : Byte) : sameOutside [.link] s (x.respond m code) :=
  Answered.respond_frame (bs := []) (h ▸ .refl [] x.1) m code

theorem requestList_state (s : State) (f : Option (Byte × Byte)) : (s.requestList f).1 = s := by
  unfold State.requestList
  split
  · rfl
  · split <;> rfl

theorem requestReadRecord_state (s : State) (slot gen : Byte) :
    (s.requestReadRecord slot gen).1 = s := by
  unfold State.requestReadRecord
  dsimp only
  split <;> rfl

theorem requestReadOpening_state (s : State) (n : Byte) : (s.requestReadOpening n).1 = s := by
  unfold State.requestReadOpening
  split <;> rfl

theorem requestReadGroup_state (s : State) (g : Byte) : (s.requestReadGroup g).1 = s := by
  unfold State.requestReadGroup
  split <;> rfl

theorem requestReadZone_state (s : State) (z : Byte) : (s.requestReadZone z).1 = s := by
  unfold State.requestReadZone
  split <;> rfl

theorem requestReadConfig_state (s : State) (kind index : Byte) :
    (s.requestReadConfig kind index).1 = s := by
  unfold State.requestReadConfig
  split <;> rfl

theorem requestRestart_state (s : State) (m : Nat) : (s.requestRestart m).1 = s := by
  unfold State.requestRestart
  split <;> rfl

theorem requestClearFault_frame (s : State) (n : Byte) :
    sameOutside [.moves, .bus, .fire, .mail] s (s.requestClearFault n).1 := by
  unfold State.requestClearFault
  dsimp only
  split
  · exact clearFault_frame _ _
  · exact .refl _ _

theorem requestFireReset_frame (s : State) (m : Nat) :
    sameOutside [.fire, .demand, .stations, .moves, .bus, .mail] s (s.requestFireReset m).1 := by
  unfold State.requestFireReset
  split
  · exact fireReset_frame _
  · exact .refl _ _

/-! ### Each request taken -/

variable (s : State) (m : Nat)

theorem takePlace_frame (f : PlaceFields) :
    sameOutside [.demand, .results, .stations, .link, .mail] s (s.takePlace m f) :=
  (Answered.respond_frame (requestPlace_frame s m f) m _).mono (by simp)

theorem takeAdjust_frame (slot gen : Byte) (delta : Word16) :
    sameOutside [.demand, .results, .link, .mail] s (s.takeAdjust m slot gen delta) :=
  (Answered.respond_frame (requestAdjust_frame s m slot gen delta) m _).mono (by simp)

theorem takeRetire_frame (slot gen : Byte) :
    sameOutside [.demand, .stations, .link, .mail] s (s.takeRetire m slot gen) :=
  (Answered.respond_frame (requestRetire_frame s m slot gen) m _).mono (by simp)

theorem takeProbe_frame (f : PlaceFields) : sameOutside [.link] s (s.takeProbe m f) :=
  Answered.respond_frame_of_state (requestProbe_state s m f) m _

theorem takeList_frame (f : Option (Byte × Byte)) : sameOutside [.link] s (s.takeList m f) :=
  Answered.respond_frame_of_state (requestList_state s f) m _

theorem takeReadRecord_frame (slot gen : Byte) :
    sameOutside [.link] s (s.takeReadRecord m slot gen) :=
  Answered.respond_frame_of_state (requestReadRecord_state s slot gen) m _

theorem takeReadOpening_frame (n : Byte) : sameOutside [.link] s (s.takeReadOpening m n) :=
  Answered.respond_frame_of_state (requestReadOpening_state s n) m _

theorem takeReadGroup_frame (g : Byte) : sameOutside [.link] s (s.takeReadGroup m g) :=
  Answered.respond_frame_of_state (requestReadGroup_state s g) m _

theorem takeReadZone_frame (z : Byte) : sameOutside [.link] s (s.takeReadZone m z) :=
  Answered.respond_frame_of_state (requestReadZone_state s z) m _

theorem takeReadWeather_frame : sameOutside [.link] s (s.takeReadWeather m) :=
  Answered.respond_frame_of_state (x := s.requestReadWeather) rfl m _

theorem takeReadConditions_frame : sameOutside [.link] s (s.takeReadConditions m) :=
  Answered.respond_frame_of_state (x := s.requestReadConditions) rfl m _

theorem takeClearConditions_frame (set : BitVec 24) :
    sameOutside [.conditions, .link] s (s.takeClearConditions m set) :=
  (Answered.respond_frame (requestConditions_frame s set).1 m _).mono (by simp)

theorem takeSetMask_frame (set : BitVec 24) :
    sameOutside [.conditions, .link] s (s.takeSetMask m set) :=
  (Answered.respond_frame (requestConditions_frame s set).2 m _).mono (by simp)

theorem takeConfigure_frame (kind index : Byte) (v : List Byte) :
    sameOutside [.store, .link] s (s.takeConfigure m kind index v) := by
  have h := (requestConfigure_frame s m kind index v).mono (cs := [.store, .link]) (by simp)
  unfold State.takeConfigure
  dsimp only
  split
  · exact h.trans ((respond_frame _ _ _ _).mono (by simp))
  · exact h.trans ((dropHeld_frame _).mono (by simp))

theorem takeReadConfig_frame (kind index : Byte) :
    sameOutside [.link] s (s.takeReadConfig m kind index) :=
  Answered.respond_frame_of_state (requestReadConfig_state s kind index) m _

theorem takeClearFault_frame (n : Byte) :
    sameOutside [.moves, .bus, .fire, .link, .mail] s (s.takeClearFault m n) :=
  (Answered.respond_frame (requestClearFault_frame s n) m _).mono (by simp)

theorem takeFireReset_frame :
    sameOutside [.fire, .demand, .stations, .moves, .bus, .link, .mail] s (s.takeFireReset m) :=
  (Answered.respond_frame (requestFireReset_frame s m) m _).mono (by simp)

theorem takeRestart_frame : sameOutside [.link] s (s.takeRestart m) :=
  Answered.respond_frame_of_state (requestRestart_state s m) m _

theorem takeMalformed_frame (code : Byte) (payload : List Byte) :
    sameOutside [.link] s (s.takeMalformed m code payload) :=
  Answered.respond_frame_of_state (x := s.refuse _) rfl m code

/-! ### What the operations of the weather unit leave of it -/

/-- The dwell changes D and its own timer, and nothing else of the weather unit (R75). -/
theorem dwellSecond_keeps (w : Weather) (b : WeatherBlock) :
    w.dwellSecond b =
      { w with heldDir := (w.dwellSecond b).heldDir, dwell := (w.dwellSecond b).dwell } := by
  unfold Weather.dwellSecond
  split
  · split
    · split <;> rfl
    · rfl
  · rfl

/-- A gate end leaves the rain, temperature and supply channels and their monitors. -/
theorem atGateEnd_supplyState (w : Weather) (b : WeatherBlock) :
    (w.atGateEnd b).supplyState = w.supplyState := by
  unfold Weather.atGateEnd
  dsimp only
  rw [dwellSecond_keeps]
  rfl

/-- A rain sample changes the four fields of the rain contact (R76). -/
theorem rainSample_keeps (w : Weather) (b : WeatherBlock) (a : Bool) :
    w.rainSample b a =
      { w with rainSampled := (w.rainSample b a).rainSampled, wet := (w.rainSample b a).wet,
               wetHold := (w.rainSample b a).wetHold, dryHold := (w.rainSample b a).dryHold } := by
  unfold Weather.rainSample
  dsimp only
  split
  · split <;> rfl
  · rfl
  · split <;> rfl
  · rfl

/-- A vane reading changes the vane's channel, D and its dwell (R73 to R75). -/
theorem vaneReading_keeps (w : Weather) (b : WeatherBlock) (r : Option Nat) :
    w.vaneReading b r =
      { w with vaneClass := (w.vaneReading b r).vaneClass
               vaneValue := (w.vaneReading b r).vaneValue
               vaneTimer := (w.vaneReading b r).vaneTimer
               heldDir := (w.vaneReading b r).heldDir, dwell := (w.vaneReading b r).dwell } := by
  unfold Weather.vaneReading Weather.validReading
  dsimp only
  split
  · split
    · split
      · rfl
      · split <;> rfl
    · rfl
  · rfl

/-- A temperature reading changes the temperature channel (R77). -/
theorem probeReading_keeps (w : Weather) (r : Option Int) :
    w.probeReading r =
      { w with tempClass := (w.probeReading r).tempClass
               tempValue := (w.probeReading r).tempValue
               tempTimer := (w.probeReading r).tempTimer } := by
  unfold Weather.probeReading
  split
  · rfl
  · split
    · rfl
    · split <;> rfl

theorem setCap_lowSupply (w : Weather) (p : Profile) (c : HeldCap) :
    (w.setCap p c).lowSupply = w.lowSupply := by cases p <;> rfl

theorem setCap_heldDir (w : Weather) (p : Profile) (c : HeldCap) :
    (w.setCap p c).heldDir = w.heldDir := by cases p <;> rfl

/-! ### The frame of every command -/

variable {s} {t : State}

/-- A command that answers `u` keeps what `u` keeps. -/
theorem sameOutside_of_next {bs : List Block} {u : State}
    (h : (.next u : Host.Outcome State Fault Refusal) = .next t) (hu : sameOutside bs s u) :
    sameOutside bs s t := by
  cases h; exact hu

/-- A request of a supervisor is taken, and any other changes nothing. -/
theorem sameOutside_of_request {bs : List Block} {m : Nat} {u : State}
    (h : (if isSupervisor m then .next u else .next s : Host.Outcome State Fault Refusal) = .next t)
    (hu : sameOutside bs s u) : sameOutside bs s t := by
  split at h <;> cases h
  · exact hu
  · exact .refl _ _

/-- An event of the movement controller, after a change of its own blocks. -/
theorem sameOutside_endMoveEvent {u before : State}
    (hu : sameOutside [.moves, .bus, .mail] s u) :
    sameOutside [.moves, .bus, .fire, .mail] s (u.endMoveEvent before) :=
  (hu.mono (by simp)).trans (endMoveEvent_frame _ _)

theorem execReceiveBufferOverflow_frame (h : execReceiveBufferOverflow s = .next t) :
    sameOutside [.link] s t := by
  unfold execReceiveBufferOverflow at h
  split at h <;> cases h
  · exact setLink_frame _ _
  · exact .refl _ _

theorem execDiscardIdleGap_frame (h : execDiscardIdleGap s = .next t) :
    sameOutside [.link] s t := by
  unfold execDiscardIdleGap at h
  split at h <;> cases h
  · exact setLink_frame _ _
  · exact .refl _ _

theorem execHeldResponseSend_frame (h : execHeldResponseSend s = .next t) :
    sameOutside [.link] s t := by
  unfold execHeldResponseSend at h
  split at h <;> cases h
  · exact setLink_frame _ _
  · exact .refl _ _

theorem execHeldResponseDiscard_frame {b : Byte} {misframed : Bool}
    (h : execHeldResponseDiscard b s misframed = .next t) : sameOutside [.link] s t := by
  unfold execHeldResponseDiscard at h
  split at h <;> cases h
  · exact setLink_frame _ _
  · exact .refl _ _

theorem execDeferredResponseSend_frame (h : execDeferredResponseSend s = .next t) :
    sameOutside [.link] s t := by
  unfold execDeferredResponseSend at h
  split at h
  · split at h <;> cases h
    · exact setLink_frame _ _
    · exact .refl _ _
  · cases h; exact .refl _ _

theorem execTransmissionEnd_frame (h : execTransmissionEnd s = .next t) :
    sameOutside [.link] s t := by
  unfold execTransmissionEnd at h
  split at h <;> cases h
  · exact setLink_frame _ _
  · exact .refl _ _

theorem restartWith_frame (s : State) (st : Store) (cause : ResetCause) (supply : Int) :
    sameOutside [.store, .demand, .weather, .results, .fire, .stations, .moves, .bus, .link,
      .conditions, .mail] s (s.restartWith st cause supply) := by
  apply sameOutside.of_agrees <;> simp [State.restartWith]

theorem execRestartTaken_frame {w : Bool} {v : Int} (h : execRestartTaken w v s = .next t) :
    sameOutside (touchedBy (.restartTaken w v)) s t := by
  unfold execRestartTaken at h
  split at h <;> cases h
  · exact restartWith_frame _ _ _ _
  · exact .refl _ _

theorem completeWrite_frame (s : State) (w : EntryWrite) (left : Nat) :
    sameOutside (touchedBy (.writeComplete left)) s (s.completeWrite w left) := by
  unfold State.completeWrite
  split
  · exact ((setStore_frame _ _).mono (by simp [touchedBy])).trans
      ((writeAnswered_frame _ _ _ _).mono (by simp [touchedBy]))
  · exact (((setStore_frame _ _).mono (by simp [touchedBy])).trans
      ((writeTold_frame _ _ _ _).mono (by simp [touchedBy]))).trans
      ((writeAnswered_frame _ _ _ _).mono (by simp [touchedBy]))

theorem execWriteComplete_frame {left : Nat} (h : execWriteComplete s left = .next t) :
    sameOutside (touchedBy (.writeComplete left)) s t := by
  unfold execWriteComplete at h
  split at h <;> cases h
  · exact completeWrite_frame _ _ _
  · exact .refl _ _

theorem failWrite_frame (s : State) (w : EntryWrite) :
    sameOutside [.store, .link, .mail] s (s.failWrite w) :=
  (((setStore_frame _ _).mono (by simp)).trans ((report_frame _ _ _ _).mono (by simp))).trans
    ((writeAnswered_frame _ _ _ _).mono (by simp))

theorem execWriteFail_frame (h : execWriteFail s = .next t) :
    sameOutside [.store, .link, .mail] s t := by
  unfold execWriteFail at h
  split at h <;> cases h
  · exact failWrite_frame _ _
  · exact .refl _ _

theorem execRecordExpired_frame {k : Nat} (h : execRecordExpired k s = .next t) :
    sameOutside [.demand, .stations, .mail] s t := by
  unfold execRecordExpired at h
  split at h
  · split at h
    · split at h <;> cases h
      · exact retireSlot_frame _ _ _
      · exact .refl _ _
    · cases h; exact .refl _ _
  · cases h

theorem execRecordStarved_frame {k : Nat} (h : execRecordStarved k s = .next t) :
    sameOutside [.demand, .stations, .mail] s t := by
  unfold execRecordStarved at h
  split at h
  · split at h
    · split at h <;> cases h
      · exact retireSlot_frame _ _ _
      · exact .refl _ _
    · cases h; exact .refl _ _
  · cases h

theorem execResolverRecompute_frame {teller : Teller}
    (h : execResolverRecompute teller s = .next t) : sameOutside [.results, .mail] s t := by
  unfold execResolverRecompute at h
  split at h <;> split at h <;> cases h
  · exact ((setMail_frame _ _).mono (by simp)).trans (recompute_frame _ _)
  · exact .refl _ _
  · exact ((setMail_frame _ _).mono (by simp)).trans (recompute_frame _ _)
  · exact .refl _ _

theorem execReopenTimerExpiry_frame {p : Profile} (h : execReopenTimerExpiry p s = .next t) :
    sameOutside [.weather, .mail] s t := by
  unfold execReopenTimerExpiry at h
  split at h <;> cases h
  · exact weatherEvent_frame_of_quiet (setCap_heldDir _ _ _).symm (setCap_lowSupply _ _ _).symm
  · exact .refl _ _

theorem execSensorReportStart_frame (h : execSensorReportStart s = .next t) :
    sameOutside [.weather, .mail] s t := by
  unfold execSensorReportStart at h
  split at h <;> cases h
  · exact weatherEvent_frame_of_quiet rfl rfl
  · exact .refl _ _

theorem execDwellReached_frame (h : execDwellReached s = .next t) :
    sameOutside [.weather, .results, .mail] s t := by
  unfold execDwellReached at h
  split at h
  · split at h <;> cases h
    · exact weatherEvent_frame_of_lowSupply rfl
    · exact .refl _ _
  · cases h; exact .refl _ _

theorem execVaneReading_frame {r : Option Nat} (h : execVaneReading r s = .next t) :
    sameOutside [.weather, .results, .mail] s t := by
  unfold execVaneReading at h
  split at h <;> cases h
  · exact weatherEvent_frame_of_lowSupply (by rw [vaneReading_keeps]; rfl)
  · exact .refl _ _

theorem execVaneStale_frame (h : execVaneStale s = .next t) :
    sameOutside [.weather, .mail] s t := by
  unfold execVaneStale at h
  split at h <;> cases h
  · exact weatherEvent_frame_of_quiet rfl rfl
  · exact .refl _ _

/-- An event at the rain contact acts on the weather unit alone. -/
theorem weatherEvent_rainSample_frame (s : State) (b : WeatherBlock) (a : Bool) :
    sameOutside [.weather, .mail] s (s.weatherEvent (s.weather.rainSample b a)) :=
  weatherEvent_frame_of_quiet (by rw [rainSample_keeps]) (by rw [rainSample_keeps]; rfl)

theorem execRainSample_frame {a : Bool} (h : execRainSample a s = .next t) :
    sameOutside [.weather, .mail] s t := by
  unfold execRainSample at h
  split at h <;> cases h
  · exact weatherEvent_rainSample_frame _ _ _
  · exact .refl _ _

theorem execWetHoldEnd_frame (h : execWetHoldEnd s = .next t) :
    sameOutside [.weather, .mail] s t := by
  unfold execWetHoldEnd at h
  split at h <;> cases h
  · exact weatherEvent_rainSample_frame _ _ _
  · exact .refl _ _

theorem execDryHoldEnd_frame (h : execDryHoldEnd s = .next t) :
    sameOutside [.weather, .mail] s t := by
  unfold execDryHoldEnd at h
  split at h <;> cases h
  · exact weatherEvent_rainSample_frame _ _ _
  · exact .refl _ _

theorem execProbeReading_frame {r : Option Int} (h : execProbeReading r s = .next t) :
    sameOutside [.weather, .mail] s t := by
  unfold execProbeReading at h
  split at h <;> cases h
  · refine weatherEvent_frame_of_quiet ?_ ?_
    · rw [probeReading_keeps]; rfl
    · rw [probeReading_keeps]; rfl
  · exact .refl _ _

theorem execProbeStale_frame (h : execProbeStale s = .next t) :
    sameOutside [.weather, .mail] s t := by
  unfold execProbeStale at h
  split at h <;> cases h
  · exact weatherEvent_frame_of_quiet rfl rfl
  · exact .refl _ _

theorem execZoneLineSample_frame {z : Nat} {count : BitVec 10}
    (h : execZoneLineSample z count s = .next t) :
    sameOutside [.fire, .demand, .stations, .mail] s t := by
  unfold execZoneLineSample at h
  split at h <;> cases h
  exact sampleLine_frame _ _ _

theorem execLineAcceptance_frame {z left : Nat} (h : execLineAcceptance z s left = .next t) :
    sameOutside [.fire, .demand, .stations, .mail] s t := by
  have taken := (takeSteps_frame s z left).mono (cs := [.fire, .demand, .stations, .mail]) (by simp)
  unfold execLineAcceptance at h
  dsimp only at h
  split at h
  · split at h
    · split at h <;> cases h
      · exact taken.trans (acceptLine_frame _ _ _ _)
      · exact taken
    · cases h; exact taken
  · cases h

theorem execFiremanSwitchChange_frame {z : Nat} {a b : Bool}
    (h : execFiremanSwitchChange z a b s = .next t) : sameOutside [.fire] s t := by
  unfold execFiremanSwitchChange at h
  split at h
  · split at h
    · split at h <;> cases h
      · exact .refl _ _
      · exact setZone_frame _ _ _
    · cases h; exact .refl _ _
  · cases h

theorem execSwitchAcceptance_frame {z : Nat} (h : execSwitchAcceptance z s = .next t) :
    sameOutside [.fire, .demand, .stations, .mail] s t := by
  unfold execSwitchAcceptance at h
  split at h
  · split at h
    · split at h <;> cases h
      · exact acceptSwitch_frame _ _ _
      · exact .refl _ _
    · cases h; exact .refl _ _
  · cases h

theorem execResetKeyChange_frame {made : Bool} (h : execResetKeyChange made s = .next t) :
    sameOutside [.fire] s t := by
  unfold execResetKeyChange at h
  split at h <;> cases h
  · exact .refl _ _
  · exact setFire_frame _ _

theorem execResetKeyAcceptance_frame (h : execResetKeyAcceptance s = .next t) :
    sameOutside [.fire, .demand, .stations, .moves, .bus, .mail] s t := by
  unfold execResetKeyAcceptance at h
  dsimp only at h
  split at h
  · split at h <;> cases h
    · exact ((setFire_frame _ _).mono (by simp)).trans (fireReset_frame _)
    · exact (setFire_frame _ _).mono (by simp)
  · cases h; exact .refl _ _

theorem execButtonContactChange_frame {n : Nat} {b : ButtonId} {made : Bool}
    (h : execButtonContactChange n b made s = .next t) : sameOutside [.stations] s t := by
  unfold execButtonContactChange at h
  split at h
  · split at h
    · split at h <;> cases h
      · exact .refl _ _
      · exact setStation_frame _ _ _
    · cases h; exact .refl _ _
  · cases h

theorem execButtonAcceptance_frame {n : Nat} {b : ButtonId}
    (h : execButtonAcceptance n b s = .next t) :
    sameOutside [.stations, .demand, .mail] s t := by
  unfold execButtonAcceptance at h
  split at h
  · split at h
    · split at h <;> cases h
      · exact acceptButton_frame _ _ _ _
      · exact .refl _ _
    · cases h; exact .refl _ _
  · cases h

theorem execHoldTimerExpiry_frame {n : Nat} (h : execHoldTimerExpiry n s = .next t) :
    sameOutside [.stations, .demand, .mail] s t := by
  have spent : ∀ st, sameOutside [.stations, .demand, .mail] s (s.setStation n st) := fun st =>
    (setStation_frame s n st).mono (by simp)
  unfold execHoldTimerExpiry at h
  dsimp only at h
  split at h
  · split at h
    · split at h
      · split at h <;> cases h
        · exact (spent _).trans (longPress_frame _ _ _)
        · exact (spent _).trans (longPress_frame _ _ _)
        · exact (spent _).trans (bothHeld_frame _ _)
        · exact .refl _ _
        · exact .refl _ _
      · cases h; exact .refl _ _
    · cases h; exact .refl _ _
  · cases h

theorem execTargetEvent_frame {n : Nat} (h : execTargetEvent n s = .next t) :
    sameOutside [.moves, .bus, .fire, .mail] s t := by
  unfold execTargetEvent at h
  split at h
  · split at h <;> cases h
    · exact sameOutside_endMoveEvent
        (((setMail_frame _ _).mono (by simp)).trans ((onTarget_frame _ _).mono (by simp)))
    · exact .refl _ _
  · cases h

theorem execMovementReply_frame {n : Nat} (h : execMovementReply n s = .next t) :
    sameOutside [.moves, .bus, .fire, .mail] s t := by
  unfold execMovementReply at h
  split at h
  · split at h <;> cases h
    · exact sameOutside_endMoveEvent
        (((setMail_frame _ _).mono (by simp)).trans (onReply_frame _ _))
    · exact .refl _ _
  · cases h

theorem execOrderOutcome_frame {n : Nat} (h : execOrderOutcome n s = .next t) :
    sameOutside [.moves, .bus, .fire, .mail] s t := by
  unfold execOrderOutcome at h
  split at h
  · split at h <;> cases h
    · exact sameOutside_endMoveEvent
        (((setMail_frame _ _).mono (by simp)).trans ((onOutcome_frame _ _).mono (by simp)))
    · exact .refl _ _
  · cases h

theorem execNodeLostEvent_frame {n : Nat} (h : execNodeLostEvent n s = .next t) :
    sameOutside [.moves, .bus, .fire, .mail] s t := by
  unfold execNodeLostEvent at h
  split at h
  · split at h <;> cases h
    · exact sameOutside_endMoveEvent
        (((setMail_frame _ _).mono (by simp)).trans (onLost_frame _ _))
    · exact .refl _ _
  · cases h

/-- A timer row of the movement controller acts where its timer is at the last second. -/
theorem sameOutside_of_timerRow {n : Nat} {p : MoveRecord → Prop} [DecidablePred p]
    {f : MoveRecord → State} {o : Host.Outcome State Fault Refusal}
    (ho : o = if isOpening n then
      match s.move n with
      | some m => if p m then .next (f m) else .next s
      | none => .next s
    else .fault .noSuchOpening) (h : o = .next t)
    (hf : ∀ m, sameOutside [.moves, .bus, .fire, .mail] s (f m)) :
    sameOutside [.moves, .bus, .fire, .mail] s t := by
  rw [ho] at h
  split at h
  · split at h
    · split at h <;> cases h
      · exact hf _
      · exact .refl _ _
    · cases h; exact .refl _ _
  · cases h

theorem execBreakawayEnd_frame {n : Nat} (h : execBreakawayEnd n s = .next t) :
    sameOutside [.moves, .bus, .fire, .mail] s t :=
  sameOutside_of_timerRow rfl h fun _ =>
    sameOutside_endMoveEvent ((endBreakaway_frame _ _).mono (by simp))

theorem execOvertime_frame {n : Nat} (h : execOvertime n s = .next t) :
    sameOutside [.moves, .bus, .fire, .mail] s t :=
  sameOutside_of_timerRow rfl h fun _ => sameOutside_endMoveEvent (moveFault_frame _ _ _)

theorem execProgressWindowEnd_frame {n : Nat} (h : execProgressWindowEnd n s = .next t) :
    sameOutside [.moves, .bus, .fire, .mail] s t :=
  sameOutside_of_timerRow rfl h fun m => sameOutside_endMoveEvent (by
    split
    · exact moveFault_frame _ _ _
    · exact judgeHeadway_frame _ _)

theorem execNoStop_frame {n : Nat} (h : execNoStop n s = .next t) :
    sameOutside [.moves, .bus, .fire, .mail] s t :=
  sameOutside_of_timerRow rfl h fun _ => sameOutside_endMoveEvent (moveFault_frame _ _ _)

theorem execRetryTimerEnd_frame {n : Nat} (h : execRetryTimerEnd n s = .next t) :
    sameOutside [.moves, .bus, .fire, .mail] s t :=
  sameOutside_of_timerRow rfl h fun _ =>
    sameOutside_endMoveEvent ((enterAtRest_frame _ _).mono (by simp))

theorem execStartWaitRise_frame {n : Nat} (h : execStartWaitRise n s = .next t) :
    sameOutside [.moves, .bus, .fire, .mail] s t :=
  sameOutside_of_timerRow rfl h fun _ =>
    sameOutside_endMoveEvent ((setMove_frame _ _ _).mono (by simp))

theorem execMovementTick_frame (h : execMovementTick s = .next t) :
    sameOutside [.moves, .bus, .fire, .mail] s t :=
  sameOutside_of_next h (sameOutside_endMoveEvent (sameOutside.foldl _ moveSecond_frame _ _))

theorem execSlotGrant_frame (h : execSlotGrant s = .next t) :
    sameOutside [.moves, .bus, .fire, .mail] s t := by
  unfold execSlotGrant at h
  split at h
  · next hg =>
    cases h
    exact ((grantOne_frame hg).mono (by simp)).trans ((announceMoves_frame _ _).mono (by simp))
  · cases h; exact .refl _ _

theorem execOrderTurn_frame (h : execOrderTurn s = .next t) : sameOutside [.bus, .mail] s t := by
  unfold execOrderTurn at h
  split at h <;> cases h
  · exact orderTurn_frame _
  · exact .refl _ _

theorem execPollTurn_frame (h : execPollTurn s = .next t) : sameOutside [.bus] s t := by
  unfold execPollTurn at h
  split at h <;> cases h
  · exact setBus_frame _ _
  · exact .refl _ _

theorem execReplyReceived_frame {bytes : List Byte} (h : execReplyReceived bytes s = .next t) :
    sameOutside [.bus, .fire, .mail] s t := by
  unfold execReplyReceived at h
  split at h
  · split at h
    · cases h; exact .refl _ _
    · split at h
      · cases h; exact (setBus_frame _ _).mono (by simp)
      · split at h <;> cases h
        · exact transactionReplied_frame _ _ _
        · exact transactionFailed_frame _ _ _
  · cases h; exact .refl _ _

theorem execNoReply_frame (h : execNoReply s = .next t) :
    sameOutside [.bus, .fire, .mail] s t := by
  unfold execNoReply at h
  split at h
  · split at h <;> cases h
    · exact (setBus_frame _ _).mono (by simp)
    · exact transactionFailed_frame _ _ _
  · cases h; exact .refl _ _

theorem execConditionReport_frame {owner : Owner} (h : execConditionReport owner s = .next t) :
    sameOutside [.conditions, .mail] s t := by
  unfold execConditionReport at h
  split at h <;> cases h
  · exact ((setMail_frame _ _).mono (by simp)).trans ((setConditions_frame _ _).mono (by simp))
  · exact .refl _ _

/-- The frame of every command but FRAME_TAKEN, which carries out another one. -/
theorem exec_frame_of_ne_frameTaken {c : Instr} (hc : c ≠ .frameTaken) (h : exec c s = .next t) :
    sameOutside (touchedBy c) s t := by
  cases c with
  | powerOnReset w v => exact sameOutside_of_next h (restartWith_frame _ _ _ _)
  | frameTaken => exact absurd rfl hc
  | receiveBufferOverflow => exact execReceiveBufferOverflow_frame h
  | discardIdleGap => exact execDiscardIdleGap_frame h
  | place m f => exact sameOutside_of_request h (takePlace_frame _ _ _)
  | adjust m slot gen delta => exact sameOutside_of_request h (takeAdjust_frame _ _ _ _ _)
  | retire m slot gen => exact sameOutside_of_request h (takeRetire_frame _ _ _ _)
  | probe m f => exact sameOutside_of_request h (takeProbe_frame _ _ _)
  | listRecords m f => exact sameOutside_of_request h (takeList_frame _ _ _)
  | readRecord m slot gen => exact sameOutside_of_request h (takeReadRecord_frame _ _ _ _)
  | readOpening m n => exact sameOutside_of_request h (takeReadOpening_frame _ _ _)
  | readGroup m g => exact sameOutside_of_request h (takeReadGroup_frame _ _ _)
  | readZone m z => exact sameOutside_of_request h (takeReadZone_frame _ _ _)
  | readWeather m => exact sameOutside_of_request h (takeReadWeather_frame _ _)
  | readConditions m => exact sameOutside_of_request h (takeReadConditions_frame _ _)
  | clearConditions m set => exact sameOutside_of_request h (takeClearConditions_frame _ _ _)
  | setMask m set => exact sameOutside_of_request h (takeSetMask_frame _ _ _)
  | configure m kind index v => exact sameOutside_of_request h (takeConfigure_frame _ _ _ _ _)
  | readConfig m kind index => exact sameOutside_of_request h (takeReadConfig_frame _ _ _ _)
  | clearFault m n => exact sameOutside_of_request h (takeClearFault_frame _ _ _)
  | fireReset m => exact sameOutside_of_request h (takeFireReset_frame _ _)
  | restart m => exact sameOutside_of_request h (takeRestart_frame _ _)
  | heldResponseSend => exact execHeldResponseSend_frame h
  | heldResponseDiscard b misframed => exact execHeldResponseDiscard_frame h
  | deferredResponseSend => exact execDeferredResponseSend_frame h
  | transmissionEnd => exact execTransmissionEnd_frame h
  | restartTaken w v => exact execRestartTaken_frame h
  | writeComplete left => exact execWriteComplete_frame h
  | writeFail => exact execWriteFail_frame h
  | demandTick => exact sameOutside_of_next h (closeOperation_frame _ _ _)
  | recordExpired k => exact execRecordExpired_frame h
  | recordStarved k => exact execRecordStarved_frame h
  | resolverRecompute teller => exact execResolverRecompute_frame h
  | anemometerPulse which => cases which <;> exact sameOutside_of_next h (setWeather_frame _ _)
  | anemometerSupervision which inBand =>
    cases which <;> exact sameOutside_of_next h (setWeather_frame _ _)
  | gateEnd =>
    refine sameOutside_of_next h (weatherEvent_frame_of_lowSupply ?_)
    simp only [Weather.lowSupply, atGateEnd_supplyState]
  | reopenTimerExpiry p => exact execReopenTimerExpiry_frame h
  | sensorReportStart => exact execSensorReportStart_frame h
  | vaneReading r => exact execVaneReading_frame h
  | vaneStale => exact execVaneStale_frame h
  | dwellReached => exact execDwellReached_frame h
  | rainSample a => exact execRainSample_frame h
  | wetHoldEnd => exact execWetHoldEnd_frame h
  | dryHoldEnd => exact execDryHoldEnd_frame h
  | probeReading r => exact execProbeReading_frame h
  | probeStale => exact execProbeStale_frame h
  | supplySample v =>
    refine sameOutside_of_next h (sameOutside.mono (weatherEvent_frame_of_heldDir rfl) ?_)
    simp [touchedBy]
  | zoneLineSample z count => exact execZoneLineSample_frame h
  | lineAcceptance z left => exact execLineAcceptance_frame h
  | flashTimebase => exact sameOutside_of_next h (setFire_frame _ _)
  | firemanSwitchChange z a b => exact execFiremanSwitchChange_frame h
  | switchAcceptance z => exact execSwitchAcceptance_frame h
  | resetKeyChange made => exact execResetKeyChange_frame h
  | resetKeyAcceptance => exact execResetKeyAcceptance_frame h
  | buttonContactChange n b made => exact execButtonContactChange_frame h
  | buttonAcceptance n b => exact execButtonAcceptance_frame h
  | holdTimerExpiry n => exact execHoldTimerExpiry_frame h
  | targetEvent n => exact execTargetEvent_frame h
  | movementReply n => exact execMovementReply_frame h
  | orderOutcome n => exact execOrderOutcome_frame h
  | nodeLostEvent n => exact execNodeLostEvent_frame h
  | movementTick => exact execMovementTick_frame h
  | breakawayEnd n => exact execBreakawayEnd_frame h
  | overtime n => exact execOvertime_frame h
  | progressWindowEnd n => exact execProgressWindowEnd_frame h
  | noStop n => exact execNoStop_frame h
  | retryTimerEnd n => exact execRetryTimerEnd_frame h
  | startWaitRise n => exact execStartWaitRise_frame h
  | slotGrant => exact execSlotGrant_frame h
  | orderTurn => exact execOrderTurn_frame h
  | pollTurn => exact execPollTurn_frame h
  | replyReceived bytes => exact execReplyReceived_frame h
  | noReply => exact execNoReply_frame h
  | conditionReport owner => exact execConditionReport_frame h
  | byteArrives b misframed => exact sameOutside_of_next h (setLink_frame _ _)

/-- A request changes no block that a frame taken may not change. -/
theorem touchedBy_request {i : Instr} {x : Nat × Byte × List Byte} (h : requestParts i = some x) :
    ∀ b ∈ touchedBy i, b ∈ touchedBy .frameTaken := by
  cases i <;> first
    | contradiction
    | simp [touchedBy]

/-- A request that a frame carries changes what the requests change between them. -/
theorem takeRequest_frame (s : State) {m : Nat} (hm : isSupervisor m = true) (code : Byte)
    (payload : List Byte) : sameOutside (touchedBy .frameTaken) s (s.takeRequest m code payload) := by
  rcases request_or_malformed s m code payload with ⟨i, hi⟩ | hbad
  · refine sameOutside.mono (exec_frame_of_ne_frameTaken ?_ (exec_eq_takeRequest s hm hi))
      (touchedBy_request hi)
    rintro rfl
    contradiction
  · rw [hbad]
    exact (takeMalformed_frame s m code payload).mono (by simp [touchedBy])

theorem takeFrame_frame (s : State) (frame : List Byte) (misframed : Bool) :
    sameOutside (touchedBy .frameTaken) s (s.takeFrame frame misframed) := by
  unfold State.takeFrame
  split
  · next h =>
    simp only [addressChecks, Bool.and_eq_true] at h
    exact takeRequest_frame _ h.2.1.2 _ _
  · exact .refl _ _

theorem execFrameTaken_frame (h : execFrameTaken s = .next t) :
    sameOutside (touchedBy .frameTaken) s t := by
  unfold execFrameTaken at h
  split at h <;> cases h
  · exact ((setLink_frame _ _).mono (by simp [touchedBy])).trans (takeFrame_frame _ _ _)
  · exact .refl _ _

end Sys2Proof.Machine

/-! ### The statements of the step settled -/

namespace Sys2Proof.Proofs

open Sys2Proof.Machine

/-- Settles O3, by the command: each meaning is a chain of shared operations, and its frame the chain
of theirs. -/
theorem commandsTouchOnlyTheirBlocks : Obligations.CommandsTouchOnlyTheirBlocks := by
  intro c s t h
  by_cases hc : c = .frameTaken
  · subst hc
    exact execFrameTaken_frame h
  · exact exec_frame_of_ne_frameTaken hc h

/-- Settles O1: the step is a match on the queue, and each of its arms is one of the statement's. -/
theorem stepRunsFrontCommand : Obligations.StepRunsFrontCommand := by
  refine ⟨fun c rest s => rfl, fun s h => ?_⟩
  unfold step
  rw [h]

end Sys2Proof.Proofs
end

section
/-! PROOFS. The demand table (02, 03): what a handle, a slot and a rank list read after each operation on
the table, and that every operation keeps the listed handles living (R26, R40, R50, R53). -/
namespace Sys2Proof.Machine

/-! ### Items of numbered tables and of lists with their places -/

theorem nth_map {α β : Type} (f : α → β) (l : List α) (n : Nat) : nth (l.map f) n = (nth l n).map f := by
  cases n <;> simp [nth]

theorem nth_mem {α : Type} {l : List α} {n : Nat} {a : α} (h : nth l n = some a) : a ∈ l := by
  cases n with
  | zero => cases h
  | succ k => exact List.mem_of_getElem? h

theorem nth_of_mem {α : Type} {l : List α} {a : α} (h : a ∈ l) : ∃ n, nth l n = some a := by
  obtain ⟨k, hk⟩ := List.mem_iff_getElem?.mp h
  exact ⟨k + 1, hk⟩

/-- Item `m` after item `n` was replaced: an item that is not there stays away. -/
theorem nth_setNth {α : Type} (l : List α) (n m : Nat) (a : α) :
    nth (setNth l n a) m = if m = n then (nth l m).map fun _ => a else nth l m := by
  split
  · next h =>
    subst h
    cases hb : nth l m with
    | some b => exact nth_setNth_self l m a b hb
    | none =>
      cases m with
      | zero => rfl
      | succ k =>
        simp only [nth, setNth] at hb ⊢
        simpa using hb
  · next h => exact nth_setNth_ne l n m a h

/-- Several items replaced, each by a value of its own number. -/
theorem nth_foldl_setNth {α : Type} (f : Nat → α) (ns : List Nat) (l : List α) (m : Nat) :
    nth (ns.foldl (fun ls n => setNth ls n (f n)) l) m =
      if m ∈ ns then (nth l m).map fun _ => f m else nth l m := by
  induction ns generalizing l with
  | nil => simp
  | cons n ns ih =>
    rw [List.foldl_cons, ih, nth_setNth]
    by_cases hn : m = n
    · subst hn; cases nth l m <;> simp
    · simp [hn]

theorem mapSlots_getElem? (f : Nat → Slot → Slot) (l : List Slot) (k i : Nat) :
    (mapSlots f k l)[i]? = l[i]?.map (f (k + i)) := by
  induction l generalizing k i with
  | nil => rfl
  | cons a l ih =>
    cases i with
    | zero => rfl
    | succ i =>
      simp only [mapSlots, List.getElem?_cons_succ, ih]
      rw [Nat.add_right_comm, Nat.add_assoc]

theorem mapSlots_length (f : Nat → Slot → Slot) (l : List Slot) (k : Nat) :
    (mapSlots f k l).length = l.length := by
  induction l generalizing k with
  | nil => rfl
  | cons a l ih => simp [mapSlots, ih]

/-! ### Handles, slots and lists -/

theorem isOpening_iff (n : Nat) : isOpening n = true ↔ 1 ≤ n ∧ n ≤ 48 := by
  simp only [isOpening, Config.openingCount, Bool.and_eq_true, decide_eq_true_eq]
  exact and_congr_right fun _ => decide_eq_true_iff

theorem mem_openingNumbers (n : Nat) : n ∈ openingNumbers ↔ 1 ≤ n ∧ n ≤ 48 := by
  simp [openingNumbers, numbers, List.mem_range'_1, Config.openingCount]
  omega

theorem Handle.eq_of_fields {a b : Handle} (hs : a.slot = b.slot) (hg : a.gen = b.gen) : a = b := by
  cases a; cases b; simp_all

namespace DemandTable

variable (t : DemandTable)

theorem find_eq_some_iff {h : Handle} {r : DemandRecord} :
    t.find h = some r ↔
      ∃ sl, t.slots[h.slot]? = some sl ∧ sl.gen = h.gen ∧ sl.record = some r := by
  unfold find
  split
  · next sl hsl => split <;> simp_all
  · next hsl => simp [hsl]

theorem inSlot_eq_some_iff {k : Nat} {r : DemandRecord} :
    t.inSlot k = some r ↔ ∃ sl, t.slots[k]? = some sl ∧ sl.record = some r := by
  unfold inSlot
  split <;> simp_all

@[simp] theorem handleOf_slot (k : Nat) : (t.handleOf k).slot = k := by
  unfold handleOf
  split <;> rfl

/-- The handle of a slot at its present generation reads what the slot holds. -/
@[simp] theorem find_handleOf (k : Nat) : t.find (t.handleOf k) = t.inSlot k := by
  unfold find inSlot handleOf
  cases h : t.slots[k]? <;> simp [h]

/-- A handle that names a living record is its slot's present handle (R26). -/
theorem handleOf_of_find {h : Handle} (hf : t.find h ≠ none) : t.handleOf h.slot = h := by
  obtain ⟨r, hr⟩ := Option.ne_none_iff_exists'.mp hf
  obtain ⟨sl, hsl, hgen, -⟩ := t.find_eq_some_iff.mp hr
  simp [handleOf, hsl, hgen]

theorem inSlot_of_find {h : Handle} {r : DemandRecord} (hf : t.find h = some r) :
    t.inSlot h.slot = some r := by
  rw [← t.find_handleOf, t.handleOf_of_find (by simp [hf]), hf]

theorem find_of_inSlot_eq_none {h : Handle} (hk : t.inSlot h.slot = none) : t.find h = none := by
  by_contra hf
  rw [← t.handleOf_of_find hf, find_handleOf] at hf
  exact hf hk

theorem lt_of_inSlot {k : Nat} {r : DemandRecord} (h : t.inSlot k = some r) :
    k < t.slots.length := by
  obtain ⟨sl, hsl, -⟩ := t.inSlot_eq_some_iff.mp h
  exact (List.getElem?_eq_some_iff.mp hsl).1

theorem mem_usedSlots {k : Nat} : k ∈ t.usedSlots ↔ t.inSlot k ≠ none := by
  simp only [usedSlots, List.mem_filter, List.mem_range, ← Option.isSome_iff_ne_none,
    and_iff_right_iff_imp]
  intro h
  obtain ⟨r, hr⟩ := Option.isSome_iff_exists.mp h
  exact t.lt_of_inSlot hr

theorem list_eq (n : Nat) : t.list n = (nth t.lists n).getD [] := by
  unfold list
  split <;> simp [*]

/-- The law of the listed handles, read by opening number. -/
theorem handlesLive_iff :
    handlesLive t ↔ (∀ h ∈ t.ages, t.find h ≠ none) ∧ ∀ n, ∀ h ∈ t.list n, t.find h ≠ none := by
  refine and_congr_right fun _ => ⟨fun hl n h hh => ?_, fun hl l hmem h hh => ?_⟩
  · rw [list_eq] at hh
    cases hn : nth t.lists n with
    | none => simp [hn] at hh
    | some l => exact hl l (nth_mem hn) h (by simpa [hn] using hh)
  · obtain ⟨n, hn⟩ := nth_of_mem hmem
    exact hl n h (by simpa [list_eq, hn] using hh)

/-! ### A slot freed (R40) -/

@[simp] theorem free_slots_length (k : Nat) : (t.free k).slots.length = t.slots.length := by
  simp [free]

theorem free_inSlot (k j : Nat) : (t.free k).inSlot j = if j = k then none else t.inSlot j := by
  by_cases hj : j = k
  · subst hj
    simp only [inSlot, free, List.getElem?_set_self', if_true]
    cases t.slots[j]? <;> rfl
  · simp [inSlot, free, hj, List.getElem?_set_ne (Ne.symm hj)]

theorem free_find (k : Nat) (h : Handle) :
    (t.free k).find h = if h.slot = k then none else t.find h := by
  by_cases hj : h.slot = k
  · rw [if_pos hj]
    exact find_of_inSlot_eq_none _ (by rw [free_inSlot, if_pos hj])
  · simp [find, free, hj, List.getElem?_set_ne (Ne.symm hj)]

theorem free_handleOf_ne {k j : Nat} (hj : j ≠ k) : (t.free k).handleOf j = t.handleOf j := by
  simp [handleOf, free, List.getElem?_set_ne (Ne.symm hj)]

theorem free_handleOf_self {k : Nat} (hk : k < t.slots.length) :
    (t.free k).handleOf k = { slot := k, gen := (t.handleOf k).gen + 1 } := by
  simp [handleOf, free, hk]

theorem free_list (k n : Nat) :
    (t.free k).list n = (t.list n).filter fun x => x != t.handleOf k := by
  simp only [list_eq, free, nth_map]
  cases nth t.lists n <;> rfl

@[simp] theorem free_ages (k : Nat) :
    (t.free k).ages = t.ages.filter fun x => x != t.handleOf k := rfl

@[simp] theorem free_lists_length (k : Nat) : (t.free k).lists.length = t.lists.length := by
  simp [free]

end DemandTable

/-! ### Records retired one after another (R40) -/

/-- The records of several slots retired, each for a reason of its own, in the order given. -/
def DemandRun.retireEach (run : DemandRun) (xs : List (Nat × RetireReason)) : DemandRun :=
  xs.foldl (fun y x => y.retire x.1 x.2) run

theorem DemandRun.retireAll_eq (run : DemandRun) (ks : List Nat) (reason : RetireReason) :
    run.retireAll ks reason = run.retireEach (ks.map fun k => (k, reason)) := by
  simp [DemandRun.retireAll, DemandRun.retireEach, List.foldl_map]

theorem DemandRun.retireEach_append (run : DemandRun) (xs ys : List (Nat × RetireReason)) :
    run.retireEach (xs ++ ys) = (run.retireEach xs).retireEach ys := List.foldl_append

namespace DemandRun

variable (run : DemandRun) (k : Nat) (reason : RetireReason)

theorem retire_of_some {r : DemandRecord} (h : run.table.inSlot k = some r) :
    run.retire k reason =
      { table := run.table.free k, retired := run.retired ++ [(r, reason)] } := by
  unfold retire
  rw [h]

theorem retire_of_none (h : run.table.inSlot k = none) : run.retire k reason = run := by
  unfold retire
  rw [h]

theorem retire_inSlot (j : Nat) :
    (run.retire k reason).table.inSlot j = if j = k then none else run.table.inSlot j := by
  cases h : run.table.inSlot k with
  | some r => rw [retire_of_some _ _ _ h, DemandTable.free_inSlot]
  | none =>
    rw [retire_of_none _ _ _ h]
    split
    · next hj => rw [hj, h]
    · rfl

theorem retire_find (x : Handle) :
    (run.retire k reason).table.find x = if x.slot = k then none else run.table.find x := by
  cases h : run.table.inSlot k with
  | some r => rw [retire_of_some _ _ _ h, DemandTable.free_find]
  | none =>
    rw [retire_of_none _ _ _ h]
    split
    · next hj => exact DemandTable.find_of_inSlot_eq_none _ (hj ▸ h)
    · rfl

theorem retire_handleOf_ne {j : Nat} (hj : j ≠ k) :
    (run.retire k reason).table.handleOf j = run.table.handleOf j := by
  cases h : run.table.inSlot k with
  | some r => rw [retire_of_some _ _ _ h, DemandTable.free_handleOf_ne _ hj]
  | none => rw [retire_of_none _ _ _ h]

/-- What a retirement takes out of a list of handles: the handle of the record, where one lives. -/
theorem filter_retired (x : Handle) {r : DemandRecord} (h : run.table.inSlot k = some r) :
    (x != run.table.handleOf k) = !((run.table.find x).isSome && decide (x.slot = k)) := by
  by_cases hx : x = run.table.handleOf k
  · subst hx; simp [h]
  · by_cases hs : x.slot = k
    · have : run.table.find x = none := by
        by_contra hf
        exact hx (hs ▸ (run.table.handleOf_of_find hf).symm)
      simp [hx, this]
    · simp [hx, hs]

theorem filter_of_inSlot_eq_none (l : List Handle) (h : run.table.inSlot k = none) :
    (l.filter fun x => !((run.table.find x).isSome && decide (x.slot = k))) = l := by
  refine List.filter_eq_self.mpr fun x _ => ?_
  by_cases hs : x.slot = k
  · simp [DemandTable.find_of_inSlot_eq_none run.table (h := x) (hs ▸ h)]
  · simp [hs]

theorem retire_list (n : Nat) :
    (run.retire k reason).table.list n =
      (run.table.list n).filter fun x =>
        !((run.table.find x).isSome && decide (x.slot = k)) := by
  cases h : run.table.inSlot k with
  | some r =>
    rw [retire_of_some _ _ _ h, DemandTable.free_list]
    exact List.filter_congr fun x _ => filter_retired run k x h
  | none => rw [retire_of_none _ _ _ h, filter_of_inSlot_eq_none _ _ _ h]

theorem retire_ages :
    (run.retire k reason).table.ages =
      run.table.ages.filter fun x => !((run.table.find x).isSome && decide (x.slot = k)) := by
  cases h : run.table.inSlot k with
  | some r =>
    rw [retire_of_some _ _ _ h, DemandTable.free_ages]
    exact List.filter_congr fun x _ => filter_retired run k x h
  | none => rw [retire_of_none _ _ _ h, filter_of_inSlot_eq_none _ _ _ h]

@[simp] theorem retire_slots_length :
    (run.retire k reason).table.slots.length = run.table.slots.length := by
  cases h : run.table.inSlot k with
  | some r => rw [retire_of_some _ _ _ h, DemandTable.free_slots_length]
  | none => rw [retire_of_none _ _ _ h]

@[simp] theorem retire_lists_length :
    (run.retire k reason).table.lists.length = run.table.lists.length := by
  cases h : run.table.inSlot k with
  | some r => rw [retire_of_some _ _ _ h, DemandTable.free_lists_length]
  | none => rw [retire_of_none _ _ _ h]

variable (xs : List (Nat × RetireReason))

theorem retireEach_inSlot (j : Nat) :
    (run.retireEach xs).table.inSlot j =
      if j ∈ xs.map Prod.fst then none else run.table.inSlot j := by
  induction xs generalizing run with
  | nil => simp [retireEach]
  | cons x xs ih =>
    rw [retireEach, List.foldl_cons, ← retireEach, ih, retire_inSlot]
    by_cases h : j = x.1
    · simp [h]
    · simp only [List.map_cons, List.mem_cons, h, false_or, if_false]

theorem retireEach_find (h : Handle) :
    (run.retireEach xs).table.find h =
      if h.slot ∈ xs.map Prod.fst then none else run.table.find h := by
  induction xs generalizing run with
  | nil => simp [retireEach]
  | cons x xs ih =>
    rw [retireEach, List.foldl_cons, ← retireEach, ih, retire_find]
    by_cases hs : h.slot = x.1
    · simp [hs]
    · simp only [List.map_cons, List.mem_cons, hs, false_or, if_false]

theorem retireEach_handleOf {j : Nat} (hj : j ∉ xs.map Prod.fst) :
    (run.retireEach xs).table.handleOf j = run.table.handleOf j := by
  induction xs generalizing run with
  | nil => rfl
  | cons x xs ih =>
    simp only [List.map_cons, List.mem_cons, not_or] at hj
    rw [retireEach, List.foldl_cons, ← retireEach, ih _ hj.2, retire_handleOf_ne _ _ _ hj.1]

/-- Of a list of handles, those that name no record retired. -/
theorem filter_retireEach (x : Nat × RetireReason) (h : Handle) :
    ((!(((run.retire x.1 x.2).table.find h).isSome && decide (h.slot ∈ xs.map Prod.fst))) &&
        !((run.table.find h).isSome && decide (h.slot = x.1))) =
      !((run.table.find h).isSome && decide (h.slot ∈ (x :: xs).map Prod.fst)) := by
  rw [retire_find]
  by_cases hs : h.slot = x.1
  · simp [hs]
  · cases hf : run.table.find h <;> simp [hs]

theorem retireEach_list (n : Nat) :
    (run.retireEach xs).table.list n =
      (run.table.list n).filter fun h =>
        !((run.table.find h).isSome && decide (h.slot ∈ xs.map Prod.fst)) := by
  induction xs generalizing run with
  | nil => simp [retireEach]
  | cons x xs ih =>
    rw [retireEach, List.foldl_cons, ← retireEach, ih, retire_list, List.filter_filter]
    exact List.filter_congr fun h _ => filter_retireEach run xs x h

theorem retireEach_ages :
    (run.retireEach xs).table.ages =
      run.table.ages.filter fun h =>
        !((run.table.find h).isSome && decide (h.slot ∈ xs.map Prod.fst)) := by
  induction xs generalizing run with
  | nil => simp [retireEach]
  | cons x xs ih =>
    rw [retireEach, List.foldl_cons, ← retireEach, ih, retire_ages, List.filter_filter]
    exact List.filter_congr fun h _ => filter_retireEach run xs x h

@[simp] theorem retireEach_slots_length :
    (run.retireEach xs).table.slots.length = run.table.slots.length := by
  induction xs generalizing run with
  | nil => rfl
  | cons x xs ih => rw [retireEach, List.foldl_cons, ← retireEach, ih, retire_slots_length]

@[simp] theorem retireEach_lists_length :
    (run.retireEach xs).table.lists.length = run.table.lists.length := by
  induction xs generalizing run with
  | nil => rfl
  | cons x xs ih => rw [retireEach, List.foldl_cons, ← retireEach, ih, retire_lists_length]

/-- What a retirement has retired stays in the account of the operation. -/
theorem retire_retired_mono {y : DemandRecord × RetireReason} (hy : y ∈ run.retired) :
    y ∈ (run.retire k reason).retired := by
  cases h : run.table.inSlot k with
  | some r => rw [retire_of_some _ _ _ h]; exact List.mem_append_left _ hy
  | none => rwa [retire_of_none _ _ _ h]

theorem retireEach_retired_mono {y : DemandRecord × RetireReason} (hy : y ∈ run.retired) :
    y ∈ (run.retireEach xs).retired := by
  induction xs generalizing run with
  | nil => exact hy
  | cons x xs ih => exact ih _ (retire_retired_mono run _ _ hy)

/-- A living record of a slot named is retired for the first reason given for the slot. -/
theorem mem_retireEach_retired {x : Nat × RetireReason} {r : DemandRecord} (hx : x ∈ xs)
    (hr : run.table.inSlot x.1 = some r) :
    ∃ reason, (x.1, reason) ∈ xs ∧ (r, reason) ∈ (run.retireEach xs).retired := by
  induction xs generalizing run with
  | nil => simp at hx
  | cons y ys ih =>
    by_cases hy : x.1 = y.1
    · refine ⟨y.2, by simp [hy], retireEach_retired_mono _ ys ?_⟩
      change (r, y.2) ∈ (run.retire y.1 y.2).retired
      rw [retire_of_some _ _ _ (hy ▸ hr)]
      simp
    · have hmem : x ∈ ys := (List.mem_cons.mp hx).resolve_left fun h => hy (h ▸ rfl)
      obtain ⟨reason, hin, hret⟩ := ih (run.retire y.1 y.2) hmem
        (by rw [retire_inSlot, if_neg hy, hr])
      exact ⟨reason, List.mem_cons_of_mem _ hin, hret⟩

/-- Retirements keep the listed handles living: they take a record out of every list they free. -/
theorem retireEach_handlesLive (h : handlesLive run.table) :
    handlesLive (run.retireEach xs).table := by
  rw [DemandTable.handlesLive_iff] at h ⊢
  obtain ⟨hages, hlists⟩ := h
  have kept : ∀ l : List Handle, (∀ x ∈ l, run.table.find x ≠ none) →
      ∀ x ∈ l.filter (fun x => !((run.table.find x).isSome && decide (x.slot ∈ xs.map Prod.fst))),
        (run.retireEach xs).table.find x ≠ none := by
    intro l hl x hx
    obtain ⟨hmem, hout⟩ := List.mem_filter.mp hx
    have hfind := hl x hmem
    simp only [Option.isSome_iff_ne_none.mpr hfind, Bool.true_and, Bool.not_eq_true',
      decide_eq_false_iff_not] at hout
    rwa [retireEach_find, if_neg hout]
  refine ⟨?_, fun n => ?_⟩
  · rw [retireEach_ages]; exact kept _ hages
  · rw [retireEach_list]; exact kept _ (hlists n)

theorem retire_eq_retireEach : run.retire k reason = run.retireEach [(k, reason)] := rfl

theorem retire_handlesLive (h : handlesLive run.table) :
    handlesLive (run.retire k reason).table := retireEach_handlesLive run [(k, reason)] h

end DemandRun

/-! ### A record installed, rewritten, or its wait restored -/

namespace DemandTable

variable (t : DemandTable)

theorem mem_insertIn {c : DemandClass} {h x : Handle} {l : List Handle} :
    x ∈ t.insertIn c h l ↔ x = h ∨ x ∈ l := by
  conv_rhs => rw [← List.takeWhile_append_dropWhile
    (p := fun x => aheadOfNew c (t.rankAt x)) (l := l)]
  simp only [insertIn, List.mem_append, List.mem_cons]
  tauto

/-- A free slot takes a record: its handle names it, and every other handle what it named. -/
theorem install_find {k : Nat} (hk : k < t.slots.length) (hfree : t.inSlot k = none)
    (r : DemandRecord) (ns : List Nat) (x : Handle) :
    (t.install k r ns).find x = if x = t.handleOf k then some r else t.find x := by
  by_cases hs : x.slot = k
  · have hnone : t.find x = none := t.find_of_inSlot_eq_none (hs ▸ hfree)
    subst hs
    by_cases hx : x = t.handleOf x.slot
    · rw [if_pos hx, find_eq_some_iff]
      exact ⟨_, by simp [install, hk]; rfl, congrArg Handle.gen hx.symm, rfl⟩
    · rw [if_neg hx, hnone]
      have hgen : (t.handleOf x.slot).gen ≠ x.gen := fun hgen =>
        hx (Handle.eq_of_fields (by simp) hgen.symm)
      simp [find, install, hk, hgen]
  · have hx : x ≠ t.handleOf k := fun h => hs (by simp [h])
    simp [find, install, hx, List.getElem?_set_ne (Ne.symm hs)]

theorem install_inSlot {k : Nat} (hk : k < t.slots.length) (r : DemandRecord) (ns : List Nat)
    (j : Nat) : (t.install k r ns).inSlot j = if j = k then some r else t.inSlot j := by
  by_cases hj : j = k
  · subst hj; simp [inSlot, install, hk]
  · simp [inSlot, install, hj, List.getElem?_set_ne (Ne.symm hj)]

@[simp] theorem install_handleOf (k : Nat) (r : DemandRecord) (ns : List Nat) (j : Nat) :
    (t.install k r ns).handleOf j = t.handleOf j := by
  by_cases hj : j = k
  · subst hj
    simp only [handleOf, install, List.getElem?_set_self']
    cases h : t.slots[j]? <;> rfl
  · simp [handleOf, install, List.getElem?_set_ne (Ne.symm hj)]

theorem install_list (k : Nat) (r : DemandRecord) (ns : List Nat) (n : Nat) :
    (t.install k r ns).list n =
      if n ∈ ns ∧ (nth t.lists n).isSome then t.insertIn r.cls (t.handleOf k) (t.list n)
      else t.list n := by
  rw [list_eq]
  simp only [install, nth_foldl_setNth]
  cases hn : nth t.lists n with
  | none => simp [list_eq, hn]
  | some l => by_cases hm : n ∈ ns <;> simp [hm, list_eq, hn]

@[simp] theorem install_ages (k : Nat) (r : DemandRecord) (ns : List Nat) :
    (t.install k r ns).ages = t.ages ++ [t.handleOf k] := rfl

@[simp] theorem install_slots_length (k : Nat) (r : DemandRecord) (ns : List Nat) :
    (t.install k r ns).slots.length = t.slots.length := by simp [install]

theorem install_handlesLive {k : Nat} (hk : k < t.slots.length) (hfree : t.inSlot k = none)
    (r : DemandRecord) (ns : List Nat) (h : handlesLive t) : handlesLive (t.install k r ns) := by
  rw [handlesLive_iff] at h ⊢
  obtain ⟨hages, hlists⟩ := h
  have kept : ∀ x, x = t.handleOf k ∨ t.find x ≠ none → (t.install k r ns).find x ≠ none := by
    intro x hx
    rw [install_find t hk hfree]
    split
    · simp
    · next hne => exact hx.resolve_left hne
  refine ⟨fun x hx => kept x ?_, fun n x hx => kept x ?_⟩
  · rw [install_ages, List.mem_append, List.mem_singleton] at hx
    exact hx.symm.imp_right (hages x)
  · rw [install_list] at hx
    split at hx
    · exact (t.mem_insertIn.mp hx).imp_right (hlists n x)
    · exact .inr (hlists n x hx)

theorem rewrite_inSlot {k : Nat} (hk : k < t.slots.length) (r : DemandRecord) (j : Nat) :
    (t.rewrite k r).inSlot j = if j = k then some r else t.inSlot j := by
  by_cases hj : j = k
  · subst hj; simp [inSlot, rewrite, hk]
  · simp [inSlot, rewrite, hj, List.getElem?_set_ne (Ne.symm hj)]

@[simp] theorem rewrite_handleOf (k : Nat) (r : DemandRecord) (j : Nat) :
    (t.rewrite k r).handleOf j = t.handleOf j := by
  by_cases hj : j = k
  · subst hj
    simp only [handleOf, rewrite, List.getElem?_set_self']
    cases h : t.slots[j]? <;> rfl
  · simp [handleOf, rewrite, List.getElem?_set_ne (Ne.symm hj)]

@[simp] theorem rewrite_ages (k : Nat) (r : DemandRecord) : (t.rewrite k r).ages = t.ages := rfl
@[simp] theorem rewrite_lists (k : Nat) (r : DemandRecord) : (t.rewrite k r).lists = t.lists := rfl

/-- A rewritten record keeps its handle living, and no other handle changes what it names. -/
theorem rewrite_find_ne_none {k : Nat} (r : DemandRecord) {x : Handle} (hx : t.find x ≠ none) :
    (t.rewrite k r).find x ≠ none := by
  have hslot : (t.rewrite k r).handleOf x.slot = x := by
    rw [rewrite_handleOf, t.handleOf_of_find hx]
  obtain ⟨y, hy⟩ := Option.ne_none_iff_exists'.mp hx
  have hin := t.inSlot_of_find hy
  rw [← hslot, find_handleOf]
  by_cases hk : x.slot = k
  · rw [rewrite_inSlot t (hk ▸ t.lt_of_inSlot hin), if_pos hk]; simp
  · simp [inSlot, rewrite, List.getElem?_set_ne (Ne.symm hk)] at hin ⊢
    rw [hin]; simp

theorem rewrite_handlesLive (k : Nat) (r : DemandRecord) (h : handlesLive t) :
    handlesLive (t.rewrite k r) :=
  ⟨fun x hx => t.rewrite_find_ne_none r (h.1 x hx),
    fun l hl x hx => t.rewrite_find_ne_none r (h.2 l hl x hx)⟩

/-- The record that heads a list keeps its full wait (R45). -/
def waitKept (h : Handle) (r : DemandRecord) : DemandRecord :=
  if t.heads.contains h then { r with waitRemaining := r.waitLimit } else r

/-- The record of handle `h` one second on (R46). -/
def secondOn (h : Handle) (r : DemandRecord) : DemandRecord :=
  { r with
    lifetime := r.lifetime.map fun l => l - 1
    waitRemaining :=
      if t.heads.contains h then r.waitRemaining else r.waitRemaining.map fun w => w - 1 }

/-- A change of the records in their slots, each by its handle. -/
theorem mapRecords_reads (g : Handle → DemandRecord → DemandRecord) {u : DemandTable}
    (hu : u.slots = mapSlots (fun k sl =>
      match sl.record with
      | some r => { sl with record := some (g { slot := k, gen := sl.gen } r) }
      | none => sl) 0 t.slots) (k : Nat) :
    u.handleOf k = t.handleOf k ∧ u.inSlot k = (t.inSlot k).map (g (t.handleOf k)) := by
  simp only [handleOf, inSlot, hu, mapSlots_getElem?, Nat.zero_add]
  cases t.slots[k]? with
  | none => simp
  | some sl => obtain ⟨gen, _ | r⟩ := sl <;> simp

theorem find_of_reads {u : DemandTable} {g : Handle → DemandRecord → DemandRecord}
    (h : ∀ k, u.handleOf k = t.handleOf k ∧ u.inSlot k = (t.inSlot k).map (g (t.handleOf k)))
    (x : Handle) : u.find x = (t.find x).map (g x) := by
  by_cases hx : t.handleOf x.slot = x
  · rw [← hx, find_handleOf, ← (h x.slot).1, find_handleOf, (h x.slot).1, (h x.slot).2]
  · have ht : t.find x = none := by
      by_contra hf
      exact hx (t.handleOf_of_find hf)
    have hu : u.find x = none := by
      by_contra hf
      exact hx ((h x.slot).1 ▸ u.handleOf_of_find hf)
    simp [ht, hu]

theorem restoreWaits_reads (k : Nat) :
    t.restoreWaits.handleOf k = t.handleOf k ∧
      t.restoreWaits.inSlot k = (t.inSlot k).map (t.waitKept (t.handleOf k)) := by
  refine t.mapRecords_reads t.waitKept ?_ k
  simp only [restoreWaits, waitKept]
  congr
  funext k sl
  obtain ⟨gen, _ | r⟩ := sl
  · rfl
  · dsimp only; split <;> rfl

@[simp] theorem restoreWaits_handleOf (k : Nat) : t.restoreWaits.handleOf k = t.handleOf k :=
  (t.restoreWaits_reads k).1

@[simp] theorem restoreWaits_inSlot (k : Nat) :
    t.restoreWaits.inSlot k = (t.inSlot k).map (t.waitKept (t.handleOf k)) :=
  (t.restoreWaits_reads k).2

@[simp] theorem restoreWaits_find (x : Handle) :
    t.restoreWaits.find x = (t.find x).map (t.waitKept x) :=
  t.find_of_reads t.restoreWaits_reads x

@[simp] theorem restoreWaits_ages : t.restoreWaits.ages = t.ages := rfl
@[simp] theorem restoreWaits_lists : t.restoreWaits.lists = t.lists := rfl
@[simp] theorem restoreWaits_list (n : Nat) : t.restoreWaits.list n = t.list n := rfl
@[simp] theorem restoreWaits_slots_length : t.restoreWaits.slots.length = t.slots.length :=
  mapSlots_length _ _ _

theorem countDown_reads (k : Nat) :
    t.countDown.handleOf k = t.handleOf k ∧
      t.countDown.inSlot k = (t.inSlot k).map (t.secondOn (t.handleOf k)) := by
  exact t.mapRecords_reads t.secondOn (congrArg (mapSlots · 0 t.slots)
    (funext fun _ => funext fun | ⟨_, none⟩ => rfl | ⟨_, some _⟩ => rfl)) k

@[simp] theorem countDown_handleOf (k : Nat) : t.countDown.handleOf k = t.handleOf k :=
  (t.countDown_reads k).1

@[simp] theorem countDown_inSlot (k : Nat) :
    t.countDown.inSlot k = (t.inSlot k).map (t.secondOn (t.handleOf k)) :=
  (t.countDown_reads k).2

@[simp] theorem countDown_find (x : Handle) :
    t.countDown.find x = (t.find x).map (t.secondOn x) :=
  t.find_of_reads t.countDown_reads x

@[simp] theorem countDown_ages : t.countDown.ages = t.ages := rfl
@[simp] theorem countDown_lists : t.countDown.lists = t.lists := rfl
@[simp] theorem countDown_list (n : Nat) : t.countDown.list n = t.list n := rfl

/-- Tables with the same lists and ages, of which one names a record wherever the other does. -/
theorem handlesLive_of_find {t u : DemandTable} (hages : u.ages = t.ages) (hlists : u.lists = t.lists)
    (hfind : ∀ x, t.find x ≠ none → u.find x ≠ none) (h : handlesLive t) : handlesLive u :=
  ⟨fun x hx => hfind x (h.1 x (hages ▸ hx)), fun l hl x hx => hfind x (h.2 l (hlists ▸ hl) x hx)⟩

theorem restoreWaits_handlesLive (h : handlesLive t) : handlesLive t.restoreWaits :=
  handlesLive_of_find (t := t) rfl rfl (fun x hx => by simpa using hx) h

theorem countDown_handlesLive (h : handlesLive t) : handlesLive t.countDown :=
  handlesLive_of_find (t := t) rfl rfl (fun x hx => by simpa using hx) h

/-! ### A placement (R31, R32) -/

theorem matching_eq_some {r : DemandRecord} {k : Nat} (h : t.matching r = some k) :
    ∃ x, t.inSlot k = some x ∧ x.source = r.source ∧ x.cls = r.cls ∧ x.target = r.target := by
  have hp := List.find?_some h
  split at hp
  · next x hx => exact ⟨x, hx, by simpa [and_assoc] using hp⟩
  · cases hp

theorem matching_eq_none {r : DemandRecord} (h : t.matching r = none) {k : Nat} {x : DemandRecord}
    (hx : t.inSlot k = some x) : ¬(x.source = r.source ∧ x.cls = r.cls ∧ x.target = r.target) := by
  have := List.find?_eq_none.mp h k (t.mem_usedSlots.mpr (by simp [hx]))
  simpa [hx, and_assoc] using this

theorem freeSlot_eq_some {k : Nat} (h : t.freeSlot = some k) :
    k < t.slots.length ∧ t.inSlot k = none :=
  ⟨List.mem_range.mp (List.mem_of_find?_eq_some h), by simpa using List.find?_some h⟩

theorem freeSlot_ne_none {k : Nat} (hk : k < t.slots.length) (h : t.inSlot k = none) :
    t.freeSlot ≠ none := fun hn => by
  simpa [h] using List.find?_eq_none.mp hn k (List.mem_range.mpr hk)

end DemandTable

/-- The room made for a placement is a chain of retirements (R32, steps 1 to 3), the replaced record
the first of them. -/
theorem DemandRun.makeRoom_eq (run : DemandRun) (r : DemandRecord) (ns : List Nat) :
    ∃ xs, run.makeRoom r ns = run.retireEach xs ∧
      ∀ k, run.table.matching r = some k → k ∈ xs.map Prod.fst := by
  have evict : ∀ y : DemandRun, ∃ xs, y.evictFromTable = y.retireEach xs := by
    intro y
    unfold DemandRun.evictFromTable
    split
    · exact ⟨[(_, .evicted)], rfl⟩
    · exact ⟨[], rfl⟩
  have relieve : ∀ (ns : List Nat) (y : DemandRun),
      ∃ xs, ns.foldl DemandRun.relieve y = y.retireEach xs := by
    intro ns
    induction ns with
    | nil => exact fun y => ⟨[], rfl⟩
    | cons n ns ih =>
      intro y
      obtain ⟨xs, hxs⟩ : ∃ xs, y.relieve n = y.retireEach xs := by
        unfold DemandRun.relieve
        split
        · split
          · exact ⟨[(_, .evicted)], rfl⟩
          · exact ⟨[], rfl⟩
        · exact ⟨[], rfl⟩
      obtain ⟨ys, hys⟩ := ih (y.relieve n)
      exact ⟨xs ++ ys, by rw [List.foldl_cons, hys, hxs, DemandRun.retireEach_append]⟩
  have room : ∀ y zs, y = run.retireEach zs →
      (∀ k, run.table.matching r = some k → k ∈ zs.map Prod.fst) →
      ∃ xs, (if r.source.evicts then ns.foldl DemandRun.relieve y else y) = run.retireEach xs ∧
        ∀ k, run.table.matching r = some k → k ∈ xs.map Prod.fst := by
    intro y zs hy hk
    split
    · obtain ⟨xs, hxs⟩ := relieve ns y
      exact ⟨zs ++ xs, by rw [hxs, hy, DemandRun.retireEach_append], fun k h => by
        rw [List.map_append, List.mem_append]; exact .inl (hk k h)⟩
    · exact ⟨zs, hy, hk⟩
  unfold DemandRun.makeRoom
  dsimp only
  cases hm : run.table.matching r with
  | some k =>
    rw [hm] at room
    exact room _ [(k, .replaced)] rfl fun j hj => by cases hj; simp
  | none =>
    rw [hm] at room
    obtain ⟨zs, hzs⟩ : ∃ zs, (if r.source.evicts && run.table.freeSlot.isNone then
        run.evictFromTable else run) = run.retireEach zs := by
      split
      · exact evict run
      · exact ⟨[], rfl⟩
    exact room _ zs hzs (by simp)

namespace DemandTable

variable (t : DemandTable)

/-- The slot a placement takes: that of the record it replaces, or the lowest that is free once room is
made. -/
def placeSlot (r : DemandRecord) (ns : List Nat) : Option Nat :=
  match t.matching r with
  | some k => some k
  | none => (t.run.makeRoom r ns).table.freeSlot

/-- The table of a placement with its room made, before anything yields. -/
def placedIn (r : DemandRecord) (ns : List Nat) (k : Nat) : DemandTable :=
  (t.run.makeRoom r ns).table.install k r ns

theorem place_of_slot {r : DemandRecord} {ns : List Nat} {k : Nat} (hk : t.placeSlot r ns = some k) :
    t.place r ns =
      ({ t.run.makeRoom r ns with table := t.placedIn r ns k }.retireEach
        (((t.placedIn r ns k).yielding r.cls.rank ns).map fun j => (j, .yielded)),
        some ((t.run.makeRoom r ns).table.handleOf k)) := by
  rw [← DemandRun.retireAll_eq]
  unfold place
  unfold placeSlot at hk
  dsimp only
  split
  · next j hj =>
    obtain rfl : j = k := Option.some.inj (hj.symm.trans hk)
    rfl
  · next hn => exact absurd (hn.symm.trans hk) (by simp)

theorem place_of_no_slot {r : DemandRecord} {ns : List Nat} (hk : t.placeSlot r ns = none) :
    t.place r ns = (t.run.makeRoom r ns, none) := by
  unfold place
  unfold placeSlot at hk
  dsimp only
  split
  · next j hj => exact absurd (hj.symm.trans hk) (by simp)
  · rfl

/-- The slot taken exists and is free once room is made. -/
theorem placeSlot_free {r : DemandRecord} {ns : List Nat} {k : Nat} (hk : t.placeSlot r ns = some k) :
    k < (t.run.makeRoom r ns).table.slots.length ∧
      (t.run.makeRoom r ns).table.inSlot k = none := by
  obtain ⟨xs, hxs, hmatch⟩ := t.run.makeRoom_eq r ns
  unfold placeSlot at hk
  split at hk
  · next j hj =>
    cases hk
    obtain ⟨x, hx, -⟩ := t.matching_eq_some hj
    rw [hxs, DemandRun.retireEach_slots_length, DemandRun.retireEach_inSlot, if_pos (hmatch k hj)]
    exact ⟨t.lt_of_inSlot hx, rfl⟩
  · exact freeSlot_eq_some _ hk

theorem place_handlesLive (r : DemandRecord) (ns : List Nat) (h : handlesLive t) :
    handlesLive (t.place r ns).1.table := by
  have room : handlesLive (t.run.makeRoom r ns).table := by
    obtain ⟨xs, hxs, -⟩ := t.run.makeRoom_eq r ns
    rw [hxs]
    exact DemandRun.retireEach_handlesLive _ _ h
  cases hk : t.placeSlot r ns with
  | none => rwa [place_of_no_slot t hk]
  | some k =>
    rw [place_of_slot t hk]
    obtain ⟨hlt, hfree⟩ := t.placeSlot_free hk
    exact DemandRun.retireEach_handlesLive _ _ (install_handlesLive _ hlt hfree r ns room)

end DemandTable

/-! ### Operations on the state -/

/-- The table after an operation: that of its run, with the waits of the heads restored. -/
theorem endOperation_demand (s : State) (run : DemandRun) (adjusted : List Nat) :
    (s.endOperation run adjusted).1.demand = run.table.restoreWaits := by
  have h : ∀ (xs : List (DemandRecord × RetireReason)) (u : State),
      (xs.foldl State.stationGone u).demand = u.demand := fun xs u =>
    (sameOutside.foldl _ stationGone_frame xs u) .demand (by simp)
  simp [State.endOperation, State.tellFreezes, h]

theorem closeOperation_demand (s : State) (run : DemandRun) (adjusted : List Nat) :
    (s.closeOperation run adjusted).demand = run.table.restoreWaits := by
  simp [State.closeOperation, endOperation_demand]

theorem closeOperation_handlesLive (s : State) {run : DemandRun} (adjusted : List Nat)
    (h : handlesLive run.table) : handlesLive (s.closeOperation run adjusted).demand := by
  rw [closeOperation_demand]
  exact DemandTable.restoreWaits_handlesLive _ h

theorem endOperation_handlesLive (s : State) {run : DemandRun} (adjusted : List Nat)
    (h : handlesLive run.table) : handlesLive (s.endOperation run adjusted).1.demand := by
  rw [endOperation_demand]
  exact DemandTable.restoreWaits_handlesLive _ h

variable {s : State} (hs : handlesLive s.demand)
include hs

theorem placeRecord_handlesLive (r : DemandRecord) : handlesLive (s.placeRecord r).1.demand :=
  closeOperation_handlesLive s _ (DemandTable.place_handlesLive _ _ _ hs)

theorem retireSource_handlesLive (src : Source) : handlesLive (s.retireSource src).demand := by
  unfold State.retireSource
  rw [DemandRun.retireAll_eq]
  exact closeOperation_handlesLive s _ (DemandRun.retireEach_handlesLive _ _ hs)

theorem retireSlot_handlesLive (k : Nat) (reason : RetireReason) :
    handlesLive (s.retireSlot k reason).demand :=
  closeOperation_handlesLive s _ (DemandRun.retire_handlesLive _ _ _ hs)

theorem demandSecond_handlesLive : handlesLive s.demandSecond.demand :=
  closeOperation_handlesLive s _
    (DemandRun.retireEach_handlesLive _ _ (DemandTable.countDown_handlesLive _ hs))

omit hs in
/-- A state with the same demand table keeps its handles living. -/
theorem handlesLive_of_frame {bs : List Block} {t : State} (h : sameOutside bs s t)
    (hb : .demand ∉ bs) (hs : handlesLive s.demand) : handlesLive t.demand := by
  rwa [show t.demand = s.demand from h .demand hb]

omit hs in
theorem foldl_placeRecord_handlesLive {α : Type} (f : α → DemandRecord) (xs : List α) (s : State)
    (hs : handlesLive s.demand) :
    handlesLive (xs.foldl (fun t x => (t.placeRecord (f x)).1) s).demand := by
  induction xs generalizing s with
  | nil => exact hs
  | cons x xs ih => exact ih _ (placeRecord_handlesLive hs _)

theorem takeSteps_handlesLive (z left : Nat) : handlesLive (s.takeSteps z left).demand :=
  foldl_placeRecord_handlesLive _ _ _ hs

theorem placeScenario_handlesLive (z left : Nat) : handlesLive (s.placeScenario z left).demand :=
  takeSteps_handlesLive (s := s.tellSteps z _) hs z left

theorem zoneTransition_handlesLive (z : Nat) (c : LineClass) (left : Nat) :
    handlesLive (s.zoneTransition z c left).demand := by
  unfold State.zoneTransition
  split
  · dsimp only
    split
    · exact placeScenario_handlesLive (s := s.setZone z _) hs z left
    · exact hs
  · exact hs

theorem acceptLine_handlesLive (z : Nat) (c : LineClass) (left : Nat) :
    handlesLive (s.acceptLine z c left).demand := by
  unfold State.acceptLine
  split
  · exact handlesLive_of_frame (endFireEvent_frame _ _ _) (by simp)
      (zoneTransition_handlesLive (s := s.setZone z _) hs z c left)
  · exact hs

theorem sampleLine_handlesLive (z : Nat) (count : BitVec 10) :
    handlesLive (s.sampleLine z count).demand := by
  unfold State.sampleLine
  split
  · dsimp only
    split
    · exact hs
    · split
      · split
        · exact acceptLine_handlesLive (s := s.setZone z _) hs z _ 0
        · exact hs
      · exact hs
  · exact hs

theorem acceptSwitch_handlesLive (z : Nat) (r : Zone) :
    handlesLive (s.acceptSwitch z r).demand := by
  unfold State.acceptSwitch
  dsimp only
  split
  · exact hs
  · refine handlesLive_of_frame (endFireEvent_frame _ _ _) (by simp) ?_
    cases switchReading r.openMade r.closeMade
    · exact retireSource_handlesLive (s := s.setZone z _) hs _
    · exact placeRecord_handlesLive (s := s.setZone z _) hs _
    · exact placeRecord_handlesLive (s := s.setZone z _) hs _
    · exact hs

theorem resetZone_handlesLive (z : Nat) : handlesLive (s.resetZone z).demand := by
  unfold State.resetZone
  split
  · have cleared : ∀ (r : Zone) (ns : List Nat), handlesLive
        ((((s.setZone z r).takeSteps z 0).retireSource (.scenario z)).fireResetMoves ns).demand :=
      fun r ns => handlesLive_of_frame (fireResetMoves_frame _ _) (by simp)
        (retireSource_handlesLive (takeSteps_handlesLive (s := s.setZone z r) hs z 0) _)
    dsimp only
    split
    · exact zoneTransition_handlesLive (cleared _ _) _ _ _
    · exact cleared _ _
  · exact hs

theorem fireReset_handlesLive : handlesLive s.fireReset.demand := by
  have h : ∀ (zs : List Nat) (u : State), handlesLive u.demand →
      handlesLive (zs.foldl State.resetZone u).demand := by
    intro zs
    induction zs with
    | nil => exact fun _ hu => hu
    | cons z zs ih => exact fun u hu => ih _ (resetZone_handlesLive hu z)
  exact handlesLive_of_frame (endFireEvent_frame _ _ _) (by simp) (h _ s hs)

theorem zoneWritten_handlesLive (z : Nat) (enabled : Bool) (left : Nat) :
    handlesLive (s.zoneWritten z enabled left).demand := by
  have ended : ∀ (u : State) zs, handlesLive u.demand →
      handlesLive (u.endFireEvent s zs).demand := fun u zs =>
    handlesLive_of_frame (endFireEvent_frame _ _ _) (by simp)
  unfold State.zoneWritten
  split
  · split
    · exact ended (s.setZone z _) _ hs
    · exact ended (s.setZone z _) _ hs
    · dsimp only
      split
      · exact ended _ _ (zoneTransition_handlesLive (s := s.setZone z _) hs _ _ _)
      · exact ended (s.setZone z _) _ hs
    · exact hs
  · exact hs

theorem stationPlace_handlesLive (n aperture : Nat) :
    handlesLive (s.stationPlace n aperture).demand := by
  unfold State.stationPlace
  dsimp only
  split
  · exact handlesLive_of_frame (report_frame _ _ _ _) (by simp) hs
  · exact handlesLive_of_frame (setStationHandle_frame _ _ _) (by simp) (placeRecord_handlesLive hs _)

theorem shortPress_handlesLive (n : Nat) (b : ButtonId) :
    handlesLive (s.shortPress n b).demand := by
  unfold State.shortPress
  split
  · unfold State.adjustOrPlace
    dsimp only
    split
    · split
      · exact handlesLive_of_frame (setStationHandle_frame _ _ _) (by simp)
          (closeOperation_handlesLive s _ (DemandTable.rewrite_handlesLive _ _ _ hs))
      · exact hs
    · exact stationPlace_handlesLive hs _ _
  · exact hs

theorem longPress_handlesLive (n aperture : Nat) : handlesLive (s.longPress n aperture).demand := by
  unfold State.longPress
  split
  · exact stationPlace_handlesLive hs _ _
  · exact hs

theorem bothHeld_handlesLive (n : Nat) : handlesLive (s.bothHeld n).demand := by
  unfold State.bothHeld
  split
  · split
    · split
      · split
        · exact retireSlot_handlesLive hs _ _
        · exact hs
      · exact hs
    · exact hs
  · exact hs

theorem acceptButton_handlesLive (n : Nat) (b : ButtonId) (st : Station) :
    handlesLive (s.acceptButton n b st).demand := by
  unfold State.acceptButton
  dsimp only
  split
  · exact hs
  · split
    · exact shortPress_handlesLive (s := s.setStation n _) hs _ _
    · exact hs

theorem requestPlace_handlesLive (m : Nat) (f : PlaceFields) :
    handlesLive (s.requestPlace m f).1.demand := by
  unfold State.requestPlace
  split
  · split
    · split
      · exact hs
      · split
        · next x hx =>
          unfold State.carryOutPlace at hx
          dsimp only at hx
          split at hx <;> cases hx
          exact handlesLive_of_frame (recompute_frame _ _) (by simp)
            (endOperation_handlesLive s _ (DemandTable.place_handlesLive _ _ _ hs))
        · exact hs
    · exact hs
  · exact hs

theorem requestAdjust_handlesLive (m : Nat) (slot gen : Byte) (delta : Word16) :
    handlesLive (s.requestAdjust m slot gen delta).1.demand := by
  unfold State.requestAdjust
  dsimp only
  split
  · exact hs
  · split
    · split
      · exact handlesLive_of_frame (recompute_frame _ _) (by simp)
          (endOperation_handlesLive s _ (DemandTable.rewrite_handlesLive _ _ _ hs))
      · exact hs
    · exact hs

theorem requestRetire_handlesLive (m : Nat) (slot gen : Byte) :
    handlesLive (s.requestRetire m slot gen).1.demand := by
  unfold State.requestRetire
  dsimp only
  split
  · split
    · exact retireSlot_handlesLive hs _ _
    · exact hs
  · exact hs

end Sys2Proof.Machine
end


section
/-! PROOFS. The laws that every step keeps: attention, the receive buffer, the deferred slot, living
handles and the ranges of the weather unit; and that every command that names existing units completes. -/
namespace Sys2Proof.Machine

open Sys2Proof

variable {s t : State}

/-! ### From commands to steps -/

/-- A law that does not read the queue is kept by every step where it is kept by every command but
FRAME_TAKEN, by the receiver's return to IDLE, and by the answer to a malformed request: a frame taken
does no more than these. -/
theorem step_keeps {P : State → Prop} (queue : ∀ u p, P u → P { u with pending := p })
    (idle : ∀ u, P u → P (u.setLink (u.link.emptied .idle)))
    (malformed : ∀ u m code payload, P u → P (u.takeMalformed m code payload))
    (commands : ∀ c u v, c ≠ .frameTaken → P u → exec c u = .next v → P v)
    (hs : P s) (h : step s = .next t) : P t := by
  have requests : ∀ u m code payload, isSupervisor m = true → P u →
      P (u.takeRequest m code payload) := fun u m code payload hm hu => by
    rcases request_or_malformed u m code payload with ⟨i, hi⟩ | hbad
    · refine commands i u _ ?_ hu (exec_eq_takeRequest u hm hi)
      rintro rfl
      contradiction
    · rw [hbad]
      exact malformed u m code payload hu
  have frame : ∀ u v, P u → execFrameTaken u = .next v → P v := fun u v hu hv => by
    unfold execFrameTaken at hv
    split at hv <;> cases hv
    · unfold State.takeFrame
      split
      · next hc =>
        simp only [addressChecks, Bool.and_eq_true] at hc
        exact requests _ _ _ _ hc.2.1.2 (idle u hu)
      · exact idle u hu
    · exact hu
  unfold step at h
  split at h
  · cases h; exact hs
  · next c rest _ =>
    by_cases hc : c = .frameTaken
    · subst hc
      exact frame _ t (queue s rest hs) h
    · exact commands c _ t hc (queue s rest hs) h

/-- A command that does not touch a block leaves it as it stood. -/
theorem exec_agrees {c : Instr} (hc : c ≠ .frameTaken) (h : exec c s = .next t) {b : Block}
    (hb : b ∉ touchedBy c) : b.agrees s t := exec_frame_of_ne_frameTaken hc h b hb

theorem eq_or_eq_of_request {m : Nat} {u : State}
    (h : (if isSupervisor m then .next u else .next s : Host.Outcome State Fault Refusal) = .next t) :
    t = s ∨ t = u := by
  split at h <;> cases h <;> simp

/-! ### What a request does to the link -/

/-- Of the link a request takes the response held; the rest stands as it was. -/
def linkKept (s t : State) : Prop :=
  t.link.rx = s.link.rx ∧ t.link.buffer = s.link.buffer ∧ t.link.misframed = s.link.misframed ∧
    t.link.deferred = s.link.deferred ∧ t.link.sending = s.link.sending

theorem linkKept.refl (s : State) : linkKept s s := ⟨rfl, rfl, rfl, rfl, rfl⟩

theorem heldDiscarded.linkKept (h : heldDiscarded s t) : linkKept s t := by
  obtain ⟨hrx, hb, hm, hd, hx, -⟩ := h
  exact ⟨hrx, hb, hm, hd, hx⟩

theorem linkKept_of_link_eq (h : t.link = s.link) : linkKept s t := by
  unfold linkKept
  rw [h]
  exact ⟨rfl, rfl, rfl, rfl, rfl⟩

theorem linkKept.trans {u : State} (h : linkKept s t) (h' : linkKept t u) : linkKept s u := by
  obtain ⟨h1, h2, h3, h4, h5⟩ := h
  obtain ⟨k1, k2, k3, k4, k5⟩ := h'
  exact ⟨k1.trans h1, k2.trans h2, k3.trans h3, k4.trans h4, k5.trans h5⟩

theorem respond_linkKept (s : State) (m : Nat) (code : Byte) (a : Answer) :
    linkKept s (s.respond m code a) := (hold_answered s _).2.2.linkKept

/-- What is answered in a state of the same link discards what that link held. -/
theorem Answered.respond_heldDiscarded {x : Answered} (h : x.1.link = s.link) (m : Nat) (code : Byte) :
    heldDiscarded s (x.respond m code) := by
  have := (hold_answered x.1 (x.1.formResponse x.1.store.movement.value.partAddress m code x.2)).2.2
  unfold heldDiscarded at this ⊢
  rwa [h] at this

theorem Answered.respond_linkKept {bs : List Block} {x : Answered} (h : sameOutside bs s x.1)
    (hb : .link ∉ bs) (m : Nat) (code : Byte) : linkKept s (x.respond m code) :=
  (Answered.respond_heldDiscarded (h .link hb) m code).linkKept

theorem Answered.respond_linkKept_of_state {x : Answered} (h : x.1 = s) (m : Nat) (code : Byte) :
    linkKept s (x.respond m code) :=
  (Answered.respond_heldDiscarded (by rw [h]) m code).linkKept

theorem takeConfigure_linkKept (s : State) (m : Nat) (kind index : Byte) (v : List Byte) :
    linkKept s (s.takeConfigure m kind index v) := by
  have kept : linkKept s (s.requestConfigure m kind index v).1 :=
    linkKept_of_link_eq (requestConfigure_frame s m kind index v .link (by simp))
  unfold State.takeConfigure
  dsimp only
  split
  · exact kept.trans (respond_linkKept _ _ _ _)
  · exact kept.trans (dropHeld_discards _).linkKept

theorem request_linkKept {i : Instr} {x : Nat × Byte × List Byte} (hi : requestParts i = some x)
    (h : exec i s = .next t) : linkKept s t := by
  have of_ite : ∀ {m : Nat} {u : State},
      (if isSupervisor m then .next u else .next s : Host.Outcome State Fault Refusal) = .next t →
      linkKept s u → linkKept s t := fun {m u} h hu => by
    rcases eq_or_eq_of_request h with rfl | rfl
    · exact .refl _
    · exact hu
  cases i with
  | place m f => exact of_ite h (Answered.respond_linkKept (requestPlace_frame s m f) (by simp) m _)
  | adjust m slot gen delta =>
    exact of_ite h (Answered.respond_linkKept (requestAdjust_frame s m slot gen delta) (by simp) m _)
  | retire m slot gen =>
    exact of_ite h (Answered.respond_linkKept (requestRetire_frame s m slot gen) (by simp) m _)
  | probe m f =>
    exact of_ite h (Answered.respond_linkKept_of_state (requestProbe_state s m f) m _)
  | listRecords m f =>
    exact of_ite h (Answered.respond_linkKept_of_state (requestList_state s f) m _)
  | readRecord m slot gen =>
    exact of_ite h (Answered.respond_linkKept_of_state (requestReadRecord_state s slot gen) m _)
  | readOpening m n =>
    exact of_ite h (Answered.respond_linkKept_of_state (requestReadOpening_state s n) m _)
  | readGroup m g =>
    exact of_ite h (Answered.respond_linkKept_of_state (requestReadGroup_state s g) m _)
  | readZone m z =>
    exact of_ite h (Answered.respond_linkKept_of_state (requestReadZone_state s z) m _)
  | readWeather m => exact of_ite h (Answered.respond_linkKept_of_state (s := s) rfl m _)
  | readConditions m => exact of_ite h (Answered.respond_linkKept_of_state (s := s) rfl m _)
  | clearConditions m set =>
    exact of_ite h (Answered.respond_linkKept (requestConditions_frame s set).1 (by simp) m _)
  | setMask m set =>
    exact of_ite h (Answered.respond_linkKept (requestConditions_frame s set).2 (by simp) m _)
  | configure m kind index v => exact of_ite h (takeConfigure_linkKept s m kind index v)
  | readConfig m kind index =>
    exact of_ite h (Answered.respond_linkKept_of_state (requestReadConfig_state s kind index) m _)
  | clearFault m n =>
    exact of_ite h (Answered.respond_linkKept (requestClearFault_frame s n) (by simp) m _)
  | fireReset m =>
    exact of_ite h (Answered.respond_linkKept (requestFireReset_frame s m) (by simp) m _)
  | restart m => exact of_ite h (Answered.respond_linkKept_of_state (requestRestart_state s m) m _)
  | _ => contradiction

/-! ### Attention -/

theorem Conditions.judged_attention (c : Conditions) : c.judged.attention = c.judged.calls := rfl

theorem Conditions.atReset_attention (cause : ResetCause) :
    (Conditions.atReset cause).attention = (Conditions.atReset cause).calls := by
  cases cause <;> rfl

theorem requestClearConditions_attentionRight (set : BitVec 24) (hs : attentionRight s) :
    attentionRight (s.requestClearConditions set).1 := by
  unfold State.requestClearConditions
  split
  · exact hs
  · exact Conditions.judged_attention _

theorem requestSetMask_attentionRight (set : BitVec 24) (hs : attentionRight s) :
    attentionRight (s.requestSetMask set).1 := by
  unfold State.requestSetMask
  split
  · exact hs
  · exact Conditions.judged_attention _

theorem attentionRight_of_eq (h : t.conditions = s.conditions) (hs : attentionRight s) :
    attentionRight t := by
  unfold attentionRight
  rwa [h]

theorem attentionRight_of_frame {bs : List Block} (h : sameOutside bs s t) (hb : .conditions ∉ bs)
    (hs : attentionRight s) : attentionRight t := attentionRight_of_eq (h .conditions hb) hs

theorem restartWith_attentionRight (s : State) (st : Store) (cause : ResetCause) (supply : Int) :
    attentionRight (s.restartWith st cause supply) := Conditions.atReset_attention cause

theorem exec_attentionRight (c : Instr) (hc : c ≠ .frameTaken) (hs : attentionRight s)
    (h : exec c s = .next t) : attentionRight t := by
  by_cases hb : Block.conditions ∈ touchedBy c
  · cases c with
    | powerOnReset w v => cases h; exact restartWith_attentionRight _ _ _ _
    | restartTaken w v =>
      change execRestartTaken w v s = _ at h
      unfold execRestartTaken at h
      split at h <;> cases h
      · exact restartWith_attentionRight _ _ _ _
      · exact hs
    | frameTaken => exact absurd rfl hc
    | clearConditions m set =>
      rcases eq_or_eq_of_request h with rfl | rfl
      · exact hs
      · exact attentionRight_of_frame (respond_frame _ _ _ _) (by simp)
          (requestClearConditions_attentionRight set hs)
    | setMask m set =>
      rcases eq_or_eq_of_request h with rfl | rfl
      · exact hs
      · exact attentionRight_of_frame (respond_frame _ _ _ _) (by simp)
          (requestSetMask_attentionRight set hs)
    | conditionReport owner =>
      change execConditionReport owner s = _ at h
      unfold execConditionReport at h
      split at h <;> cases h
      · exact Conditions.judged_attention _
      · exact hs
    | _ => simp [touchedBy] at hb
  · exact attentionRight_of_eq (exec_agrees hc h hb) hs

/-! ### The receive buffer -/

theorem bufferInBounds_of_linkKept (h : linkKept s t) (hs : bufferInBounds s) : bufferInBounds t := by
  obtain ⟨hrx, hb, hm, -, -⟩ := h
  unfold bufferInBounds
  rwa [hrx, hb, hm]

theorem bufferInBounds_of_empty (hb : t.link.buffer = []) (hm : t.link.misframed = false) :
    bufferInBounds t := by
  simp [bufferInBounds, hb, hm]

theorem Link.discardHeld_receiver (l : Link) : l.discardHeld.rx = l.rx ∧
    l.discardHeld.buffer = l.buffer ∧ l.discardHeld.misframed = l.misframed ∧
    l.discardHeld.deferred = l.deferred ∧ l.discardHeld.sending = l.sending := by
  unfold Link.discardHeld
  split <;> exact ⟨rfl, rfl, rfl, rfl, rfl⟩

/-- The buffer stays in bounds whatever byte the receiver takes. -/
theorem receive_bufferInBounds (l : Link) (b : Byte) (misframed : Bool)
    (hl : bufferInBounds (s.setLink l)) : bufferInBounds (s.setLink (l.receive b misframed)) := by
  unfold Link.receive
  split
  · simp [bufferInBounds, Config.bufferMax]
  · next hrx =>
    split
    · simp only [bufferInBounds, State.setLink_link, hrx, List.length_append, List.length_singleton]
      exact ⟨by omega, fun hn => absurd rfl hn⟩
    · exact bufferInBounds_of_empty rfl rfl
  · exact hl

theorem byteArrives_bufferInBounds (b : Byte) (misframed : Bool) (hs : bufferInBounds s) :
    bufferInBounds (s.setLink (s.link.byteArrives b misframed)) := by
  unfold Link.byteArrives
  split
  · exact hs
  · refine receive_bufferInBounds _ _ _ (bufferInBounds_of_linkKept ?_ hs)
    exact Link.discardHeld_receiver s.link

theorem writeAnswered_link (s before : State) (w : EntryWrite) (st : Status) :
    (s.writeAnswered before w st).link = { s.link with
      deferred := some (s.formResponse before.store.movement.value.partAddress w.sender 0x0E#8
        { status := st, flags := .none, body := if st = .accepted then [w.kind, w.index] else [] }) } :=
  rfl

theorem writeTold_link (s before : State) (left : Nat) (ev : EntryValue) :
    (s.writeTold before left ev).link = s.link := writeTold_frame s before left ev .link (by simp)

theorem report_link (s : State) (o : Owner) (l : List (Condition × Bool)) (e : List Condition) :
    (s.report o l e).link = s.link := report_frame s o l e .link (by simp)

theorem completeWrite_linkDeferred (s : State) (w : EntryWrite) (left : Nat) :
    ∃ r, (s.completeWrite w left).link = { s.link with deferred := some r } := by
  unfold State.completeWrite
  split <;> rw [writeAnswered_link]
  · exact ⟨_, rfl⟩
  · rw [writeTold_link]
    exact ⟨_, rfl⟩

theorem failWrite_linkDeferred (s : State) (w : EntryWrite) :
    ∃ r, (s.failWrite w).link = { s.link with deferred := some r } := by
  rw [State.failWrite, writeAnswered_link, report_link]
  exact ⟨_, rfl⟩

theorem exec_bufferInBounds (c : Instr) (hc : c ≠ .frameTaken) (hs : bufferInBounds s)
    (h : exec c s = .next t) : bufferInBounds t := by
  by_cases hb : Block.link ∈ touchedBy c
  · cases hi : requestParts c with
    | some x => exact bufferInBounds_of_linkKept (request_linkKept hi h) hs
    | none =>
      cases c with
      | powerOnReset w v => cases h; exact bufferInBounds_of_empty rfl rfl
      | restartTaken w v =>
        change execRestartTaken w v s = _ at h
        unfold execRestartTaken at h
        split at h <;> cases h
        · exact bufferInBounds_of_empty rfl rfl
        · exact hs
      | frameTaken => exact absurd rfl hc
      | writeComplete left =>
        change execWriteComplete s left = _ at h
        unfold execWriteComplete at h
        split at h <;> cases h
        · next w _ =>
          obtain ⟨r, hr⟩ := completeWrite_linkDeferred s w left
          unfold bufferInBounds
          rw [hr]
          exact hs
        · exact hs
      | writeFail =>
        change execWriteFail s = _ at h
        unfold execWriteFail at h
        split at h <;> cases h
        · next w _ =>
          obtain ⟨r, hr⟩ := failWrite_linkDeferred s w
          unfold bufferInBounds
          rw [hr]
          exact hs
        · exact hs
      | receiveBufferOverflow =>
        change execReceiveBufferOverflow s = _ at h
        unfold execReceiveBufferOverflow at h
        split at h <;> cases h
        · exact byteArrives_bufferInBounds _ _ hs
        · exact hs
      | discardIdleGap =>
        change execDiscardIdleGap s = _ at h
        unfold execDiscardIdleGap at h
        split at h <;> cases h
        · next hd =>
          obtain ⟨hlen, hempty⟩ := hs
          obtain ⟨hbuf, hmis⟩ := hempty (by simp [hd.1])
          exact bufferInBounds_of_empty hbuf hmis
        · exact hs
      | heldResponseSend =>
        change execHeldResponseSend s = _ at h
        unfold execHeldResponseSend at h
        split at h <;> cases h
        · exact bufferInBounds_of_empty rfl rfl
        · exact hs
      | heldResponseDiscard b misframed =>
        change execHeldResponseDiscard b s misframed = _ at h
        unfold execHeldResponseDiscard at h
        split at h <;> cases h
        · exact byteArrives_bufferInBounds _ _ hs
        · exact hs
      | deferredResponseSend =>
        change execDeferredResponseSend s = _ at h
        unfold execDeferredResponseSend at h
        split at h
        · split at h <;> cases h
          · exact bufferInBounds_of_empty rfl rfl
          · exact hs
        · cases h; exact hs
      | transmissionEnd =>
        change execTransmissionEnd s = _ at h
        unfold execTransmissionEnd at h
        split at h <;> cases h
        · exact bufferInBounds_of_empty rfl rfl
        · exact hs
      | byteArrives b misframed => cases h; exact byteArrives_bufferInBounds _ _ hs
      | listRecords m f => cases f <;> contradiction
      | _ => contradiction
  · unfold bufferInBounds
    rw [show t.link = s.link from exec_agrees hc h hb]
    exact hs

/-! ### The deferred slot -/

theorem deferredSlotFree_of_eq (hw : t.store.writing = s.store.writing)
    (hd : t.link.deferred = s.link.deferred ∨ t.link.deferred = none) (hs : deferredSlotFree s) :
    deferredSlotFree t := by
  intro h
  rcases hd with hd | hd
  · rw [hd]
    exact hs (hw ▸ h)
  · exact hd

theorem deferredSlotFree_of_not_writing (hw : t.store.writing = none) : deferredSlotFree t :=
  fun h => absurd hw h

theorem Link.receive_deferred (l : Link) (b : Byte) (misframed : Bool) :
    (l.receive b misframed).deferred = l.deferred := by
  unfold Link.receive
  split
  · rfl
  · split <;> rfl
  · rfl

theorem Link.byteArrives_deferred (l : Link) (b : Byte) (misframed : Bool) :
    (l.byteArrives b misframed).deferred = l.deferred := by
  unfold Link.byteArrives
  split
  · rfl
  · rw [Link.receive_deferred]
    exact (Link.discardHeld_receiver l).2.2.2.1

theorem Store.onEntry_writing (st : Store) (ev : EntryValue)
    (f : (α : Type) → α → Entry α → Entry α) : (st.onEntry ev f).writing = st.writing := by
  cases ev <;> rfl

theorem Store.commit_writing (st : Store) (ev : EntryValue) : (st.commit ev).writing = none := rfl

theorem completeWrite_writing (s : State) (w : EntryWrite) (left : Nat) :
    (s.completeWrite w left).store.writing = none := by
  unfold State.completeWrite
  split
  · rfl
  · have h := writeTold_frame (s.setStore (s.store.commit w.entry)) s left w.entry .store (by simp)
    change _ = s.store.commit w.entry at h
    unfold State.writeAnswered State.defer
    rw [State.setLink_store, h]
    rfl

theorem failWrite_writing (s : State) (w : EntryWrite) : (s.failWrite w).store.writing = none := by
  have h := report_frame (s.setStore s.store.abandon) .siteStore [] [.storeFault] .store (by simp)
  change _ = s.store.abandon at h
  unfold State.failWrite State.writeAnswered State.defer
  rw [State.setLink_store, h]
  rfl

theorem Store.atReset_writing (st : Store) (spareWritten : Bool) :
    (st.atReset spareWritten).writing = none := by
  have h : ∀ u : Store, u.checkSupervisors.writing = u.writing := fun u => by
    unfold Store.checkSupervisors
    split <;> rfl
  rw [Store.atReset, h]
  rfl

/-- A CONFIGURE starts a write only where no response is deferred. -/
theorem requestConfigure_deferredSlotFree (m : Nat) (kind index : Byte) (v : List Byte)
    (hs : deferredSlotFree s) : deferredSlotFree (s.requestConfigure m kind index v).1 := by
  unfold State.requestConfigure
  split
  · split
    · split
      · split
        · exact hs
        · exact hs
        · next hd =>
          split
          · exact hs
          · exact fun _ => hd
      · exact hs
    · exact hs
  · exact hs

theorem deferredSlotFree_of_frame {bs : List Block} (h : sameOutside bs s t) (hb : .store ∉ bs)
    (hl : linkKept s t) (hs : deferredSlotFree s) : deferredSlotFree t :=
  deferredSlotFree_of_eq (congrArg Store.writing (h .store hb)) (.inl hl.2.2.2.1) hs

theorem takeConfigure_deferredSlotFree (m : Nat) (kind index : Byte) (v : List Byte)
    (hs : deferredSlotFree s) : deferredSlotFree (s.takeConfigure m kind index v) := by
  have asked := requestConfigure_deferredSlotFree m kind index v hs
  unfold State.takeConfigure
  dsimp only
  split
  · exact deferredSlotFree_of_frame (respond_frame _ _ _ _) (by simp) (respond_linkKept _ _ _ _) asked
  · exact deferredSlotFree_of_frame (dropHeld_frame _) (by simp) (dropHeld_discards _).linkKept asked

theorem exec_deferredSlotFree (c : Instr) (hc : c ≠ .frameTaken) (hs : deferredSlotFree s)
    (h : exec c s = .next t) : deferredSlotFree t := by
  have of_link : ∀ l : Link, l.deferred = s.link.deferred ∨ l.deferred = none →
      deferredSlotFree (s.setLink l) := fun l hl => deferredSlotFree_of_eq (s := s) rfl hl hs
  by_cases hst : Block.store ∈ touchedBy c
  · cases c with
    | powerOnReset w v => cases h; exact deferredSlotFree_of_not_writing (Store.atReset_writing _ _)
    | restartTaken w v =>
      change execRestartTaken w v s = _ at h
      unfold execRestartTaken at h
      split at h <;> cases h
      · exact deferredSlotFree_of_not_writing (Store.atReset_writing _ _)
      · exact hs
    | frameTaken => exact absurd rfl hc
    | writeComplete left =>
      change execWriteComplete s left = _ at h
      unfold execWriteComplete at h
      split at h <;> cases h
      · exact deferredSlotFree_of_not_writing (completeWrite_writing _ _ _)
      · exact hs
    | writeFail =>
      change execWriteFail s = _ at h
      unfold execWriteFail at h
      split at h <;> cases h
      · exact deferredSlotFree_of_not_writing (failWrite_writing _ _)
      · exact hs
    | configure m kind index v =>
      rcases eq_or_eq_of_request h with rfl | rfl
      · exact hs
      · exact takeConfigure_deferredSlotFree m kind index v hs
    | _ => simp [touchedBy] at hst
  · have hw : t.store.writing = s.store.writing := congrArg Store.writing (exec_agrees hc h hst)
    by_cases hb : Block.link ∈ touchedBy c
    · cases hi : requestParts c with
      | some x => exact deferredSlotFree_of_eq hw (.inl (request_linkKept hi h).2.2.2.1) hs
      | none =>
        cases c with
        | receiveBufferOverflow =>
          change execReceiveBufferOverflow s = _ at h
          unfold execReceiveBufferOverflow at h
          split at h <;> cases h
          · exact of_link _ (.inl (Link.byteArrives_deferred _ _ _))
          · exact hs
        | discardIdleGap =>
          change execDiscardIdleGap s = _ at h
          unfold execDiscardIdleGap at h
          split at h <;> cases h
          · exact of_link _ (.inl rfl)
          · exact hs
        | heldResponseSend =>
          change execHeldResponseSend s = _ at h
          unfold execHeldResponseSend at h
          split at h <;> cases h
          · exact of_link _ (.inl rfl)
          · exact hs
        | heldResponseDiscard b misframed =>
          change execHeldResponseDiscard b s misframed = _ at h
          unfold execHeldResponseDiscard at h
          split at h <;> cases h
          · exact of_link _ (.inl (Link.byteArrives_deferred _ _ _))
          · exact hs
        | deferredResponseSend =>
          change execDeferredResponseSend s = _ at h
          unfold execDeferredResponseSend at h
          split at h
          · split at h <;> cases h
            · exact of_link _ (.inr rfl)
            · exact hs
          · cases h; exact hs
        | transmissionEnd =>
          change execTransmissionEnd s = _ at h
          unfold execTransmissionEnd at h
          split at h <;> cases h
          · exact of_link _ (.inl rfl)
          · exact hs
        | byteArrives b misframed =>
          cases h
          exact of_link _ (.inl (Link.byteArrives_deferred _ _ _))
        | listRecords m f => cases f <;> contradiction
        | _ => first | contradiction | simp [touchedBy] at hst
    · have hl : t.link = s.link := exec_agrees hc h hb
      exact deferredSlotFree_of_eq hw (.inl (by rw [hl])) hs

/-! ### Living handles -/

theorem DemandTable.empty_handlesLive : handlesLive .empty := by
  constructor
  · intro h hh
    cases hh
  · intro l hl h hh
    rw [List.eq_of_mem_replicate hl] at hh
    cases hh

theorem writeTold_handlesLive (before : State) (left : Nat) (ev : EntryValue)
    (hs : handlesLive s.demand) : handlesLive (s.writeTold before left ev).demand := by
  cases ev with
  | opening n v => exact handlesLive_of_frame (openingWritten_frame s n _ v) (by simp) hs
  | group g l =>
    exact handlesLive_of_frame (sameOutside.foldl _ cancelStation_frame _ s) (by simp) hs
  | zone z v => exact zoneWritten_handlesLive hs z v left
  | scenario z l => exact hs
  | station n v => exact handlesLive_of_frame (cancelStation_frame s n) (by simp) hs
  | supervisor m v => exact hs
  | weather v => exact handlesLive_of_frame (weatherWritten_frame s _ _ v) (by simp) hs
  | movement v => exact handlesLive_of_frame (endMoveEvent_frame s s) (by simp) hs

theorem exec_handlesLive (c : Instr) (hc : c ≠ .frameTaken) (hs : handlesLive s.demand)
    (h : exec c s = .next t) : handlesLive t.demand := by
  have answer : ∀ (x : Answered) m code, handlesLive x.1.demand →
      handlesLive (x.respond m code).demand := fun x m code hx =>
    handlesLive_of_frame (respond_frame _ _ _ _) (by simp) hx
  by_cases hb : Block.demand ∈ touchedBy c
  · cases c with
    | powerOnReset w v => cases h; exact DemandTable.empty_handlesLive
    | restartTaken w v =>
      change execRestartTaken w v s = _ at h
      unfold execRestartTaken at h
      split at h <;> cases h
      · exact DemandTable.empty_handlesLive
      · exact hs
    | frameTaken => exact absurd rfl hc
    | writeComplete left =>
      change execWriteComplete s left = _ at h
      unfold execWriteComplete at h
      split at h <;> cases h
      · unfold State.completeWrite
        split
        · exact hs
        · exact writeTold_handlesLive (s := s.setStore _) s left _ hs
      · exact hs
    | place m f =>
      rcases eq_or_eq_of_request h with rfl | rfl
      · exact hs
      · exact answer _ m _ (requestPlace_handlesLive hs m f)
    | adjust m slot gen delta =>
      rcases eq_or_eq_of_request h with rfl | rfl
      · exact hs
      · exact answer _ m _ (requestAdjust_handlesLive hs m slot gen delta)
    | retire m slot gen =>
      rcases eq_or_eq_of_request h with rfl | rfl
      · exact hs
      · exact answer _ m _ (requestRetire_handlesLive hs m slot gen)
    | fireReset m =>
      rcases eq_or_eq_of_request h with rfl | rfl
      · exact hs
      · refine answer _ m _ ?_
        unfold State.requestFireReset
        split
        · exact fireReset_handlesLive hs
        · exact hs
    | demandTick => cases h; exact demandSecond_handlesLive hs
    | recordExpired k =>
      change execRecordExpired k s = _ at h
      unfold execRecordExpired at h
      split at h
      · split at h
        · split at h <;> cases h
          · exact retireSlot_handlesLive hs _ _
          · exact hs
        · cases h; exact hs
      · cases h
    | recordStarved k =>
      change execRecordStarved k s = _ at h
      unfold execRecordStarved at h
      split at h
      · split at h
        · split at h <;> cases h
          · exact retireSlot_handlesLive hs _ _
          · exact hs
        · cases h; exact hs
      · cases h
    | zoneLineSample z count =>
      change execZoneLineSample z count s = _ at h
      unfold execZoneLineSample at h
      split at h <;> cases h
      exact sampleLine_handlesLive hs z count
    | lineAcceptance z left =>
      have taken := takeSteps_handlesLive hs z left
      change execLineAcceptance z s left = _ at h
      unfold execLineAcceptance at h
      dsimp only at h
      split at h
      · split at h
        · split at h <;> cases h
          · exact acceptLine_handlesLive taken _ _ _
          · exact taken
        · cases h; exact taken
      · cases h
    | switchAcceptance z =>
      change execSwitchAcceptance z s = _ at h
      unfold execSwitchAcceptance at h
      split at h
      · split at h
        · split at h <;> cases h
          · exact acceptSwitch_handlesLive hs _ _
          · exact hs
        · cases h; exact hs
      · cases h
    | resetKeyAcceptance =>
      change execResetKeyAcceptance s = _ at h
      unfold execResetKeyAcceptance at h
      dsimp only at h
      split at h
      · split at h <;> cases h
        · exact fireReset_handlesLive (s := s.setFire _) hs
        · exact hs
      · cases h; exact hs
    | buttonAcceptance n b =>
      change execButtonAcceptance n b s = _ at h
      unfold execButtonAcceptance at h
      split at h
      · split at h
        · split at h <;> cases h
          · exact acceptButton_handlesLive hs _ _ _
          · exact hs
        · cases h; exact hs
      · cases h
    | holdTimerExpiry n =>
      change execHoldTimerExpiry n s = _ at h
      unfold execHoldTimerExpiry at h
      dsimp only at h
      split at h
      · split at h
        · split at h
          · split at h <;> cases h
            · exact longPress_handlesLive (s := s.setStation n _) hs _ _
            · exact longPress_handlesLive (s := s.setStation n _) hs _ _
            · exact bothHeld_handlesLive (s := s.setStation n _) hs _
            · exact hs
            · exact hs
          · cases h; exact hs
        · cases h; exact hs
      · cases h
    | _ => simp [touchedBy] at hb
  · rw [show t.demand = s.demand from exec_agrees hc h hb]
    exact hs

/-! ### The ranges of the weather unit -/

/-- The ranges of `weatherInRange`, of the weather unit alone. -/
def Weather.inRange (w : Weather) : Prop :=
  w.filtered ≤ 600 ∧ (∀ v, w.anemA.value = some v → v ≤ 600) ∧
    (∀ v, w.anemB.value = some v → v ≤ 600) ∧
    ∀ p, (w.cap p).computed ≤ 1000 ∧ (w.cap p).held ≤ 1000

theorem weatherInRange_iff (s : State) : weatherInRange s ↔ s.weather.inRange := Iff.rfl

theorem Anemometer.atGateEnd_value_le {a : Anemometer} (sc : AnemometerScale)
    (ha : ∀ v, a.value = some v → v ≤ 600) (v : Nat) (hv : (a.atGateEnd sc).value = some v) :
    v ≤ 600 := by
  unfold Anemometer.atGateEnd at hv
  dsimp only at hv
  split at hv
  · exact ha v hv
  · split at hv
    · exact ha v hv
    · split at hv
      · exact (Option.some.inj hv) ▸ Nat.le_refl 600
      · next hle =>
        rw [← Option.some.inj hv]
        exact Nat.le_of_not_lt hle

theorem getD_le {o : Option Nat} {k : Nat} (h : ∀ v, o = some v → v ≤ k) : o.getD 0 ≤ k := by
  cases o with
  | none => exact Nat.zero_le k
  | some v => exact h v rfl

theorem combinedSample_le {mode : CombineMode} {a b : Anemometer} {k x : Nat}
    (ha : ∀ v, a.value = some v → v ≤ k) (hb : ∀ v, b.value = some v → v ≤ k)
    (hx : combinedSample mode a b = some x) : x ≤ k := by
  have ha' := getD_le ha
  have hb' := getD_le hb
  unfold combinedSample at hx
  split at hx
  · split at hx <;> cases hx <;> omega
  · cases hx; exact ha'
  · cases hx; exact hb'
  · cases hx

theorem computedCap_le (sp : ProfileSpeeds) (cls : ChannelClass) (f : Nat) :
    computedCap sp cls f ≤ 1000 := by
  unfold computedCap
  split
  · omega
  · split
    · exact Nat.le_refl _
    · split
      · omega
      · refine Nat.div_le_of_le_mul ?_
        rw [Nat.mul_comm (sp.close - sp.free)]
        exact Nat.mul_le_mul_left _ (by omega)

/-- A cap and its held value stay within a bound that the computed cap keeps. -/
def HeldCap.within (h : HeldCap) : Prop := h.computed ≤ 1000 ∧ h.held ≤ 1000

theorem HeldCap.atGateEnd_within {h : HeldCap} {c : Nat} (delay : Nat) (hc : c ≤ 1000)
    (hh : h.within) : (h.atGateEnd c delay).within := by
  unfold HeldCap.atGateEnd
  split
  · exact ⟨hc, hc⟩
  · split
    · exact ⟨hc, hh.2⟩
    · split
      · exact ⟨hc, hh.2⟩
      · split
        · exact ⟨hc, hc⟩
        · exact ⟨hc, hh.2⟩

theorem HeldCap.atWrite_within {h : HeldCap} {c : Nat} (hc : c ≤ 1000) (hh : h.within) :
    (h.atWrite c).within := by
  unfold HeldCap.atWrite
  split
  · exact ⟨hc, hc⟩
  · split <;> exact ⟨hc, hh.2⟩

theorem HeldCap.takenOver_within {h : HeldCap} {c : Nat} (ordered : Bool) (hc : c ≤ 1000)
    (hh : h.within) : (h.takenOver c ordered).within := by
  unfold HeldCap.takenOver
  split
  · exact ⟨hc, hc⟩
  · exact ⟨hc, hh.2⟩

theorem capsAtGateEnd_cap_within {w : Weather} (b : WeatherBlock) (hw : ∀ p, (w.cap p).within)
    (p : Profile) : ((w.capsAtGateEnd b).cap p).within := by
  have upd : ∀ q, (if w.capTakeOver then (w.cap q).takenOver
        (computedCap (b.speeds q) w.speedClass w.filtered) w.speedClass.ordered
      else (w.cap q).atGateEnd (computedCap (b.speeds q) w.speedClass w.filtered)
        b.reopenDelay).within := fun q => by
    split
    · exact HeldCap.takenOver_within _ (computedCap_le _ _ _) (hw q)
    · exact HeldCap.atGateEnd_within _ (computedCap_le _ _ _) (hw q)
  cases p <;> exact upd _

theorem capsAtWrite_cap_within {w : Weather} (b : WeatherBlock) (hw : ∀ p, (w.cap p).within)
    (p : Profile) : ((w.capsAtWrite b).cap p).within := by
  have upd : ∀ q, (if w.capTakeOver then
        { w.cap q with computed := computedCap (b.speeds q) w.speedClass w.filtered }
      else (w.cap q).atWrite (computedCap (b.speeds q) w.speedClass w.filtered)).within := fun q => by
    split
    · exact ⟨computedCap_le _ _ _, (hw q).2⟩
    · exact HeldCap.atWrite_within (computedCap_le _ _ _) (hw q)
  cases p <;> exact upd _

theorem dwellSecond_inRange {w : Weather} (b : WeatherBlock) (hw : w.inRange) :
    (w.dwellSecond b).inRange := by
  unfold Weather.dwellSecond
  split
  · split
    · split <;> exact hw
    · exact hw
  · exact hw

theorem atGateEnd_inRange {w : Weather} (b : WeatherBlock) (hw : w.inRange) :
    (w.atGateEnd b).inRange := by
  obtain ⟨hf, ha, hb, hc⟩ := hw
  have ha' := Anemometer.atGateEnd_value_le b.anemA ha
  have hb' := Anemometer.atGateEnd_value_le b.anemB hb
  refine dwellSecond_inRange (w := Weather.capsAtGateEnd _ b) b ⟨?_, ha', hb', ?_⟩
  · change (match combinedSample b.combine (w.anemA.atGateEnd b.anemA) (w.anemB.atGateEnd b.anemB) with
      | some x => if w.takeOver then x else filterToward b.filterShift w.filtered x
      | none => w.filtered) ≤ 600
    split
    · next x hx =>
      have hle := combinedSample_le ha' hb' hx
      split
      · exact hle
      · exact (filterToward_le_max _ _ _).trans (max_le hf hle)
    · exact hf
  · intro p
    apply capsAtGateEnd_cap_within
    exact hc

theorem supplySample_inRange {w : Weather} (b : WeatherBlock) (v : Int) (hw : w.inRange) :
    (w.supplySample b v).inRange := hw

theorem vaneReading_inRange {w : Weather} (b : WeatherBlock) (r : Option Nat) (hw : w.inRange) :
    (w.vaneReading b r).inRange := by
  unfold Weather.vaneReading
  split
  · split
    · unfold Weather.validReading
      dsimp only
      split
      · exact hw
      · split <;> exact hw
    · exact hw
  · exact hw

theorem rainSample_inRange {w : Weather} (b : WeatherBlock) (a : Bool) (hw : w.inRange) :
    (w.rainSample b a).inRange := by
  unfold Weather.rainSample
  dsimp only
  split
  · split <;> exact hw
  · exact hw
  · split <;> exact hw
  · exact hw

theorem probeReading_inRange {w : Weather} (r : Option Int) (hw : w.inRange) :
    (w.probeReading r).inRange := by
  unfold Weather.probeReading
  split
  · exact hw
  · split
    · exact hw
    · split <;> exact hw

theorem setCap_inRange {w : Weather} (p : Profile) {c : HeldCap} (hw : w.inRange) (hc : c.within) :
    (w.setCap p c).inRange := by
  obtain ⟨hf, ha, hb, hcaps⟩ := hw
  have caps : ∀ q, ((w.setCap p c).cap q).within := fun q => by
    have hq := hcaps q
    cases p <;> cases q <;> first | exact hc | exact hq
  cases p <;> exact ⟨hf, ha, hb, caps⟩

theorem Anemometer.afterWrite_value (a : Anemometer) (x y : Bool) :
    (a.afterWrite x y).value = a.value := by
  cases x <;> cases y <;> rfl

/-- The fields of the weather unit that have a range. -/
def Weather.ranged (w : Weather) : Nat × Anemometer × Anemometer × HeldCap × HeldCap × HeldCap :=
  (w.filtered, w.anemA, w.anemB, w.capWindward, w.capLeeward, w.capFlat)

/-- A change of presence touches, of the fields with a range, the anemometers alone. -/
theorem channelsAfterWrite_ranged (w : Weather) (old new : WeatherBlock) :
    (w.channelsAfterWrite old new).ranged =
      Weather.ranged { w with
        anemA := w.anemA.afterWrite old.anemA.present new.anemA.present
        anemB := w.anemB.afterWrite old.anemB.present new.anemB.present } := by
  unfold Weather.channelsAfterWrite
  extract_lets a b first fitted w1 w2 w3 w4
  have h2 : w2.ranged = w1.ranged := by simp only [w2]; split <;> rfl
  have h3 : w3.ranged = w2.ranged := by simp only [w3]; split <;> rfl
  have h4 : w4.ranged = w3.ranged := by simp only [w4]; split <;> rfl
  have h5 := h4.trans (h3.trans h2)
  split <;> exact h5

theorem Weather.inRange_of_ranged {w w' : Weather} (h : w'.ranged = w.ranged) (hw : w.inRange) :
    w'.inRange := by
  simp only [Weather.ranged, Prod.mk.injEq] at h
  obtain ⟨hf, ha, hb, h1, h2, h3⟩ := h
  obtain ⟨kf, ka, kb, kc⟩ := hw
  refine ⟨hf ▸ kf, ha ▸ ka, hb ▸ kb, fun p => ?_⟩
  cases p
  · exact (h1 ▸ kc .windward : w'.capWindward.within)
  · exact (h2 ▸ kc .leeward : w'.capLeeward.within)
  · exact (h3 ▸ kc .flat : w'.capFlat.within)

theorem applyBlock_inRange {w : Weather} (old new : WeatherBlock) (hw : w.inRange) :
    (w.applyBlock old new).inRange := by
  unfold Weather.applyBlock
  split
  · exact hw
  · have moved : (w.channelsAfterWrite old new).inRange := by
      refine Weather.inRange_of_ranged (channelsAfterWrite_ranged w old new) ?_
      obtain ⟨hf, ha, hb, hc⟩ := hw
      refine ⟨hf, ?_, ?_, hc⟩
      · simpa [Anemometer.afterWrite_value] using ha
      · simpa [Anemometer.afterWrite_value] using hb
    obtain ⟨hf, ha, hb, hc⟩ := moved
    dsimp only
    refine ⟨hf, ha, hb, ?_⟩
    intro p
    apply capsAtWrite_cap_within
    exact hc

theorem weatherEvent_weather (s : State) (w : Weather) : (s.weatherEvent w).weather = w := by
  unfold State.weatherEvent
  rw [show ∀ u before : State, (u.takeDirection before).weather = u.weather from
      fun u b => takeDirection_frame u b .weather (by simp),
    show ∀ u before : State, (u.takeSupply before).weather = u.weather from
      fun u b => takeSupply_frame u b .weather (by simp),
    State.reportWeather,
    show ∀ (u : State) o l e, (u.report o l e).weather = u.weather from
      fun u o l e => report_frame u o l e .weather (by simp)]
  rfl

theorem weatherEvent_inRange {w : Weather} (hw : w.inRange) : (s.weatherEvent w).weather.inRange := by
  rwa [weatherEvent_weather]

theorem weatherWritten_weather (s before : State) (old new : WeatherBlock) :
    (s.weatherWritten before old new).weather = s.weather.applyBlock old new := by
  unfold State.weatherWritten
  dsimp only
  rw [show ∀ (u : State) ns, (u.recompute ns).weather = u.weather from
      fun u ns => recompute_frame u ns .weather (by simp),
    show ∀ u before : State, (u.takeSupply before).weather = u.weather from
      fun u b => takeSupply_frame u b .weather (by simp),
    State.reportWeather,
    show ∀ (u : State) o l e, (u.report o l e).weather = u.weather from
      fun u o l e => report_frame u o l e .weather (by simp)]
  rfl

theorem writeTold_inRange (before : State) (left : Nat) (ev : EntryValue)
    (hs : s.weather.inRange) : (s.writeTold before left ev).weather.inRange := by
  have of_frame : ∀ {bs : List Block} {u : State}, sameOutside bs s u → Block.weather ∉ bs →
      u.weather.inRange := fun {bs u} h hb => by
    rwa [show u.weather = s.weather from h .weather hb]
  cases ev with
  | opening n v => exact of_frame (openingWritten_frame s n _ v) (by simp)
  | group g l => exact of_frame (sameOutside.foldl _ cancelStation_frame _ s) (by simp)
  | zone z v => exact of_frame (zoneWritten_frame s z v left) (by simp)
  | scenario z l => exact hs
  | station n v => exact of_frame (cancelStation_frame s n) (by simp)
  | supervisor m v => exact hs
  | weather v =>
    change (s.weatherWritten before before.store.weather.value v).weather.inRange
    rw [weatherWritten_weather]
    exact applyBlock_inRange _ _ hs
  | movement v => exact of_frame (endMoveEvent_frame s s) (by simp)

theorem afterReset_inRange (w : Weather) (b : WeatherBlock) (supply : Int) :
    (w.afterReset b supply).inRange := by
  refine ⟨Nat.zero_le _, ?_, ?_, ?_⟩
  · intro v hv
    cases hv
  · intro v hv
    cases hv
  · intro p
    cases p <;> exact ⟨Nat.zero_le _, Nat.zero_le _⟩

theorem pulse_value (a : Anemometer) (present : Bool) : (a.pulse present).value = a.value := by
  cases present <;> rfl

theorem completeWrite_weather (s : State) (w : EntryWrite) (left : Nat) :
    (s.completeWrite w left).weather = s.weather ∨ (s.completeWrite w left).weather =
      ((s.setStore (s.store.commit w.entry)).writeTold s left w.entry).weather := by
  unfold State.completeWrite
  split
  · exact .inl rfl
  · exact .inr rfl

theorem exec_weatherInRange (c : Instr) (hc : c ≠ .frameTaken) (hs : s.weather.inRange)
    (h : exec c s = .next t) : t.weather.inRange := by
  by_cases hb : Block.weather ∈ touchedBy c
  · cases c with
    | powerOnReset w v => cases h; exact afterReset_inRange _ _ _
    | restartTaken w v =>
      change execRestartTaken w v s = _ at h
      unfold execRestartTaken at h
      split at h <;> cases h
      · exact afterReset_inRange _ _ _
      · exact hs
    | writeComplete left =>
      change execWriteComplete s left = _ at h
      unfold execWriteComplete at h
      split at h <;> cases h
      · next w _ =>
        rcases completeWrite_weather s w left with h | h <;> rw [h]
        · exact hs
        · exact writeTold_inRange _ _ _ hs
      · exact hs
    | anemometerPulse which =>
      obtain ⟨hf, ha, hb', hcap⟩ := hs
      cases which <;> cases h
      · exact ⟨hf, by simpa [pulse_value] using ha, hb', hcap⟩
      · exact ⟨hf, ha, by simpa [pulse_value] using hb', hcap⟩
    | anemometerSupervision which inBand => cases which <;> cases h <;> exact hs
    | gateEnd => cases h; exact weatherEvent_inRange (atGateEnd_inRange _ hs)
    | reopenTimerExpiry p =>
      change execReopenTimerExpiry p s = _ at h
      unfold execReopenTimerExpiry at h
      split at h <;> cases h
      · exact weatherEvent_inRange (setCap_inRange p hs ⟨(hs.2.2.2 p).1, (hs.2.2.2 p).1⟩)
      · exact hs
    | sensorReportStart =>
      change execSensorReportStart s = _ at h
      unfold execSensorReportStart at h
      split at h <;> cases h
      · exact weatherEvent_inRange (w := { s.weather with gates := _ }) hs
      · exact hs
    | vaneReading r =>
      change execVaneReading r s = _ at h
      unfold execVaneReading at h
      split at h <;> cases h
      · exact weatherEvent_inRange (vaneReading_inRange _ _ hs)
      · exact hs
    | vaneStale =>
      change execVaneStale s = _ at h
      unfold execVaneStale at h
      split at h <;> cases h
      · exact weatherEvent_inRange (w := { s.weather with vaneClass := _, vaneTimer := _ }) hs
      · exact hs
    | dwellReached =>
      change execDwellReached s = _ at h
      unfold execDwellReached at h
      split at h
      · split at h <;> cases h
        · exact weatherEvent_inRange (w := { s.weather with heldDir := _, dwell := _ }) hs
        · exact hs
      · cases h; exact hs
    | rainSample a =>
      change execRainSample a s = _ at h
      unfold execRainSample at h
      split at h <;> cases h
      · exact weatherEvent_inRange (rainSample_inRange _ _ hs)
      · exact hs
    | wetHoldEnd =>
      change execWetHoldEnd s = _ at h
      unfold execWetHoldEnd at h
      split at h <;> cases h
      · exact weatherEvent_inRange (rainSample_inRange _ _ hs)
      · exact hs
    | dryHoldEnd =>
      change execDryHoldEnd s = _ at h
      unfold execDryHoldEnd at h
      split at h <;> cases h
      · exact weatherEvent_inRange (rainSample_inRange _ _ hs)
      · exact hs
    | probeReading r =>
      change execProbeReading r s = _ at h
      unfold execProbeReading at h
      split at h <;> cases h
      · exact weatherEvent_inRange (w := Weather.evalTemp _ _)
          (probeReading_inRange (w := s.weather) r hs)
      · exact hs
    | probeStale =>
      change execProbeStale s = _ at h
      unfold execProbeStale at h
      split at h <;> cases h
      · exact weatherEvent_inRange (w := Weather.evalTemp _ _) hs
      · exact hs
    | supplySample v => cases h; exact weatherEvent_inRange (supplySample_inRange _ v hs)
    | frameTaken => exact absurd rfl hc
    | _ => simp [touchedBy] at hb
  · rw [show t.weather = s.weather from exec_agrees hc h hb]
    exact hs

end Sys2Proof.Machine

namespace Sys2Proof.Proofs

open Sys2Proof.Machine

/-- Settles O56: each law is kept by every command, and so by every step (`step_keeps`). -/
theorem attentionAndBufferKept : Obligations.AttentionAndBufferKept := by
  refine ⟨fun s t ha hb h => ⟨?_, ?_⟩, fun s t hs h => ?_, fun s t hs h => ?_⟩
  · exact step_keeps (fun _ _ hu => hu) (fun _ hu => hu)
      (fun u _ _ _ hu => attentionRight_of_frame (takeMalformed_frame u _ _ _) (by simp) hu)
      (fun c _ _ hc hu h => exec_attentionRight c hc hu h) ha h
  · exact step_keeps (fun _ _ hu => hu) (fun _ _ => bufferInBounds_of_empty rfl rfl)
      (fun u _ _ _ hu => bufferInBounds_of_linkKept (respond_linkKept u _ _ _) hu)
      (fun c _ _ hc hu h => exec_bufferInBounds c hc hu h) hb h
  · exact step_keeps (fun _ _ hu => hu) (fun _ hu => hu)
      (fun u _ _ _ hu => deferredSlotFree_of_frame (takeMalformed_frame u _ _ _) (by simp)
        (respond_linkKept u _ _ _) hu)
      (fun c _ _ hc hu h => exec_deferredSlotFree c hc hu h) hs h
  · exact step_keeps (P := fun u => handlesLive u.demand) (fun _ _ hu => hu) (fun _ hu => hu)
      (fun u _ _ _ hu => handlesLive_of_frame (takeMalformed_frame u _ _ _) (by simp) hu)
      (fun c _ _ hc hu h => exec_handlesLive c hc hu h) hs h

/-- Settles O59: no command takes a speed or a cap out of its range. -/
theorem weatherKeptInRange : Obligations.WeatherKeptInRange := by
  intro s t hs h
  refine step_keeps (P := fun u => u.weather.inRange) (fun _ _ hu => hu) (fun _ hu => hu) ?_
    (fun c _ _ hc hu h => exec_weatherInRange c hc hu h) hs h
  intro u m code payload hu
  rwa [show (u.takeMalformed m code payload).weather = u.weather from
    takeMalformed_frame u _ _ _ .weather (by simp)]

end Sys2Proof.Proofs
end


section
/-! PROOFS. The site store's entries, the resolver's targets, and the laws about them; and that every
command that names existing units completes. -/
namespace Sys2Proof.Machine

open Sys2Proof

variable {s t : State}

/-! ### Entries of the store -/

theorem nth_modifyNth {α : Type} (l : List α) (n k : Nat) (f : α → α) :
    nth (modifyNth l n f) k = if k = n then (nth l k).map f else nth l k := by
  unfold modifyNth
  cases h : nth l n with
  | none =>
    by_cases hk : k = n
    · subst hk; simp [h]
    · simp [hk]
  | some a =>
    rw [nth_setNth]
    by_cases hk : k = n
    · subst hk; simp [h]
    · simp [hk]

theorem Entry.setCopy_value {α : Type} (e : Entry α) (c : CopyName) (x : StoredCopy α) :
    (e.setCopy c x).value = e.value := by
  cases c <;> rfl

theorem Entry.beginWrite_value {α : Type} (e : Entry α) (v : α) (b : Bool) (free : BitVec 8) :
    (e.beginWrite v b free).value = e.value := Entry.setCopy_value _ _ _

theorem Entry.commit_value {α : Type} (e : Entry α) (v : α) (b : Bool) : (e.commit v b).value = v :=
  rfl

/-- A store operation on one entry that keeps the values in effect keeps every opening entry. -/
theorem Store.onEntry_opening (st : Store) (ev : EntryValue)
    (f : (α : Type) → α → Entry α → Entry α) (hf : ∀ α v (e : Entry α), (f α v e).value = e.value)
    (n : Nat) : (st.onEntry ev f).opening n = st.opening n := by
  cases ev with
  | opening m v =>
    simp only [Store.opening, Store.onEntry, nth_modifyNth]
    by_cases hn : n = m
    · rw [if_pos hn]
      cases nth st.openings n with
      | none => rfl
      | some e => exact hf _ _ e
    · rw [if_neg hn]
  | _ => rfl

theorem Store.onEntry_movement (st : Store) (ev : EntryValue)
    (f : (α : Type) → α → Entry α → Entry α) (hf : ∀ α v (e : Entry α), (f α v e).value = e.value) :
    (st.onEntry ev f).movement.value = st.movement.value := by
  cases ev with
  | movement v => exact hf _ _ _
  | _ => rfl

theorem Store.begin_opening (st : Store) (w : EntryWrite) (n : Nat) :
    (st.begin w).opening n = st.opening n :=
  Store.onEntry_opening st w.entry _ (fun _ _ _ => Entry.beginWrite_value _ _ _ _) n

theorem Store.begin_movement (st : Store) (w : EntryWrite) :
    (st.begin w).movement.value = st.movement.value :=
  Store.onEntry_movement st w.entry _ fun _ _ _ => Entry.beginWrite_value _ _ _ _

/-- A completed write of an opening's entry makes its value the one in effect, where there is one. -/
theorem Store.commit_opening_self (st : Store) (n : Nat) (v : OpeningEntry) :
    (st.commit (.opening n v)).opening n = v ∨
      (st.commit (.opening n v)).opening n = st.opening n := by
  change (match nth (modifyNth st.openings n _) n with
    | some e => e.value
    | none => .factory) = v ∨ (match nth (modifyNth st.openings n _) n with
    | some e => e.value
    | none => .factory) = _
  rw [nth_modifyNth, if_pos rfl]
  unfold Store.opening
  cases nth st.openings n with
  | none => exact .inr rfl
  | some e => exact .inl (Entry.commit_value _ _ _)

theorem Store.commit_opening_ne (st : Store) (ev : EntryValue) (n : Nat)
    (h : ∀ v, ev ≠ .opening n v) : (st.commit ev).opening n = st.opening n := by
  cases ev with
  | opening m v =>
    have hn : n ≠ m := by
      rintro rfl
      exact h v rfl
    change (match nth (modifyNth st.openings m _) n with
      | some e => e.value
      | none => .factory) = _
    rw [nth_modifyNth, if_neg hn]
    rfl
  | _ => rfl

theorem Store.commit_movement (st : Store) (ev : EntryValue) :
    (∃ v, ev = .movement v ∧ (st.commit ev).movement.value = v) ∨
      (st.commit ev).movement.value = st.movement.value ∧ ∀ v, ev ≠ .movement v := by
  cases ev with
  | movement v => exact .inl ⟨v, rfl, rfl⟩
  | _ => exact .inr ⟨rfl, fun v hv => by cases hv⟩

theorem Store.enabled_congr {st st' : Store} {n : Nat} (h : st'.opening n = st.opening n) :
    st'.enabled n = st.enabled n := by
  unfold Store.enabled
  rw [h]

/-! ### The values a reset finds are valid -/

theorem OpeningEntry.factory_valid : OpeningEntry.factory.valid = true := by decide

theorem MovementBlock.factory_valid : MovementBlock.factory.valid = true := by decide

theorem Entry.load_valid {α : Type} {valid : α → Bool} {factory : α} (hf : valid factory = true)
    (e : Entry α) : valid (e.load valid factory).value = true := by
  unfold Entry.load
  split
  · next ha hb =>
    rw [Bool.and_eq_true] at ha hb
    split
    · exact hb.2
    · exact ha.2
  · next ha _ =>
    rw [Bool.and_eq_true] at ha
    exact ha.2
  · next _ hb =>
    rw [Bool.and_eq_true] at hb
    exact hb.2
  · exact hf

theorem Store.checkSupervisors_openings (st : Store) :
    st.checkSupervisors.openings = st.openings ∧ st.checkSupervisors.movement = st.movement := by
  unfold Store.checkSupervisors
  split <;> exact ⟨rfl, rfl⟩

theorem Store.atReset_openings (st : Store) (spareWritten : Bool) :
    (st.atReset spareWritten).openings =
      (st.interrupted spareWritten).openings.map (Entry.load OpeningEntry.valid .factory) :=
  (Store.checkSupervisors_openings _).1

theorem Store.atReset_movement (st : Store) (spareWritten : Bool) :
    (st.atReset spareWritten).movement =
      (st.interrupted spareWritten).movement.load MovementBlock.valid .factory :=
  (Store.checkSupervisors_openings _).2

theorem Store.atReset_opening_valid (st : Store) (spareWritten : Bool) (n : Nat) :
    ((st.atReset spareWritten).opening n).valid = true := by
  unfold Store.opening
  rw [Store.atReset_openings, nth_map]
  cases nth (st.interrupted spareWritten).openings n with
  | none => exact OpeningEntry.factory_valid
  | some e => exact Entry.load_valid OpeningEntry.factory_valid e

/-! ### Valid entries are kept -/

theorem entriesValid_of_values (ho : ∀ n, t.store.opening n = s.store.opening n)
    (hm : t.store.movement.value = s.store.movement.value)
    (hw : ∀ w, t.store.writing = some w → s.store.writing = some w ∨ w.entry.valid = true)
    (hs : entriesValid s) : entriesValid t := by
  obtain ⟨hopen, hmove, hwrite⟩ := hs
  refine ⟨fun n => ho n ▸ hopen n, hm ▸ hmove, fun w h => ?_⟩
  rcases hw w h with h | h
  · exact hwrite w h
  · exact h

theorem entriesValid_of_store (h : t.store = s.store) (hs : entriesValid s) : entriesValid t := by
  unfold entriesValid
  rwa [h]

theorem entriesValid_of_frame {bs : List Block} (h : sameOutside bs s t) (hb : .store ∉ bs)
    (hs : entriesValid s) : entriesValid t := entriesValid_of_store (h .store hb) hs

theorem commit_entriesValid {ev : EntryValue} (hev : ev.valid = true) (hs : entriesValid s) :
    entriesValid (s.setStore (s.store.commit ev)) := by
  obtain ⟨hopen, hmove, -⟩ := hs
  refine ⟨fun n => ?_, ?_, fun w hw => nomatch hw⟩
  · by_cases h : ∃ v, ev = .opening n v
    · obtain ⟨v, rfl⟩ := h
      rcases s.store.commit_opening_self n v with h | h
      · exact (congrArg OpeningEntry.valid h).trans hev
      · exact (congrArg OpeningEntry.valid h).trans (hopen n)
    · exact (congrArg OpeningEntry.valid
        (s.store.commit_opening_ne ev n fun v hv => h ⟨v, hv⟩)).trans (hopen n)
  · rcases s.store.commit_movement ev with ⟨v, rfl, hv⟩ | ⟨hv, -⟩
    · exact (congrArg MovementBlock.valid hv).trans hev
    · exact (congrArg MovementBlock.valid hv).trans hmove

theorem requestConfigure_entriesValid (m : Nat) (kind index : Byte) (v : List Byte)
    (hs : entriesValid s) : entriesValid (s.requestConfigure m kind index v).1 := by
  unfold State.requestConfigure
  split
  · split
    · next ev _ =>
      split
      · next hok =>
        rw [Bool.and_eq_true] at hok
        split
        · exact hs
        · exact hs
        · split
          · exact hs
          · refine entriesValid_of_values (Store.begin_opening _ _) (Store.begin_movement _ _) ?_ hs
            intro w hw
            cases hw
            exact .inr hok.1
      · exact hs
    · exact hs
  · exact hs

theorem takeConfigure_entriesValid (m : Nat) (kind index : Byte) (v : List Byte)
    (hs : entriesValid s) : entriesValid (s.takeConfigure m kind index v) := by
  have asked := requestConfigure_entriesValid m kind index v hs
  unfold State.takeConfigure
  dsimp only
  split
  · exact entriesValid_of_frame (respond_frame _ _ _ _) (by simp) asked
  · exact entriesValid_of_frame (dropHeld_frame _) (by simp) asked

theorem abandon_entriesValid (hs : entriesValid s) :
    entriesValid (s.setStore s.store.abandon) := by
  obtain ⟨hopen, hmove, -⟩ := hs
  exact ⟨hopen, hmove, fun w hw => nomatch hw⟩

theorem completeWrite_entriesValid {w : EntryWrite} (left : Nat) (hw : s.store.writing = some w)
    (hs : entriesValid s) : entriesValid (s.completeWrite w left) := by
  unfold State.completeWrite
  split
  · exact entriesValid_of_frame (writeAnswered_frame _ _ _ _) (by simp) (abandon_entriesValid hs)
  · exact entriesValid_of_frame (writeAnswered_frame _ _ _ _) (by simp)
      (entriesValid_of_frame (writeTold_frame _ _ _ _) (by simp)
        (commit_entriesValid (hs.2.2 w hw) hs))

theorem failWrite_entriesValid (w : EntryWrite) (hs : entriesValid s) :
    entriesValid (s.failWrite w) :=
  entriesValid_of_frame (writeAnswered_frame _ _ _ _) (by simp)
    (entriesValid_of_frame (report_frame _ _ _ _) (by simp) (abandon_entriesValid hs))

theorem resetFrom_entriesValid (s : State) (cause : ResetCause) (spareWritten : Bool) (v : Int) :
    entriesValid (s.resetFrom cause spareWritten v) := by
  refine ⟨Store.atReset_opening_valid _ _, ?_, fun w hw => ?_⟩
  · change (s.store.atReset spareWritten).movement.value.valid = true
    rw [Store.atReset_movement]
    exact Entry.load_valid MovementBlock.factory_valid _
  · change (s.store.atReset spareWritten).writing = some w at hw
    rw [Store.atReset_writing] at hw
    cases hw

theorem exec_entriesValid (c : Instr) (hc : c ≠ .frameTaken) (hs : entriesValid s)
    (h : exec c s = .next t) : entriesValid t := by
  by_cases hb : Block.store ∈ touchedBy c
  · cases c with
    | powerOnReset w v => cases h; exact resetFrom_entriesValid _ _ _ _
    | restartTaken w v =>
      change execRestartTaken w v s = _ at h
      unfold execRestartTaken at h
      split at h <;> cases h
      · exact resetFrom_entriesValid _ _ _ _
      · exact hs
    | frameTaken => exact absurd rfl hc
    | writeComplete left =>
      change execWriteComplete s left = _ at h
      unfold execWriteComplete at h
      split at h
      · next w hw =>
        cases h
        exact completeWrite_entriesValid left hw hs
      · cases h; exact hs
    | writeFail =>
      change execWriteFail s = _ at h
      unfold execWriteFail at h
      split at h <;> cases h
      · exact failWrite_entriesValid _ hs
      · exact hs
    | configure m kind index v =>
      rcases eq_or_eq_of_request h with rfl | rfl
      · exact hs
      · exact takeConfigure_entriesValid m kind index v hs
    | _ => simp [touchedBy] at hb
  · exact entriesValid_of_store (exec_agrees hc h hb) hs

/-! ### Quantisation -/

theorem OpeningEntry.valid_step {e : OpeningEntry} (h : e.valid = true) :
    1 ≤ e.step ∧ e.limit % e.step = 0 ∧ e.rest % e.step = 0 ∧ e.rest ≤ e.limit := by
  simp only [OpeningEntry.valid, Bool.and_eq_true, decide_eq_true_eq, beq_iff_eq] at h
  omega

theorem quantise_mod (e : OpeningEntry) (x : Nat) : quantise e x % e.step = 0 := by
  unfold quantise
  dsimp only
  split
  · rw [← Nat.mul_sub_one]
    exact Nat.mul_mod_right _ _
  · exact Nat.mul_mod_right _ _

theorem quantise_le {e : OpeningEntry} {x : Nat} (hx : x ≤ e.limit) : quantise e x ≤ e.limit := by
  have hq := Nat.mul_div_le (x + e.step / 2) e.step
  unfold quantise
  dsimp only
  split <;> omega

/-! ### Results -/

/-- The law of `targetsInRange`, of one opening. -/
def resultInRange (s : State) (n : Nat) : Prop :=
  ∀ r, s.result n = some r →
    s.store.enabled n = true ∧ r.target % (s.store.opening n).step = 0 ∧
      r.target ≤ (s.store.opening n).limit ∧
      ∀ f, r.frozen = some f →
        f % (s.store.opening n).step = 0 ∧ f ≤ (s.store.opening n).limit

theorem targetsInRange_iff (s : State) : targetsInRange s ↔ ∀ n, resultInRange s n := Iff.rfl

theorem resultInRange_congr {n : Nat} (hr : t.result n = s.result n)
    (ho : t.store.opening n = s.store.opening n) (hs : resultInRange s n) : resultInRange t n := by
  unfold resultInRange
  rwa [hr, ho, Store.enabled_congr ho]

theorem resultInRange_of_none {n : Nat} (h : s.result n = none) : resultInRange s n := by
  intro r hr
  rw [h] at hr
  cases hr

theorem result_of_frame {bs : List Block} (h : sameOutside bs s t) (hb : .results ∉ bs) (n : Nat) :
    t.result n = s.result n := by
  unfold State.result
  rw [show t.results = s.results from h .results hb]

theorem resultInRange_of_frame {bs : List Block} (h : sameOutside bs s t) (hr : .results ∉ bs)
    (hst : .store ∉ bs) {n : Nat} (hs : resultInRange s n) : resultInRange t n :=
  resultInRange_congr (result_of_frame h hr n)
    (by rw [show t.store = s.store from h .store hst]) hs

theorem nthSome_setNth {α : Type} (l : List (Option α)) (n k : Nat) (a : Option α) :
    nthSome (setNth l n a) k = nthSome l k ∨ (k = n ∧ nthSome (setNth l n a) k = a) := by
  by_cases hk : k = n
  · subst hk
    cases hl : nth l k with
    | none =>
      left
      simp [nthSome, nth_setNth, hl]
    | some b => exact .inr ⟨rfl, nthSome_setNth_self l k a b hl⟩
  · exact .inl (nthSome_setNth_ne l n k a hk)

theorem nthSome_setNth_none {α : Type} (l : List (Option α)) (n : Nat) :
    nthSome (setNth l n none) n = none := by
  cases hl : nth l n with
  | none => simp [nthSome, nth_setNth, hl]
  | some b => exact nthSome_setNth_self l n none b hl

theorem freeze_eq_quantise (s : State) (n previous : Nat) :
    ∃ x ≤ (s.store.opening n).limit, s.freeze n previous = quantise (s.store.opening n) x := by
  unfold State.freeze
  dsimp only
  split
  · split <;> exact ⟨_, min_le_right _ _, rfl⟩
  · exact ⟨_, min_le_right _ _, rfl⟩

theorem frozenFor_eq_quantise (s : State) (n : Nat) :
    ∃ x ≤ (s.store.opening n).limit, s.frozenFor n = quantise (s.store.opening n) x := by
  unfold State.frozenFor
  dsimp only
  split
  · split
    · split
      · exact freeze_eq_quantise s n _
      · exact ⟨_, min_le_right _ _, rfl⟩
    · exact freeze_eq_quantise s n _
  · exact freeze_eq_quantise s n _

theorem boundedBy_le (a : Nat) (bounds : List (CapReason × Nat)) :
    boundedBy a bounds ≤ a ∧ ∀ b ∈ bounds, boundedBy a bounds ≤ b.2 := by
  unfold boundedBy
  induction bounds generalizing a with
  | nil => exact ⟨Nat.le_refl _, fun b hb => nomatch hb⟩
  | cons b bs ih =>
    obtain ⟨hle, hall⟩ := ih (min a b.2)
    refine ⟨hle.trans (min_le_left _ _), fun x hx => ?_⟩
    rcases List.mem_cons.mp hx with rfl | hx
    · exact hle.trans (min_le_right _ _)
    · exact hall x hx

theorem bound_le (s : State) (n : Nat) (cls : Option DemandClass) (a : Nat) (windward : Bool)
    (p : Profile) (previous : Option Nat) :
    (s.bound n cls a windward p previous).1 ≤ (s.store.opening n).limit := by
  unfold State.bound
  dsimp only
  split
  · exact min_le_right _ _
  · split
    · exact Nat.zero_le _
    · exact min_le_right _ _
  · refine (boundedBy_le a _).2 (CapReason.limit, _) ?_
    simp [State.comfortBounds]

theorem computeResult_inRange (s : State) (n : Nat) :
    (s.computeResult n).target % (s.store.opening n).step = 0 ∧
      (s.computeResult n).target ≤ (s.store.opening n).limit ∧
      ∀ f, (s.computeResult n).frozen = some f →
        f % (s.store.opening n).step = 0 ∧ f ≤ (s.store.opening n).limit := by
  unfold State.computeResult
  dsimp only
  split
  · obtain ⟨x, hx, hq⟩ := frozenFor_eq_quantise s n
    rw [hq]
    refine ⟨quantise_mod _ _, quantise_le hx, ?_⟩
    rintro f ⟨⟩
    exact ⟨quantise_mod _ _, quantise_le hx⟩
  · refine ⟨quantise_mod _ _, quantise_le (bound_le _ _ _ _ _ _ _), ?_⟩
    rintro f ⟨⟩

/-- A recomputation stores the result computed, where the opening is enabled, and no other. -/
theorem recomputeOne_result (s : State) (n k : Nat) :
    (s.recomputeOne n).result k = s.result k ∨
      (k = n ∧ s.store.enabled n = true ∧ (s.recomputeOne n).result k = some (s.computeResult n)) := by
  unfold State.recomputeOne
  split
  · next hn =>
    have told : ∀ (u : State) old r, ((u.tellResult n old r).freezeTaken n).results = u.results :=
      fun u old r => (tellResult_frame u n old r) .results (by simp)
    simp only [State.result, told]
    rcases nthSome_setNth s.results n k (some (s.computeResult n)) with h | ⟨hk, h⟩
    · exact .inl h
    · exact .inr ⟨hk, hn, h⟩
  · exact .inl rfl

theorem recomputeOne_inRange {n k : Nat}
    (h : resultInRange s k ∨ (k = n ∧ s.store.enabled k = true)) :
    resultInRange (s.recomputeOne n) k := by
  have hst : (s.recomputeOne n).store = s.store := recomputeOne_frame s n .store (by simp)
  rcases recomputeOne_result s n k with hr | ⟨hk, hn, hr⟩
  · rcases h with h | ⟨hk, hn⟩
    · exact resultInRange_congr hr (by rw [hst]) h
    · subst hk
      by_cases hlen : s.result k = none
      · exact resultInRange_of_none (hr.trans hlen)
      · intro r hr'
        have written : (s.recomputeOne k).result k = some (s.computeResult k) := by
          obtain ⟨old, hold⟩ := Option.ne_none_iff_exists'.mp hlen
          unfold State.recomputeOne
          rw [if_pos hn]
          have told : ∀ (u : State) old r,
              ((u.tellResult k old r).freezeTaken k).results = u.results :=
            fun u old r => (tellResult_frame u k old r) .results (by simp)
          simp only [State.result, told]
          exact nthSome_setNth_self _ _ _ _ (nth_of_nthSome hold)
        rw [written] at hr'
        cases hr'
        rw [hst]
        exact ⟨hn, computeResult_inRange s k⟩
  · subst hk
    intro r hr'
    rw [hr] at hr'
    cases hr'
    rw [hst]
    exact ⟨hn, computeResult_inRange s k⟩

theorem foldl_recomputeOne_inRange {k : Nat} (ns : List Nat)
    (h : resultInRange s k ∨ (k ∈ ns ∧ s.store.enabled k = true)) :
    resultInRange (ns.foldl State.recomputeOne s) k := by
  induction ns generalizing s with
  | nil =>
    rcases h with h | ⟨hk, -⟩
    · exact h
    · cases hk
  | cons n ns ih =>
    have hst : (s.recomputeOne n).store = s.store := recomputeOne_frame s n .store (by simp)
    refine ih ?_
    rcases h with h | ⟨hk, hen⟩
    · exact .inl (recomputeOne_inRange (.inl h))
    · rcases List.mem_cons.mp hk with rfl | hk
      · exact .inl (recomputeOne_inRange (.inr ⟨rfl, hen⟩))
      · exact .inr ⟨hk, by rwa [hst]⟩

theorem recompute_inRange {k : Nat} (ns : List Nat)
    (h : resultInRange s k ∨ (k ∈ ns ∧ s.store.enabled k = true)) :
    resultInRange (s.recompute ns) k :=
  resultInRange_of_frame (judgeWeatherClose_frame _ _) (by simp) (by simp)
    (foldl_recomputeOne_inRange ns h)

theorem recompute_targetsInRange (ns : List Nat) (h : targetsInRange s) :
    targetsInRange (s.recompute ns) := fun k => recompute_inRange ns (.inl (h k))

theorem targetsInRange_of_frame {bs : List Block} (h : sameOutside bs s t) (hr : .results ∉ bs)
    (hst : .store ∉ bs) (hs : targetsInRange s) : targetsInRange t := fun n =>
  resultInRange_of_frame h hr hst (hs n)

theorem weatherEvent_targetsInRange (w : Weather) (h : targetsInRange s) :
    targetsInRange (s.weatherEvent w) := by
  have taken : targetsInRange
      ((((s.setWeather w).tellWeather (s.weather.told w)).reportWeather s).takeSupply s) :=
    targetsInRange_of_frame (takeSupply_frame _ _) (by simp) (by simp)
      (targetsInRange_of_frame (report_frame _ _ _ _) (by simp) (by simp) h)
  unfold State.weatherEvent State.takeDirection
  split
  · exact taken
  · exact recompute_targetsInRange _ taken

/-! ### Results when a write takes effect -/

theorem openingEnabled_inRange {n k : Nat} (h : resultInRange s k) :
    resultInRange (s.openingEnabled n) k :=
  recompute_inRange [n] (.inl (resultInRange_of_frame (endMoveEvent_frame _ _) (by simp) (by simp) h))

theorem openingDisabled_inRange {n k : Nat} (h : k ≠ n → resultInRange s k) :
    resultInRange (s.openingDisabled n) k := by
  have cleared : resultInRange (s.setResults (setNth s.results n none)) k := by
    by_cases hk : k = n
    · subst hk
      exact resultInRange_of_none (nthSome_setNth_none s.results k)
    · exact resultInRange_congr (nthSome_setNth_ne s.results n k none hk) rfl (h hk)
  have judged := resultInRange_of_frame
    (judgeWeatherClose_frame (s.setResults (setNth s.results n none)) s) (by simp) (by simp) cleared
  exact resultInRange_of_frame (endBusEvent_frame _ _) (by simp) (by simp)
    (resultInRange_of_frame (setBus_frame _ _) (by simp) (by simp)
      (resultInRange_of_frame (endMoveEvent_frame _ _) (by simp) (by simp) judged))

/-- A write of an opening's entry leaves its result in range where it is recomputed or gone. -/
theorem openingWritten_inRange {n k : Nat} {old new : OpeningEntry}
    (hne : k ≠ n → resultInRange s k)
    (hself : old.enabled = false → resultInRange s n)
    (hboth : old.enabled = true → new.enabled = true →
      resultInRange s n ∨ s.store.enabled n = true) :
    resultInRange (s.openingWritten n old new) k := by
  unfold State.openingWritten
  refine resultInRange_of_frame (evalLampsOf_frame _ _) (by simp) (by simp) ?_
  have here : old.enabled = false → resultInRange s k := fun ho => by
    by_cases hk : k = n
    · subst hk; exact hself ho
    · exact hne hk
  split
  · next ho _ => exact openingEnabled_inRange (here ho)
  · exact openingDisabled_inRange hne
  · next ho hn =>
    refine resultInRange_of_frame (entryJudged_frame _ _) (by simp) (by simp) (recompute_inRange [n] ?_)
    by_cases hk : k = n
    · subst hk
      rcases hboth ho hn with h | h
      · exact .inl h
      · exact .inr ⟨List.mem_singleton.mpr rfl, h⟩
    · exact .inl (hne hk)
  · next ho _ => exact resultInRange_of_frame (endMoveEvent_frame _ _) (by simp) (by simp) (here ho)

theorem weatherWritten_targetsInRange (before : State) (old new : WeatherBlock)
    (h : targetsInRange s) : targetsInRange (s.weatherWritten before old new) :=
  recompute_targetsInRange _
    (targetsInRange_of_frame (takeSupply_frame _ _) (by simp) (by simp)
      (targetsInRange_of_frame (report_frame _ _ _ _) (by simp) (by simp) h))

theorem committed_inRange {ev : EntryValue} {k : Nat} (hk : ∀ v, ev ≠ .opening k v)
    (hs : resultInRange s k) : resultInRange (s.setStore (s.store.commit ev)) k :=
  resultInRange_congr (s := s) (t := s.setStore (s.store.commit ev)) rfl
    (s.store.commit_opening_ne ev k hk) hs

theorem committed_openingWritten_inRange (n : Nat) (v : OpeningEntry) (hs : targetsInRange s) :
    targetsInRange
      ((s.setStore (s.store.commit (.opening n v))).openingWritten n (s.store.opening n) v) := by
  have off : (s.store.opening n).enabled = false → s.result n = none := fun ho => by
    by_contra hne
    obtain ⟨r, hr⟩ := Option.ne_none_iff_exists'.mp hne
    have hen := (hs n r hr).1
    simp [Store.enabled, ho] at hen
  intro k
  refine openingWritten_inRange (fun hk => committed_inRange ?_ (hs k)) (fun ho => ?_) fun ho hn => ?_
  · rintro w ⟨⟩
    exact hk rfl
  · exact resultInRange_of_none (off ho)
  · by_cases hop : isOpening n = true
    · right
      change (isOpening n && ((s.store.commit (.opening n v)).opening n).enabled) = true
      rcases s.store.commit_opening_self n v with h | h <;> rw [h, hop]
      · exact hn
      · exact ho
    · left
      refine resultInRange_of_none ?_
      by_contra hne
      obtain ⟨r, hr⟩ := Option.ne_none_iff_exists'.mp hne
      have hen := (hs n r hr).1
      simp [Store.enabled, hop] at hen

theorem writeTold_targetsInRange (s : State) (left : Nat) (ev : EntryValue) (hs : targetsInRange s) :
    targetsInRange ((s.setStore (s.store.commit ev)).writeTold s left ev) := by
  have kept : (∀ n v, ev ≠ .opening n v) → targetsInRange (s.setStore (s.store.commit ev)) :=
    fun h k => committed_inRange (h k) (hs k)
  have of_frame : ∀ {bs : List Block} {u : State}, (∀ n v, ev ≠ .opening n v) →
      sameOutside bs (s.setStore (s.store.commit ev)) u → Block.results ∉ bs → Block.store ∉ bs →
      targetsInRange u := fun h hf hr hst => targetsInRange_of_frame hf hr hst (kept h)
  cases ev with
  | opening n v => exact committed_openingWritten_inRange n v hs
  | group g l =>
    exact of_frame (fun _ _ h => nomatch h) (sameOutside.foldl _ cancelStation_frame _ _)
      (by simp) (by simp)
  | zone z v => exact of_frame (fun _ _ h => nomatch h) (zoneWritten_frame _ z v left) (by simp) (by simp)
  | scenario z l => exact kept fun _ _ h => nomatch h
  | station n v => exact of_frame (fun _ _ h => nomatch h) (cancelStation_frame _ n) (by simp) (by simp)
  | supervisor m v => exact kept fun _ _ h => nomatch h
  | weather v => exact weatherWritten_targetsInRange _ _ _ (kept fun _ _ h => nomatch h)
  | movement v => exact of_frame (fun _ _ h => nomatch h) (endMoveEvent_frame _ _) (by simp) (by simp)

theorem completeWrite_targetsInRange (w : EntryWrite) (left : Nat) (hs : targetsInRange s) :
    targetsInRange (s.completeWrite w left) := by
  unfold State.completeWrite
  split
  · exact targetsInRange_of_frame (writeAnswered_frame _ _ _ _) (by simp) (by simp)
      (show targetsInRange (s.setStore s.store.abandon) from hs)
  · exact targetsInRange_of_frame (writeAnswered_frame _ _ _ _) (by simp) (by simp)
      (writeTold_targetsInRange s left w.entry hs)

/-! ### Results after a reset -/

theorem perOpening_eq_some {α : Type} {st : Store} {a : OpeningEntry → α} {n : Nat} {x : α}
    (h : nthSome (st.perOpening a) n = some x) : st.enabled n = true ∧ x = a (st.opening n) := by
  have hn := nth_of_nthSome h
  unfold Store.perOpening at hn
  rw [nth_map] at hn
  cases hk : nth openingNumbers n with
  | none => rw [hk] at hn; cases hn
  | some k =>
    rw [hk] at hn
    have hkn : k = n := by
      cases n with
      | zero => cases hk
      | succ j =>
        simp only [nth, openingNumbers, numbers, Config.openingCount] at hk
        rw [List.getElem?_eq_some_iff] at hk
        obtain ⟨hj, hk⟩ := hk
        rw [List.getElem_range'] at hk
        omega
    subst hkn
    simp only [Option.map_some, Option.some.injEq] at hn
    split at hn
    · next hen => exact ⟨hen, (Option.some.inj hn).symm⟩
    · cases hn

theorem resetFrom_targetsInRange (s : State) (cause : ResetCause) (spareWritten : Bool) (v : Int) :
    targetsInRange (s.resetFrom cause spareWritten v) := by
  intro n r hr
  obtain ⟨hen, rfl⟩ := perOpening_eq_some hr
  obtain ⟨-, -, hrest, hle⟩ :=
    OpeningEntry.valid_step (Store.atReset_opening_valid s.store spareWritten n)
  refine ⟨hen, hrest, hle, ?_⟩
  rintro f ⟨⟩

/-! ### Every command keeps the targets in range -/

theorem requestPlace_targetsInRange (m : Nat) (f : PlaceFields) (hs : targetsInRange s) :
    targetsInRange (s.requestPlace m f).1 := by
  unfold State.requestPlace
  split
  · split
    · split
      · exact hs
      · split
        · next x hx =>
          unfold State.carryOutPlace at hx
          dsimp only at hx
          split at hx <;> cases hx
          exact recompute_targetsInRange _
            (targetsInRange_of_frame (endOperation_frame _ _ _) (by simp) (by simp) hs)
        · exact hs
    · exact hs
  · exact hs

theorem requestAdjust_targetsInRange (m : Nat) (slot gen : Byte) (delta : Word16)
    (hs : targetsInRange s) : targetsInRange (s.requestAdjust m slot gen delta).1 := by
  unfold State.requestAdjust
  dsimp only
  split
  · exact hs
  · split
    · split
      · exact recompute_targetsInRange _
          (targetsInRange_of_frame (endOperation_frame _ _ _) (by simp) (by simp) hs)
      · exact hs
    · exact hs

theorem requestConfigure_targetsInRange (m : Nat) (kind index : Byte) (v : List Byte)
    (hs : targetsInRange s) : targetsInRange (s.requestConfigure m kind index v).1 := by
  unfold State.requestConfigure
  split
  · split
    · split
      · split
        · exact hs
        · exact hs
        · split
          · exact hs
          · exact fun n => resultInRange_congr (s := s) rfl (Store.begin_opening _ _ n) (hs n)
      · exact hs
    · exact hs
  · exact hs

theorem takeConfigure_targetsInRange (m : Nat) (kind index : Byte) (v : List Byte)
    (hs : targetsInRange s) : targetsInRange (s.takeConfigure m kind index v) := by
  have asked := requestConfigure_targetsInRange m kind index v hs
  unfold State.takeConfigure
  dsimp only
  split
  · exact targetsInRange_of_frame (respond_frame _ _ _ _) (by simp) (by simp) asked
  · exact targetsInRange_of_frame (dropHeld_frame _) (by simp) (by simp) asked

theorem exec_targetsInRange (c : Instr) (hc : c ≠ .frameTaken) (hs : targetsInRange s)
    (h : exec c s = .next t) : targetsInRange t := by
  by_cases hb : Block.store ∈ touchedBy c ∨ Block.results ∈ touchedBy c
  · cases c with
    | powerOnReset w v => cases h; exact resetFrom_targetsInRange _ _ _ _
    | restartTaken w v =>
      change execRestartTaken w v s = _ at h
      unfold execRestartTaken at h
      split at h <;> cases h
      · exact resetFrom_targetsInRange _ _ _ _
      · exact hs
    | frameTaken => exact absurd rfl hc
    | writeComplete left =>
      change execWriteComplete s left = _ at h
      unfold execWriteComplete at h
      split at h <;> cases h
      · exact completeWrite_targetsInRange _ left hs
      · exact hs
    | writeFail =>
      change execWriteFail s = _ at h
      unfold execWriteFail at h
      split at h <;> cases h
      · exact targetsInRange_of_frame (writeAnswered_frame _ _ _ _) (by simp) (by simp)
          (targetsInRange_of_frame (report_frame _ _ _ _) (by simp) (by simp)
            (show targetsInRange (s.setStore s.store.abandon) from hs))
      · exact hs
    | configure m kind index v =>
      rcases eq_or_eq_of_request h with rfl | rfl
      · exact hs
      · exact takeConfigure_targetsInRange m kind index v hs
    | place m f =>
      rcases eq_or_eq_of_request h with rfl | rfl
      · exact hs
      · exact targetsInRange_of_frame (respond_frame _ _ _ _) (by simp) (by simp)
          (requestPlace_targetsInRange m f hs)
    | adjust m slot gen delta =>
      rcases eq_or_eq_of_request h with rfl | rfl
      · exact hs
      · exact targetsInRange_of_frame (respond_frame _ _ _ _) (by simp) (by simp)
          (requestAdjust_targetsInRange m slot gen delta hs)
    | resolverRecompute teller =>
      change execResolverRecompute teller s = _ at h
      unfold execResolverRecompute at h
      split at h <;> split at h <;> cases h
      · exact recompute_targetsInRange _ (show targetsInRange (s.setMail _) from hs)
      · exact hs
      · exact recompute_targetsInRange _ (show targetsInRange (s.setMail _) from hs)
      · exact hs
    | gateEnd => cases h; exact weatherEvent_targetsInRange _ hs
    | vaneReading r =>
      change execVaneReading r s = _ at h
      unfold execVaneReading at h
      split at h <;> cases h
      · exact weatherEvent_targetsInRange _ hs
      · exact hs
    | dwellReached =>
      change execDwellReached s = _ at h
      unfold execDwellReached at h
      split at h
      · split at h <;> cases h
        · exact weatherEvent_targetsInRange _ hs
        · exact hs
      · cases h; exact hs
    | _ => simp [touchedBy] at hb
  · rw [not_or] at hb
    have hst : t.store = s.store := exec_agrees hc h hb.1
    have hr : t.results = s.results := exec_agrees hc h hb.2
    exact fun n => resultInRange_congr (by rw [State.result, hr]; rfl) (by rw [hst]) (hs n)

/-! ### Units that exist -/

theorem next_of_ite {p : Prop} [Decidable p] (a b : State) :
    ∃ t, (if p then .next a else .next b : Host.Outcome State Fault Refusal) = .next t := by
  split <;> exact ⟨_, rfl⟩

theorem next_of_request {m : Nat} (hm : isSupervisor m = true) (a b : State) :
    ∃ t, (if isSupervisor m then .next a else .next b : Host.Outcome State Fault Refusal) = .next t :=
  ⟨a, if_pos hm⟩

theorem exec_next_of_wellFormed (c : Instr) (s : State) (h : c.wellFormed = true) :
    ∃ t, exec c s = .next t := by
  cases c with
  | place m f => exact next_of_request h _ _
  | adjust m slot gen delta => exact next_of_request h _ _
  | retire m slot gen => exact next_of_request h _ _
  | probe m f => exact next_of_request h _ _
  | listRecords m f => exact next_of_request h _ _
  | readRecord m slot gen => exact next_of_request h _ _
  | readOpening m n => exact next_of_request h _ _
  | readGroup m g => exact next_of_request h _ _
  | readZone m z => exact next_of_request h _ _
  | readWeather m => exact next_of_request h _ _
  | readConditions m => exact next_of_request h _ _
  | clearConditions m set => exact next_of_request h _ _
  | setMask m set => exact next_of_request h _ _
  | configure m kind index v => exact next_of_request (Bool.and_eq_true _ _ ▸ h).1 _ _
  | readConfig m kind index => exact next_of_request h _ _
  | clearFault m n => exact next_of_request h _ _
  | fireReset m => exact next_of_request h _ _
  | restart m => exact next_of_request h _ _
  | powerOnReset w v => exact ⟨_, rfl⟩
  | frameTaken => exact next_of_ite _ _
  | receiveBufferOverflow => exact next_of_ite _ _
  | discardIdleGap => exact next_of_ite _ _
  | heldResponseSend =>
    change ∃ t, execHeldResponseSend s = .next t
    unfold execHeldResponseSend
    split <;> exact ⟨_, rfl⟩
  | heldResponseDiscard b misframed => exact next_of_ite _ _
  | deferredResponseSend =>
    simp only [exec, execDeferredResponseSend]
    split
    · exact next_of_ite _ _
    · exact ⟨_, rfl⟩
  | transmissionEnd =>
    simp only [exec, execTransmissionEnd]
    split <;> exact ⟨_, rfl⟩
  | restartTaken w v => exact next_of_ite _ _
  | writeComplete left =>
    simp only [exec, execWriteComplete]
    split <;> exact ⟨_, rfl⟩
  | writeFail =>
    simp only [exec, execWriteFail]
    split <;> exact ⟨_, rfl⟩
  | demandTick => exact ⟨_, rfl⟩
  | recordExpired k =>
    simp only [exec, execRecordExpired, if_pos (show isSlot k = true from h)]
    split
    · exact next_of_ite _ _
    · exact ⟨_, rfl⟩
  | recordStarved k =>
    simp only [exec, execRecordStarved, if_pos (show isSlot k = true from h)]
    split
    · exact next_of_ite _ _
    · exact ⟨_, rfl⟩
  | resolverRecompute teller =>
    cases teller <;> simp only [exec, execResolverRecompute] <;> split <;> exact ⟨_, rfl⟩
  | anemometerPulse which => cases which <;> exact ⟨_, rfl⟩
  | anemometerSupervision which inBand => cases which <;> exact ⟨_, rfl⟩
  | gateEnd => exact ⟨_, rfl⟩
  | reopenTimerExpiry p => exact next_of_ite _ _
  | sensorReportStart => exact next_of_ite _ _
  | vaneReading r => exact next_of_ite _ _
  | vaneStale => exact next_of_ite _ _
  | dwellReached =>
    simp only [exec, execDwellReached]
    split
    · exact next_of_ite _ _
    · exact ⟨_, rfl⟩
  | rainSample a => exact next_of_ite _ _
  | wetHoldEnd => exact next_of_ite _ _
  | dryHoldEnd => exact next_of_ite _ _
  | probeReading r => exact next_of_ite _ _
  | probeStale => exact next_of_ite _ _
  | supplySample v => exact ⟨_, rfl⟩
  | zoneLineSample z count => exact ⟨_, if_pos h⟩
  | lineAcceptance z left =>
    simp only [exec, execLineAcceptance, if_pos (show isZone z = true from h)]
    split
    · split <;> exact ⟨_, rfl⟩
    · exact ⟨_, rfl⟩
  | flashTimebase => exact ⟨_, rfl⟩
  | firemanSwitchChange z a b =>
    simp only [exec, execFiremanSwitchChange, if_pos (show isZone z = true from h)]
    split
    · exact next_of_ite _ _
    · exact ⟨_, rfl⟩
  | switchAcceptance z =>
    simp only [exec, execSwitchAcceptance, if_pos (show isZone z = true from h)]
    split
    · exact next_of_ite _ _
    · exact ⟨_, rfl⟩
  | resetKeyChange made => exact next_of_ite _ _
  | resetKeyAcceptance =>
    simp only [exec, execResetKeyAcceptance]
    split
    · exact next_of_ite _ _
    · exact ⟨_, rfl⟩
  | buttonContactChange n b made =>
    simp only [exec, execButtonContactChange, if_pos (show isStation n = true from h)]
    split
    · exact next_of_ite _ _
    · exact ⟨_, rfl⟩
  | buttonAcceptance n b =>
    simp only [exec, execButtonAcceptance, if_pos (show isStation n = true from h)]
    split
    · exact next_of_ite _ _
    · exact ⟨_, rfl⟩
  | holdTimerExpiry n =>
    simp only [exec, execHoldTimerExpiry, if_pos (show isStation n = true from h)]
    split
    · split
      · split <;> exact ⟨_, rfl⟩
      · exact ⟨_, rfl⟩
    · exact ⟨_, rfl⟩
  | targetEvent n =>
    simp only [exec, execTargetEvent, if_pos (show isOpening n = true from h)]
    split <;> exact ⟨_, rfl⟩
  | movementReply n =>
    simp only [exec, execMovementReply, if_pos (show isOpening n = true from h)]
    split <;> exact ⟨_, rfl⟩
  | orderOutcome n =>
    simp only [exec, execOrderOutcome, if_pos (show isOpening n = true from h)]
    split <;> exact ⟨_, rfl⟩
  | nodeLostEvent n =>
    simp only [exec, execNodeLostEvent, if_pos (show isOpening n = true from h)]
    split <;> exact ⟨_, rfl⟩
  | movementTick => exact ⟨_, rfl⟩
  | breakawayEnd n =>
    simp only [exec, execBreakawayEnd, if_pos (show isOpening n = true from h)]
    split
    · exact next_of_ite _ _
    · exact ⟨_, rfl⟩
  | overtime n =>
    simp only [exec, execOvertime, if_pos (show isOpening n = true from h)]
    split
    · exact next_of_ite _ _
    · exact ⟨_, rfl⟩
  | progressWindowEnd n =>
    simp only [exec, execProgressWindowEnd, if_pos (show isOpening n = true from h)]
    split
    · exact next_of_ite _ _
    · exact ⟨_, rfl⟩
  | noStop n =>
    simp only [exec, execNoStop, if_pos (show isOpening n = true from h)]
    split
    · exact next_of_ite _ _
    · exact ⟨_, rfl⟩
  | retryTimerEnd n =>
    simp only [exec, execRetryTimerEnd, if_pos (show isOpening n = true from h)]
    split
    · exact next_of_ite _ _
    · exact ⟨_, rfl⟩
  | startWaitRise n =>
    simp only [exec, execStartWaitRise, if_pos (show isOpening n = true from h)]
    split
    · exact next_of_ite _ _
    · exact ⟨_, rfl⟩
  | slotGrant =>
    simp only [exec, execSlotGrant]
    split <;> exact ⟨_, rfl⟩
  | orderTurn => exact next_of_ite _ _
  | pollTurn => exact next_of_ite _ _
  | replyReceived bytes =>
    simp only [exec, execReplyReceived]
    split
    · split
      · exact ⟨_, rfl⟩
      · split
        · exact ⟨_, rfl⟩
        · split <;> exact ⟨_, rfl⟩
    · exact ⟨_, rfl⟩
  | noReply =>
    simp only [exec, execNoReply]
    split
    · exact next_of_ite _ _
    · exact ⟨_, rfl⟩
  | conditionReport owner =>
    simp only [exec, execConditionReport]
    split <;> exact ⟨_, rfl⟩
  | byteArrives b misframed => exact ⟨_, rfl⟩

/-! ### The state after a power-on reset -/

theorem nth_replicate {α : Type} (k n : Nat) (a b : α) (h : nth (List.replicate k a) n = some b) :
    b = a := by
  cases n with
  | zero => cases h
  | succ j => exact List.eq_of_mem_replicate (List.mem_of_getElem? h)

theorem nthSome_replicate_none {α : Type} (k n : Nat) :
    nthSome (List.replicate k (none : Option α)) n = none := by
  cases h : nthSome (List.replicate k (none : Option α)) n with
  | none => rfl
  | some a => exact nomatch nth_replicate _ _ _ _ (nth_of_nthSome h)

theorem reset_opening (n : Nat) : State.reset.store.opening n = .factory := by
  change (match nth (List.replicate 48 (Entry.blank OpeningEntry.factory)) n with
    | some e => e.value
    | none => .factory) = _
  cases h : nth (List.replicate 48 (Entry.blank OpeningEntry.factory)) n with
  | none => rfl
  | some e => exact congrArg Entry.value (nth_replicate _ _ _ _ h)

theorem reset_moveState (n : Nat) : State.reset.moveState n = none := by
  have h : State.reset.move n = none := nthSome_replicate_none 48 n
  unfold State.moveState
  rw [h]

end Sys2Proof.Machine

namespace Sys2Proof.Proofs

open Sys2Proof.Machine

/-- Settles O57: valid entries and targets in range are each kept by every command. -/
theorem targetsKeptInRange : Obligations.TargetsKeptInRange := by
  intro s t he ht h
  constructor
  · exact step_keeps (fun _ _ hu => hu) (fun _ hu => hu)
      (fun u _ _ _ hu => entriesValid_of_frame (takeMalformed_frame u _ _ _) (by simp) hu)
      (fun c _ _ hc hu h => exec_entriesValid c hc hu h) he h
  · exact step_keeps (fun _ _ hu => hu) (fun _ hu => hu)
      (fun u _ _ _ hu => targetsInRange_of_frame (takeMalformed_frame u _ _ _) (by simp) (by simp) hu)
      (fun c _ _ hc hu h => exec_targetsInRange c hc hu h) ht h

/-- Settles O2: each row that names an existing unit takes the branch that completes, and a numbered
event of no existing unit the other. -/
theorem wellFormedCommandsComplete : Obligations.WellFormedCommandsComplete := by
  refine ⟨exec_next_of_wellFormed, fun n s hn => ?_, fun z s hz => ?_, fun n s hn => ?_,
    fun k s hk => ?_⟩
  · have off : ¬isOpening n = true := by simp [hn]
    exact ⟨if_neg off, if_neg off, if_neg off, if_neg off, if_neg off, if_neg off, if_neg off,
      if_neg off, if_neg off, if_neg off⟩
  · have off : ¬isZone z = true := by simp [hz]
    exact ⟨fun _ => if_neg off, fun _ => if_neg off, fun _ _ => if_neg off, if_neg off⟩
  · have off : ¬isStation n = true := by simp [hn]
    exact ⟨fun _ _ => if_neg off, fun _ => if_neg off, if_neg off⟩
  · have off : ¬isSlot k = true := by simp [hk]
    exact ⟨if_neg off, if_neg off⟩

/-- Settles O60: the reset state has the factory entries, empty tables and nothing under way. -/
theorem lawsHoldAtReset : Obligations.LawsHoldAtReset := by
  refine ⟨Conditions.atReset_attention .powerOn, bufferInBounds_of_empty rfl rfl, deferredSlotFree_of_not_writing rfl,
    DemandTable.empty_handlesLive, ⟨fun n => ?_, MovementBlock.factory_valid, fun w hw => nomatch hw⟩,
    fun n => resultInRange_of_none (nthSome_replicate_none 48 n), ?_, ?_⟩
  · rw [reset_opening]
    exact OpeningEntry.factory_valid
  · have h : State.reset.breakawayOpenings = [] := by
      simp [State.breakawayOpenings, reset_moveState]
    simp [slotsInBudget, h]
  · refine ⟨Nat.zero_le _, ?_, ?_, fun p => ?_⟩
    · rintro v ⟨⟩
    · rintro v ⟨⟩
    · cases p <;> exact ⟨Nat.zero_le _, Nat.zero_le _⟩

end Sys2Proof.Proofs
end


section
/-! PROOFS. The movement controller: what each of its operations does to the record of its opening, what
it leaves of the others, and what the arbiter grants at the end of an event. -/
namespace Sys2Proof.Machine

open Sys2Proof

variable {s t u : State}

/-! ### What an operation on one opening leaves -/

/-- What the evaluation of an opening reads besides its record stands as it was. -/
structure SameReads (s t : State) : Prop where
  store : t.store = s.store
  results : t.results = s.results
  nodes : t.bus.nodes = s.bus.nodes

/-- From `s` to `t` an operation on opening `n` took place: the records and the queued orders of the
other openings stand, and of the mail only outcomes were told. -/
structure ActsOn (n : Nat) (s t : State) : Prop where
  store : t.store = s.store
  results : t.results = s.results
  nodes : t.bus.nodes = s.bus.nodes
  weather : t.weather = s.weather
  mail : t.mail = { s.mail with outcomes := t.mail.outcomes }
  moves : ∀ k, k ≠ n → t.move k = s.move k
  queue : ∀ o : Order, o.opening ≠ n → (o ∈ t.bus.queue ↔ o ∈ s.bus.queue)

/-- From `s` to `t` opening `n` was left alone: its record, its queued order and all it reads stand. -/
structure Spares (n : Nat) (s t : State) : Prop where
  store : t.store = s.store
  results : t.results = s.results
  nodes : t.bus.nodes = s.bus.nodes
  weather : t.weather = s.weather
  mail : t.mail = { s.mail with outcomes := t.mail.outcomes }
  move : t.move n = s.move n
  queue : ∀ o : Order, o.opening = n → (o ∈ t.bus.queue ↔ o ∈ s.bus.queue)

theorem SameReads.refl (s : State) : SameReads s s := ⟨rfl, rfl, rfl⟩

theorem SameReads.symm (h : SameReads s t) : SameReads t s :=
  ⟨h.store.symm, h.results.symm, h.nodes.symm⟩

theorem SameReads.trans (h : SameReads s t) (h' : SameReads t u) : SameReads s u :=
  ⟨h'.store.trans h.store, h'.results.trans h.results, h'.nodes.trans h.nodes⟩

theorem ActsOn.refl (n : Nat) (s : State) : ActsOn n s s :=
  ⟨rfl, rfl, rfl, rfl, rfl, fun _ _ => rfl, fun _ _ => Iff.rfl⟩

theorem ActsOn.trans {n : Nat} (h : ActsOn n s t) (h' : ActsOn n t u) : ActsOn n s u where
  store := h'.store.trans h.store
  results := h'.results.trans h.results
  nodes := h'.nodes.trans h.nodes
  weather := h'.weather.trans h.weather
  mail := by rw [h'.mail, h.mail]
  moves k hk := (h'.moves k hk).trans (h.moves k hk)
  queue o ho := (h'.queue o ho).trans (h.queue o ho)

theorem ActsOn.reads {n : Nat} (h : ActsOn n s t) : SameReads s t := ⟨h.store, h.results, h.nodes⟩

theorem ActsOn.spares {n k : Nat} (h : ActsOn n s t) (hk : k ≠ n) : Spares k s t where
  store := h.store
  results := h.results
  nodes := h.nodes
  weather := h.weather
  mail := h.mail
  move := h.moves k hk
  queue o ho := h.queue o (ho ▸ hk)

theorem Spares.refl (n : Nat) (s : State) : Spares n s s :=
  ⟨rfl, rfl, rfl, rfl, rfl, rfl, fun _ _ => Iff.rfl⟩

theorem Spares.trans {n : Nat} (h : Spares n s t) (h' : Spares n t u) : Spares n s u where
  store := h'.store.trans h.store
  results := h'.results.trans h.results
  nodes := h'.nodes.trans h.nodes
  weather := h'.weather.trans h.weather
  mail := by rw [h'.mail, h.mail]
  move := h'.move.trans h.move
  queue o ho := (h'.queue o ho).trans (h.queue o ho)

theorem Spares.reads {n : Nat} (h : Spares n s t) : SameReads s t := ⟨h.store, h.results, h.nodes⟩

/-- A run of operations on other openings leaves opening `n` alone. -/
theorem Spares.foldl {n : Nat} (f : State → Nat → State) (hf : ∀ u k, ActsOn k u (f u k))
    (ks : List Nat) (s : State) (hn : n ∉ ks) : Spares n s (ks.foldl f s) := by
  induction ks generalizing s with
  | nil => exact .refl _ _
  | cons k ks ih =>
    rw [List.mem_cons, not_or] at hn
    exact ((hf s k).spares hn.1).trans (ih (f s k) hn.2)

/-- In a run of operations on different openings, opening `n`'s own acts on it as it stood. -/
theorem foldl_actsOn_split {n : Nat} (f : State → Nat → State) (hf : ∀ u k, ActsOn k u (f u k))
    {ks : List Nat} (hks : ks.Nodup) (hn : n ∈ ks) (s : State) :
    ∃ u, Spares n s u ∧ Spares n (f u n) (ks.foldl f s) := by
  obtain ⟨pre, post, rfl⟩ := List.append_of_mem hn
  rw [List.nodup_append] at hks
  have hpost := List.nodup_cons.mp hks.2.1
  have hpre : n ∉ pre := fun h => hks.2.2 n h n List.mem_cons_self rfl
  refine ⟨pre.foldl f s, .foldl f hf pre s hpre, ?_⟩
  rw [List.foldl_append, List.foldl_cons]
  exact .foldl f hf post _ hpost.1

section
variable (h : SameReads s t) (n : Nat)
include h

theorem SameReads.node : t.node n = s.node n := by rw [State.node, h.nodes]; rfl

theorem SameReads.nodeState : t.nodeState n = s.nodeState n := by
  rw [State.nodeState, h.node]; rfl

theorem SameReads.lastReply : t.lastReply n = s.lastReply n := by
  rw [State.lastReply, h.node]; rfl

theorem SameReads.position : t.position n = s.position n := by
  rw [State.position, h.lastReply]; rfl

theorem SameReads.target : t.target n = s.target n := by
  simp only [State.target, State.result, h.results]

theorem SameReads.deadbandHolds (p : Option Nat) : t.deadbandHolds n p = s.deadbandHolds n p := by
  simp only [State.deadbandHolds, h.target, h.store]

theorem SameReads.withinDeadband : t.withinDeadband n = s.withinDeadband n := by
  simp only [State.withinDeadband, h.position, h.deadbandHolds]

theorem SameReads.reportsMotion : t.reportsMotion n = s.reportsMotion n := by
  simp only [State.reportsMotion, h.lastReply]

theorem SameReads.nearTarget : nearTarget t n ↔ nearTarget s n := by
  simp only [Machine.nearTarget, h.target, h.position, h.store]

end

theorem restsAs_congr (h : SameReads s u) {n : Nat} {m : MoveRecord} :
    restsAs u t n m ↔ restsAs s t n m := by
  simp only [restsAs, h.nodeState, h.lastReply, h.nearTarget]

theorem reportsMotion_iff (s : State) (n : Nat) :
    s.reportsMotion n = true ↔ ∃ r, s.lastReply n = some r ∧ r.motion ≠ .stopped := by
  unfold State.reportsMotion
  cases s.lastReply n <;> simp

theorem deadbandHolds_iff (s : State) (n x : Nat) : s.deadbandHolds n (some x) = true ↔
    ∃ y, s.target n = some y ∧ (y - x) + (x - y) ≤ (s.store.opening n).deadband := by
  unfold State.deadbandHolds
  cases s.target n with
  | none => simp
  | some y =>
    simp only [Option.some.injEq, exists_eq_left']
    exact decide_eq_true_iff

theorem withinDeadband_iff (s : State) (n : Nat) : s.withinDeadband n = true ↔ nearTarget s n := by
  unfold State.withinDeadband nearTarget
  cases h : s.position n with
  | none =>
    simp only [State.deadbandHolds]
    cases s.target n <;> simp
  | some p => simp [deadbandHolds_iff]

/-! ### Reading the movement table -/

theorem move_setMove_ne (s : State) {n k : Nat} (m : MoveRecord) (h : k ≠ n) :
    (s.setMove n m).move k = s.move k := nthSome_setNth_ne _ _ _ _ h

theorem move_setMove_self {n : Nat} {m : MoveRecord} (h : s.move n = some m) (m' : MoveRecord) :
    (s.setMove n m').move n = some m' :=
  nthSome_setNth_self _ _ _ _ (nth_of_nthSome h)

theorem moveState_eq {n : Nat} {m : MoveRecord} (h : s.move n = some m) :
    s.moveState n = some m.state := by
  rw [State.moveState, h]

theorem moveState_congr {n : Nat} (h : t.move n = s.move n) : t.moveState n = s.moveState n := by
  rw [State.moveState, h]; rfl

theorem setMove_actsOn (s : State) (n : Nat) (m : MoveRecord) : ActsOn n s (s.setMove n m) :=
  ⟨rfl, rfl, rfl, rfl, rfl, fun _ hk => move_setMove_ne s m hk, fun _ _ => Iff.rfl⟩

/-! ### Orders -/

theorem hasOrder_iff (q : List Order) (n : Nat) : hasOrder q n = true ↔ ∃ o ∈ q, o.opening = n := by
  simp [hasOrder]

theorem mem_enqueue_self (b : Bus) (o : Order) : o ∈ (b.enqueue o).queue := by
  unfold Bus.enqueue
  split
  · next h =>
    obtain ⟨e, he, heo⟩ := (hasOrder_iff _ _).mp h
    exact List.mem_map.mpr ⟨e, he, if_pos heo⟩
  · simp

theorem mem_enqueue_of_ne (b : Bus) {o o' : Order} (h : o'.opening ≠ o.opening) :
    o' ∈ (b.enqueue o).queue ↔ o' ∈ b.queue := by
  unfold Bus.enqueue
  split
  · simp only [replaceOrder, List.mem_map]
    constructor
    · rintro ⟨e, he, heo⟩
      split at heo
      · exact absurd (congrArg Order.opening heo).symm h
      · exact heo ▸ he
    · exact fun ho => ⟨o', ho, if_neg h⟩
  · simp only [List.mem_append, List.mem_singleton, or_iff_left_iff_imp]
    rintro rfl
    exact absurd rfl h

theorem enqueue_nodes (b : Bus) (o : Order) : (b.enqueue o).nodes = b.nodes := by
  unfold Bus.enqueue
  split <;> rfl

theorem setBus_actsOn (s : State) (n : Nat) {b : Bus} (hn : b.nodes = s.bus.nodes)
    (hq : ∀ o : Order, o.opening ≠ n → (o ∈ b.queue ↔ o ∈ s.bus.queue)) : ActsOn n s (s.setBus b) :=
  ⟨rfl, rfl, hn, rfl, rfl, fun _ _ => rfl, hq⟩

theorem queueOrder_eq {n : Nat} {m : MoveRecord} (h : s.move n = some m) (k : OrderKind) :
    s.queueOrder n k = (s.setBus (s.bus.enqueue { opening := n, kind := k })).setMove n
      { m with orderPending := true } := by
  have h' : (s.setBus (s.bus.enqueue { opening := n, kind := k })).move n = some m := h
  simp only [State.queueOrder, h']

theorem queueOrder_actsOn (s : State) (n : Nat) (k : OrderKind) : ActsOn n s (s.queueOrder n k) := by
  have queued : ActsOn n s (s.setBus (s.bus.enqueue { opening := n, kind := k })) :=
    setBus_actsOn s n (enqueue_nodes _ _) fun o ho => mem_enqueue_of_ne _ ho
  unfold State.queueOrder
  dsimp only
  split
  · exact queued.trans (setMove_actsOn _ _ _)
  · exact queued

theorem queueOrder_move {n : Nat} {m : MoveRecord} (h : s.move n = some m) (k : OrderKind) :
    (s.queueOrder n k).move n = some { m with orderPending := true } := by
  rw [queueOrder_eq h]
  exact move_setMove_self (s := s.setBus _) h _

theorem mem_queueOrder (s : State) (n : Nat) (k : OrderKind) :
    { opening := n, kind := k } ∈ (s.queueOrder n k).bus.queue := by
  unfold State.queueOrder
  dsimp only
  split <;> exact mem_enqueue_self _ _

theorem withdrawOrder_actsOn (s : State) (n : Nat) (e : OrderEnd) :
    ActsOn n s (s.withdrawOrder n e) := by
  unfold State.withdrawOrder
  split
  · refine ⟨rfl, rfl, rfl, rfl, rfl, fun _ _ => rfl, fun o ho => ?_⟩
    simp only [State.tellOutcomes, State.setMail_bus, State.setBus_bus, Bus.removeOrder,
      List.mem_filter, bne_iff_ne, ne_eq, and_iff_left_iff_imp]
    exact fun _ => ho
  · exact .refl _ _

theorem withdrawOrder_move (s : State) (n : Nat) (e : OrderEnd) :
    (s.withdrawOrder n e).move = s.move := by
  unfold State.withdrawOrder
  split <;> rfl

theorem not_mem_withdrawOrder (s : State) (n : Nat) (e : OrderEnd) :
    ∀ o ∈ (s.withdrawOrder n e).bus.queue, o.opening ≠ n := by
  unfold State.withdrawOrder
  split
  · intro o ho
    simp only [State.tellOutcomes, State.setMail_bus, State.setBus_bus, Bus.removeOrder,
      List.mem_filter, bne_iff_ne] at ho
    exact ho.2
  · next h =>
    rw [hasOrder_iff] at h
    exact fun o ho hn => h ⟨o, ho, hn⟩

/-! ### Coming to rest, stopping and faulting -/

@[simp] theorem MoveRecord.bare_state (m : MoveRecord) (st : MoveState) : (m.bare st).state = st := rfl
@[simp] theorem MoveRecord.bare_retries (m : MoveRecord) (st : MoveState) :
    (m.bare st).retries = m.retries := rfl
@[simp] theorem MoveRecord.bare_classTold (m : MoveRecord) (st : MoveState) :
    (m.bare st).classTold = m.classTold := rfl

theorem enterStopping_actsOn (s : State) (n : Nat) : ActsOn n s (s.enterStopping n) := by
  unfold State.enterStopping
  split
  · exact (setMove_actsOn _ _ _).trans (queueOrder_actsOn _ _ _)
  · exact .refl _ _

theorem enterStopping_eq {n : Nat} {m : MoveRecord} (h : s.move n = some m) :
    s.enterStopping n =
      (s.setMove n { m.bare .stopping with stopTimer := some 3 }).queueOrder n .stop := by
  simp only [State.enterStopping, h]

theorem enterStopping_move {n : Nat} {m : MoveRecord} (h : s.move n = some m) :
    (s.enterStopping n).move n =
      some { m.bare .stopping with stopTimer := some 3, orderPending := true } := by
  rw [enterStopping_eq h]
  exact queueOrder_move (move_setMove_self h _) _

theorem mem_enterStopping {n : Nat} {m : MoveRecord} (h : s.move n = some m) :
    { opening := n, kind := .stop } ∈ (s.enterStopping n).bus.queue := by
  rw [enterStopping_eq h]
  exact mem_queueOrder _ _ _

section
variable {n : Nat} {m : MoveRecord} (h : s.move n = some m)
include h

theorem evaluateAtRest_of_offline (hn : s.nodeState n ≠ some .online) : s.evaluateAtRest n = s := by
  simp only [State.evaluateAtRest, h, if_pos hn]

theorem evaluateAtRest_of_moving (hn : s.nodeState n = some .online) (hm : s.reportsMotion n = true) :
    s.evaluateAtRest n = s.enterStopping n := by
  simp only [State.evaluateAtRest, h, hn, hm, ne_eq, not_true_eq_false, if_true, if_false]

theorem evaluateAtRest_of_near (hn : s.nodeState n = some .online) (hm : ¬s.reportsMotion n = true)
    (hw : s.withinDeadband n = true) : s.evaluateAtRest n = s.setMove n { m with retries := 0 } := by
  simp only [State.evaluateAtRest, h, hn, hm, hw, ne_eq, not_true_eq_false, if_true, if_false,
    Bool.false_eq_true]

theorem evaluateAtRest_of_far (hn : s.nodeState n = some .online) (hm : ¬s.reportsMotion n = true)
    (hw : ¬s.withinDeadband n = true) :
    s.evaluateAtRest n = s.setMove n { m.bare .waitSlot with waitAge := some 0 } := by
  simp only [State.evaluateAtRest, h, hn, hm, hw, ne_eq, not_true_eq_false, if_false,
    Bool.false_eq_true]

theorem enterAtRest_eq : s.enterAtRest n = (s.setMove n (m.bare .atRest)).evaluateAtRest n := by
  simp only [State.enterAtRest, h]

theorem returnFaulted_eq :
    s.returnFaulted n = (s.setMove n { m.bare .atRest with retries := 0 }).evaluateAtRest n := by
  simp only [State.returnFaulted, h]

end

theorem evaluateAtRest_actsOn (s : State) (n : Nat) : ActsOn n s (s.evaluateAtRest n) := by
  unfold State.evaluateAtRest
  split
  · split
    · exact .refl _ _
    · split
      · exact enterStopping_actsOn _ _
      · split <;> exact setMove_actsOn _ _ _
  · exact .refl _ _

theorem enterAtRest_actsOn (s : State) (n : Nat) : ActsOn n s (s.enterAtRest n) := by
  unfold State.enterAtRest
  split
  · exact (setMove_actsOn _ _ _).trans (evaluateAtRest_actsOn _ _)
  · exact .refl _ _

theorem returnFaulted_actsOn (s : State) (n : Nat) : ActsOn n s (s.returnFaulted n) := by
  unfold State.returnFaulted
  split
  · exact (setMove_actsOn _ _ _).trans (evaluateAtRest_actsOn _ _)
  · exact .refl _ _

theorem enterFaulted_actsOn (s : State) (n : Nat) (m : MoveRecord) (r : FaultReason) :
    ActsOn n s (s.enterFaulted n m r) := (setMove_actsOn _ _ _).trans (withdrawOrder_actsOn _ _ _)

theorem moveFault_actsOn (s : State) (n : Nat) (r : FaultReason) : ActsOn n s (s.moveFault n r) := by
  unfold State.moveFault
  split
  · dsimp only
    split
    · split
      · exact (setMove_actsOn _ _ _).trans (queueOrder_actsOn _ _ _)
      · exact setMove_actsOn _ _ _
    · exact enterFaulted_actsOn _ _ _ _
  · exact .refl _ _

theorem endBreakaway_actsOn (s : State) (n : Nat) : ActsOn n s (s.endBreakaway n) := by
  unfold State.endBreakaway
  split
  · exact setMove_actsOn _ _ _
  · exact .refl _ _

theorem judgeHeadway_actsOn (s : State) (n : Nat) : ActsOn n s (s.judgeHeadway n) := by
  unfold State.judgeHeadway
  split
  · dsimp only
    split
    · exact setMove_actsOn _ _ _
    · exact moveFault_actsOn _ _ _
  · exact .refl _ _

theorem moveSecond_actsOn (s : State) (n : Nat) : ActsOn n s (s.moveSecond n) := by
  unfold State.moveSecond
  split
  · dsimp only
    split
    · exact setMove_actsOn _ _ _
    · split
      · exact (setMove_actsOn _ _ _).trans (endBreakaway_actsOn _ _)
      · exact setMove_actsOn _ _ _
    · split
      · exact (setMove_actsOn _ _ _).trans (moveFault_actsOn _ _ _)
      · split
        · exact (setMove_actsOn _ _ _).trans (judgeHeadway_actsOn _ _)
        · exact setMove_actsOn _ _ _
    · split
      · exact moveFault_actsOn _ _ _
      · exact setMove_actsOn _ _ _
    · split
      · exact enterAtRest_actsOn _ _
      · exact setMove_actsOn _ _ _
    · exact .refl _ _
    · exact .refl _ _
    · exact .refl _ _
  · exact .refl _ _

theorem retarget_actsOn (s : State) (n : Nat) (m : MoveRecord) (x : Nat) :
    ActsOn n s (s.retarget n m x) := by
  unfold State.retarget
  split
  · exact queueOrder_actsOn _ _ _
  · exact enterStopping_actsOn _ _

theorem onTarget_actsOn (s : State) (e : TargetTold) : ActsOn e.opening s (s.onTarget e) := by
  unfold State.onTarget
  split
  · dsimp only
    have told := fun m => setMove_actsOn s e.opening m
    split
    · exact (told _).trans (evaluateAtRest_actsOn _ _)
    · split
      · exact (told _).trans (enterAtRest_actsOn _ _)
      · exact told _
    · split
      · exact (told _).trans (retarget_actsOn _ _ _ _)
      · exact told _
    · split
      · exact (told _).trans (retarget_actsOn _ _ _ _)
      · exact told _
    · split
      · exact (told _).trans (returnFaulted_actsOn _ _)
      · exact told _
    · exact told _
    · exact told _
    · exact told _
  · exact .refl _ _

theorem onReplyTravel_actsOn (s : State) (r : ReplyTold) (m : MoveRecord) :
    ActsOn r.opening s (s.onReplyTravel r m) := by
  unfold State.onReplyTravel
  split
  · exact enterAtRest_actsOn _ _
  · split
    · exact moveFault_actsOn _ _ _
    · split
      · exact enterAtRest_actsOn _ _
      · split
        · exact moveFault_actsOn _ _ _
        · exact .refl _ _

theorem onReply_actsOn (s : State) (r : ReplyTold) : ActsOn r.opening s (s.onReply r) := by
  have rest := enterAtRest_actsOn s r.opening
  have kept := ActsOn.refl r.opening s
  unfold State.onReply
  split
  · split
    · split
      · exact rest
      · split
        · exact rest
        · exact enterStopping_actsOn _ _
    · split
      · exact kept
      · exact evaluateAtRest_actsOn _ _
    · split
      · exact rest
      · split
        · exact enterStopping_actsOn _ _
        · split
          · exact rest
          · exact kept
    · split
      · exact rest
      · split
        · exact moveFault_actsOn _ _ _
        · exact kept
    · exact onReplyTravel_actsOn _ _ _
    · split
      · exact rest
      · split
        · exact rest
        · exact kept
    · split
      · exact rest
      · exact kept
    · exact kept
  · exact kept

theorem onOutcome_actsOn (s : State) (o : OutcomeTold) : ActsOn o.opening s (s.onOutcome o) := by
  unfold State.onOutcome
  split
  · exact setMove_actsOn _ _ _
  · exact .refl _ _

theorem onLost_actsOn (s : State) (n : Nat) : ActsOn n s (s.onLost n) := by
  unfold State.onLost
  split
  · exact moveFault_actsOn _ _ _
  · exact moveFault_actsOn _ _ _
  · exact moveFault_actsOn _ _ _
  · exact .refl _ _

/-! ### The arbiter -/

theorem grant_actsOn (s : State) (n : Nat) : ActsOn n s (s.grant n) := by
  unfold State.grant
  split
  · dsimp only
    exact (setMove_actsOn _ _ _).trans (queueOrder_actsOn _ _ _)
  · exact .refl _ _

theorem eligible_congr {n : Nat} (hm : t.move n = s.move n) (hn : t.bus.nodes = s.bus.nodes)
    (hw : t.weather = s.weather) : t.eligible n = s.eligible n := by
  have hns : t.nodeState n = s.nodeState n := by
    simp only [State.nodeState, State.node, hn]
  simp only [State.eligible, hm, hns, hw]

theorem eligible_waits {n : Nat} {m : MoveRecord} (h : s.move n = some m)
    (he : s.eligible n = true) : m.state = .waitSlot := by
  simp only [State.eligible, h, Bool.and_eq_true, beq_iff_eq] at he
  exact he.1.1

theorem not_eligible_of_state {n : Nat} {m : MoveRecord} (h : s.move n = some m)
    (hm : m.state ≠ .waitSlot) : s.eligible n = false := by
  by_contra he
  exact hm (eligible_waits h (by simpa using he))

theorem eligible_online {n : Nat} (he : s.eligible n = true) : s.nodeState n = some .online := by
  unfold State.eligible at he
  split at he
  · simp only [Bool.and_eq_true, beq_iff_eq] at he
    exact he.1.2
  · cases he

/-- The opening granted a slot takes the record of a start. -/
theorem grant_move {n x : Nat} {m : MoveRecord} (hm : s.move n = some m) (ht : s.target n = some x) :
    (s.grant n).move n = some { m.bare .breakaway with
      direction := some (if (s.position n).getD 0 < x then .up else .down)
      breakaway := some (s.store.opening n).breakawayTime
      deadline := some (travelDeadline (s.store.opening n) (apart x ((s.position n).getD 0)))
      orderPending := true } := by
  simp only [State.grant, hm, ht]
  rw [queueOrder_move (move_setMove_self hm _)]

theorem mem_grant {n x : Nat} {m : MoveRecord} (hm : s.move n = some m) (ht : s.target n = some x) :
    { opening := n, kind := .move x } ∈ (s.grant n).bus.queue := by
  simp only [State.grant, hm, ht]
  exact mem_queueOrder _ _ _

/-- From `s` to `t` opening `n`, which waited, was granted a slot (R136): it starts with a bare record,
a MOVE pending. -/
def startedIn (s t : State) (n : Nat) : Prop :=
  ∃ m dir start limit, s.move n = some m ∧ t.move n = some { m.bare .breakaway with
    direction := dir, breakaway := start, deadline := limit, orderPending := true }

theorem startedIn.moveState {n : Nat} (h : startedIn s t n) : t.moveState n = some .breakaway := by
  obtain ⟨m, dir, start, limit, -, ht⟩ := h
  exact moveState_eq ht

theorem startedIn.congr {s' t' : State} {n : Nat} (h : startedIn s t n) (hs : s.move n = s'.move n)
    (ht : t'.move n = t.move n) : startedIn s' t' n := by
  unfold startedIn
  rwa [← hs, ht]

theorem grant_cases (s : State) (n : Nat) : s.grant n = s ∨ startedIn s (s.grant n) n := by
  cases hm : s.move n with
  | none => left; simp [State.grant, hm]
  | some m =>
    cases ht : s.target n with
    | none => left; simp [State.grant, hm, ht]
    | some x => right; exact ⟨m, _, _, _, hm, grant_move hm ht⟩

/-- The candidate that the arbiter's search keeps. -/
def State.better (s : State) (best : Option Nat) (n : Nat) : Option Nat :=
  match best with
  | none => some n
  | some b => if standsAhead (s.standing n) (s.standing b) then some n else some b

theorem choice_eq (s : State) :
    s.choice = (openingNumbers.filter s.eligible).foldl s.better none := rfl

theorem foldl_better_mem (s : State) (l : List Nat) (best : Option Nat) (n : Nat)
    (h : l.foldl s.better best = some n) : n ∈ l ∨ best = some n := by
  induction l generalizing best with
  | nil => exact .inr h
  | cons k l ih =>
    rcases ih _ h with h | h
    · exact .inl (List.mem_cons_of_mem _ h)
    · cases best with
      | none =>
        cases h
        exact .inl List.mem_cons_self
      | some b =>
        simp only [State.better] at h
        split at h <;> cases h
        · exact .inl List.mem_cons_self
        · exact .inr rfl

theorem choice_eligible {n : Nat} (h : s.choice = some n) :
    isOpening n = true ∧ s.eligible n = true := by
  rcases foldl_better_mem s _ none n h with h | h
  · rw [List.mem_filter, mem_openingNumbers] at h
    exact ⟨(isOpening_iff n).mpr h.1, h.2⟩
  · cases h

theorem foldl_better_of_best (s : State) (n : Nat) (l : List Nat)
    (h : ∀ k ∈ l, standsAhead (s.standing k) (s.standing n) = false) :
    l.foldl s.better (some n) = some n := by
  induction l with
  | nil => rfl
  | cons k l ih =>
    rw [List.foldl_cons]
    have hk : s.better (some n) k = some n := by
      simp only [State.better, h k List.mem_cons_self, Bool.false_eq_true, if_false]
    rw [hk]
    exact ih fun x hx => h x (List.mem_cons_of_mem _ hx)

/-- The search finds the eligible opening that no other stands ahead of, of equals the lowest. -/
theorem choice_of_first {n : Nat} (hn : isOpening n = true) (he : s.eligible n = true)
    (hfirst : ∀ k, isOpening k = true → s.eligible k = true →
      standsAhead (s.standing k) (s.standing n) = false ∧
        (k < n → standsAhead (s.standing n) (s.standing k) = true)) : s.choice = some n := by
  have hmem : n ∈ openingNumbers.filter s.eligible :=
    List.mem_filter.mpr ⟨(mem_openingNumbers n).mpr ((isOpening_iff n).mp hn), he⟩
  have hsorted : (openingNumbers.filter s.eligible).Pairwise (· < ·) :=
    List.Pairwise.filter _ (List.pairwise_lt_range' (s := 1) (n := 48))
  have heach : ∀ k ∈ openingNumbers.filter s.eligible,
      standsAhead (s.standing k) (s.standing n) = false ∧
        (k < n → standsAhead (s.standing n) (s.standing k) = true) := fun k hk => by
    rw [List.mem_filter, mem_openingNumbers] at hk
    exact hfirst k ((isOpening_iff k).mpr hk.1) hk.2
  rw [choice_eq]
  obtain ⟨pre, post, hl⟩ := List.append_of_mem hmem
  rw [hl] at hsorted heach ⊢
  rw [List.foldl_append, List.foldl_cons]
  have taken : s.better (pre.foldl s.better none) n = some n := by
    cases hb : pre.foldl s.better none with
    | none => rfl
    | some b =>
      rcases foldl_better_mem s pre none b hb with hpre | hnone
      · have hlt : b < n := (List.pairwise_append.mp hsorted).2.2 b hpre n List.mem_cons_self
        have hahead := (heach b (List.mem_append_left _ hpre)).2 hlt
        simp only [State.better, hahead, if_true]
      · cases hnone
  rw [taken]
  exact foldl_better_of_best s n post fun k hk =>
    (heach k (List.mem_append_right _ (List.mem_cons_of_mem _ hk))).1

theorem grantOne_eq_some (h : s.grantOne = some t) :
    ∃ n, s.slotFree = true ∧ isOpening n = true ∧ s.eligible n = true ∧ t = s.grant n := by
  unfold State.grantOne at h
  split at h
  · next hfree =>
    split at h
    · next n hn =>
      cases h
      obtain ⟨hop, hel⟩ := choice_eligible hn
      exact ⟨n, hfree, hop, hel, rfl⟩
    · cases h
  · cases h

/-- The arbiter's grants leave every opening that is not eligible alone, and start or leave one that is. -/
theorem grantUpTo_spares (k : Nat) (s : State) (n : Nat) :
    Spares n s (State.grantUpTo k s) ∨
      (s.eligible n = true ∧ startedIn s (State.grantUpTo k s) n) := by
  induction k generalizing s with
  | zero => exact .inl (.refl _ _)
  | succ k ih =>
    unfold State.grantUpTo
    split
    · next t ht =>
      obtain ⟨c, -, -, hel, rfl⟩ := grantOne_eq_some ht
      by_cases hc : n = c
      · subst hc
        rcases grant_cases s n with hs | hb
        · rw [hs]
          exact ih s
        · right
          refine ⟨hel, ?_⟩
          rcases ih (s.grant n) with hsp | ⟨he, -⟩
          · exact hb.congr rfl hsp.move
          · obtain ⟨m, dir, start, limit, -, hm⟩ := hb
            exact nomatch eligible_waits hm he
      · have first := (grant_actsOn s c).spares hc
        rcases ih (s.grant c) with hsp | ⟨he, hb⟩
        · exact .inl (first.trans hsp)
        · right
          rw [eligible_congr first.move first.nodes first.weather] at he
          exact ⟨he, hb.congr first.move rfl⟩
    · exact .inl (.refl _ _)

/-! ### The end of an event -/

theorem announceMoves_move (s before : State) (n : Nat) :
    (s.announceMoves before).move n = s.move n := by
  rw [State.move, show (s.announceMoves before).moves = s.moves from
    announceMoves_frame s before .moves (by simp)]
  rfl

theorem announceMoves_bus (s before : State) : (s.announceMoves before).bus = s.bus :=
  announceMoves_frame s before .bus (by simp)

theorem report_mail (s : State) (o : Owner) (l : List (Condition × Bool)) (e : List Condition) :
    (s.report o l e).mail = { s.mail with reports := s.mail.reports ++
      if l = [] ∧ e = [] then [] else [{ owner := o, lives := l, events := e }] } := by
  unfold State.report
  split
  · rw [List.append_nil]
  · rfl

theorem evalLampsOf_mail (s : State) (zs : List Nat) : (s.evalLampsOf zs).mail = s.mail :=
  evalLampsOf_frame s zs .mail (by simp)

theorem announceMoves_mail (s before : State) : (s.announceMoves before).mail =
    { s.mail with reports := (s.announceMoves before).mail.reports } := by
  unfold State.announceMoves
  rw [report_mail, evalLampsOf_mail]

theorem grantUpTo_mail (k : Nat) (s : State) : (State.grantUpTo k s).mail = s.mail :=
  grantUpTo_frame k s .mail (by simp)

theorem endMoveEvent_mail (s before : State) : (s.endMoveEvent before).mail =
    { s.mail with reports := (s.endMoveEvent before).mail.reports } := by
  unfold State.endMoveEvent
  dsimp only
  rw [announceMoves_mail, State.grantAll, grantUpTo_mail, announceMoves_mail s before]

theorem endMoveEvent_reads (s before : State) : SameReads s (s.endMoveEvent before) where
  store := endMoveEvent_frame s before .store (by simp)
  results := endMoveEvent_frame s before .results (by simp)
  nodes := by
    unfold State.endMoveEvent
    dsimp only
    rw [announceMoves_bus]
    have h : ∀ k u, (State.grantUpTo k u).bus.nodes = u.bus.nodes := by
      intro k
      induction k with
      | zero => exact fun _ => rfl
      | succ k ih =>
        intro u
        unfold State.grantUpTo
        split
        · next v hv =>
          obtain ⟨c, -, -, -, rfl⟩ := grantOne_eq_some hv
          rw [ih, (grant_actsOn u c).nodes]
        · rfl
    rw [State.grantAll, h, announceMoves_bus]

/-- At the end of an event an opening keeps its record and its order, but that an eligible one may be
granted a slot. -/
theorem endMoveEvent_keeps (s before : State) (n : Nat) :
    ((s.endMoveEvent before).move n = s.move n ∧ ∀ o : Order, o.opening = n →
        (o ∈ (s.endMoveEvent before).bus.queue ↔ o ∈ s.bus.queue)) ∨
      (s.eligible n = true ∧ startedIn s (s.endMoveEvent before) n) := by
  have hmove := announceMoves_move s before n
  have hel : (s.announceMoves before).eligible n = s.eligible n :=
    eligible_congr hmove (by rw [announceMoves_bus])
      (announceMoves_frame s before .weather (by simp))
  have hlast : (s.endMoveEvent before).move n =
      (State.grantUpTo Config.openingCount (s.announceMoves before)).move n :=
    announceMoves_move _ _ n
  rcases grantUpTo_spares Config.openingCount (s.announceMoves before) n with h | ⟨he, hb⟩
  · left
    refine ⟨hlast.trans (h.move.trans hmove), fun o ho => ?_⟩
    unfold State.endMoveEvent
    dsimp only
    rw [announceMoves_bus, ← announceMoves_bus s before]
    exact h.queue o ho
  · exact .inr ⟨hel ▸ he, hb.congr hmove hlast⟩

theorem endMoveEvent_move (s before : State) (n : Nat) :
    (s.endMoveEvent before).move n = s.move n ∨
      (s.eligible n = true ∧ (s.endMoveEvent before).moveState n = some .breakaway) :=
  (endMoveEvent_keeps s before n).imp And.left fun h => ⟨h.1, h.2.moveState⟩

theorem endMoveEvent_move_of_not_eligible {n : Nat} (h : s.eligible n = false) (before : State) :
    (s.endMoveEvent before).move n = s.move n := by
  rcases endMoveEvent_move s before n with hm | ⟨he, -⟩
  · exact hm
  · rw [h] at he
    cases he

section
variable {n : Nat} {m : MoveRecord} (h : s.move n = some m) (hm : m.state ≠ .waitSlot) (before : State)
include h hm

/-- An opening that does not wait keeps its record at the end of an event. -/
theorem endMoveEvent_move_of_state : (s.endMoveEvent before).move n = some m :=
  (endMoveEvent_move_of_not_eligible (not_eligible_of_state h hm) before).trans h

theorem endMoveEvent_queue_of_state {o : Order} (ho : o.opening = n) :
    o ∈ (s.endMoveEvent before).bus.queue ↔ o ∈ s.bus.queue := by
  rcases endMoveEvent_keeps s before n with ⟨-, hq⟩ | ⟨he, -⟩
  · exact hq o ho
  · exact absurd (eligible_waits h he) hm

end

/-! ### The outcomes of the statements -/

theorem stopOrdered_endMoveEvent {n : Nat} {m : MoveRecord} (h : s.move n = some m)
    (hv : Spares n (s.enterStopping n) t) (before : State) :
    stopOrdered (t.endMoveEvent before) n m := by
  have hmove := hv.move.trans (enterStopping_move h)
  have hst : ({ m.bare .stopping with stopTimer := some 3, orderPending := true } : MoveRecord).state ≠
      .waitSlot := by simp
  exact ⟨endMoveEvent_move_of_state hmove hst before,
    (endMoveEvent_queue_of_state hmove hst before rfl).mpr
      ((hv.queue _ rfl).mpr (mem_enterStopping h))⟩

/-- An opening evaluated at rest stands as `restsAs` says at the end of the event, whatever operations
on others follow. -/
theorem restsAs_evaluateAtRest {n : Nat} {m : MoveRecord} (hr : SameReads s u) (h : u.move n = some m)
    (hm : m.state = .atRest) (hv : Spares n (u.evaluateAtRest n) t) (before : State) :
    restsAs s (t.endMoveEvent before) n m := by
  rw [← restsAs_congr hr]
  have hst : m.state ≠ .waitSlot := by simp [hm]
  refine ⟨fun hn => ?_, fun hn hmov => ?_, fun hn hmov hnear => ?_, fun hn hmov hfar => ?_⟩
  · rw [evaluateAtRest_of_offline h hn] at hv
    exact endMoveEvent_move_of_state (hv.move.trans h) hst before
  · rw [evaluateAtRest_of_moving h hn ((reportsMotion_iff u n).mpr hmov)] at hv
    exact stopOrdered_endMoveEvent h hv before
  · rw [evaluateAtRest_of_near h hn (by rwa [reportsMotion_iff])
      ((withinDeadband_iff u n).mpr hnear)] at hv
    exact endMoveEvent_move_of_state (m := { m with retries := 0 })
      (hv.move.trans (move_setMove_self h _)) hst before
  · rw [evaluateAtRest_of_far h hn (by rwa [reportsMotion_iff]) (by rwa [withinDeadband_iff])] at hv
    rcases endMoveEvent_move t before n with hk | ⟨-, hb⟩
    · exact .inl (hk.trans (hv.move.trans (move_setMove_self h _)))
    · exact .inr hb

theorem restsAs_enterAtRest {n : Nat} {m : MoveRecord} (hr : SameReads s u) (h : u.move n = some m)
    (hv : Spares n (u.enterAtRest n) t) (before : State) :
    restsAs s (t.endMoveEvent before) n (m.bare .atRest) := by
  rw [enterAtRest_eq h] at hv
  exact restsAs_evaluateAtRest (hr.trans (setMove_actsOn u n _).reads) (move_setMove_self h _) rfl hv
    before

theorem restsAs_returnFaulted {n : Nat} {m : MoveRecord} (hr : SameReads s u) (h : u.move n = some m)
    (hv : Spares n (u.returnFaulted n) t) (before : State) :
    restsAs s (t.endMoveEvent before) n { m.bare .atRest with retries := 0 } := by
  rw [returnFaulted_eq h] at hv
  exact restsAs_evaluateAtRest (hr.trans (setMove_actsOn u n _).reads) (move_setMove_self h _) rfl hv
    before

/-- A fault of an opening under a fire class that has not been retried. -/
def retried (m : MoveRecord) (reason : FaultReason) : Bool :=
  isFireClass m.classTold && reason != .lost && m.retries == 0

theorem retried_iff (m : MoveRecord) (reason : FaultReason) : retried m reason = true ↔
    isFireClass m.classTold = true ∧ reason ≠ .lost ∧ m.retries = 0 := by
  simp only [retried, Bool.and_eq_true, bne_iff_ne, beq_iff_eq, and_assoc]

theorem moveFault_of_retried {n : Nat} {m : MoveRecord} {reason : FaultReason}
    (h : s.move n = some m) (hr : retried m reason = true) :
    s.moveFault n reason =
      let s1 := s.setMove n { m.bare .retryWait with retries := 1, retryTimer := some 10 }
      if s1.nodeState n = some .online then s1.queueOrder n .stop else s1 := by
  unfold retried at hr
  simp only [State.moveFault, h, hr, if_true]

theorem moveFault_of_not_retried {n : Nat} {m : MoveRecord} {reason : FaultReason}
    (h : s.move n = some m) (hr : ¬retried m reason = true) :
    s.moveFault n reason = s.enterFaulted n m reason := by
  unfold retried at hr
  simp only [State.moveFault, h, hr, if_false, Bool.false_eq_true]

theorem enterFaulted_move {n : Nat} {m : MoveRecord} (h : s.move n = some m) (reason : FaultReason) :
    (s.enterFaulted n m reason).move n = some { m.bare .faulted with faultReason := some reason } := by
  rw [State.enterFaulted, withdrawOrder_move]
  exact move_setMove_self h _

/-- A fault taken by an opening stands as `faultTaken` says at the end of the event, for every record
that agrees with the opening's in the class told and the retry count. -/
theorem faultTaken_moveFault {n : Nat} {m m' : MoveRecord} {reason : FaultReason}
    (hr : SameReads s u) (h : u.move n = some m') (hc : m'.classTold = m.classTold)
    (hret : m'.retries = m.retries) (hv : Spares n (u.moveFault n reason) t) (before : State) :
    faultTaken s (t.endMoveEvent before) n m reason := by
  have hiff : retried m' reason = true ↔
      isFireClass m.classTold = true ∧ reason ≠ .lost ∧ m.retries = 0 := by
    rw [retried_iff, hc, hret]
  unfold faultTaken
  by_cases hf : retried m' reason = true
  · rw [moveFault_of_retried h hf] at hv
    dsimp only at hv
    simp only [if_pos (hiff.mp hf)]
    have hset := move_setMove_self h { m'.bare .retryWait with retries := 1, retryTimer := some 10 }
    split at hv
    · have hq := hv.move.trans (queueOrder_move hset .stop)
      have hst : ({ m'.bare .retryWait with
          retries := 1, retryTimer := some 10, orderPending := true } : MoveRecord).state ≠
          .waitSlot := by simp
      exact ⟨_, endMoveEvent_move_of_state hq hst before, hc, rfl, rfl, rfl, rfl, rfl, rfl, rfl, rfl,
        rfl, rfl, rfl, fun _ => ⟨rfl, (endMoveEvent_queue_of_state hq hst before rfl).mpr
          ((hv.queue _ rfl).mpr (mem_queueOrder _ _ _))⟩⟩
    · next hoff =>
      refine ⟨_, endMoveEvent_move_of_state (hv.move.trans hset) (by simp) before, hc, rfl, rfl, rfl,
        rfl, rfl, rfl, rfl, rfl, rfl, rfl, rfl, fun hon => absurd ?_ hoff⟩
      rwa [(setMove_actsOn u n _).reads.nodeState, hr.nodeState]
  · rw [moveFault_of_not_retried h hf] at hv
    simp only [if_neg fun k => hf (hiff.mpr k)]
    have hmove := hv.move.trans (enterFaulted_move h reason)
    have hst : ({ m'.bare .faulted with faultReason := some reason } : MoveRecord).state ≠
        .waitSlot := by simp
    refine ⟨_, endMoveEvent_move_of_state hmove hst before, hc, rfl, rfl, rfl, rfl, rfl, rfl, rfl, rfl,
      rfl, hret, rfl, fun o ho hn => ?_⟩
    exact not_mem_withdrawOrder _ _ _ o
      ((hv.queue o hn).mp ((endMoveEvent_queue_of_state hmove hst before hn).mp ho)) hn

end Sys2Proof.Machine
end


section
/-! PROOFS. The rows of the movement controller, and the start budget that every step keeps. -/
namespace Sys2Proof.Machine

open Sys2Proof

variable {s t u : State}

/-! ### Told events -/

theorem takeFirst_pred {α : Type} {p : α → Bool} {l rest : List α} {a : α}
    (h : takeFirst p l = some (a, rest)) : p a = true := by
  induction l generalizing rest with
  | nil => cases h
  | cons b l ih =>
    simp only [takeFirst] at h
    split at h
    · next hb =>
      cases h
      exact hb
    · split at h
      · next x hx =>
        cases h
        exact ih hx
      · cases h

theorem takeFirst_find? {α : Type} {p : α → Bool} {l rest : List α} {a : α}
    (h : takeFirst p l = some (a, rest)) : l.find? p = some a := by
  induction l generalizing rest with
  | nil => cases h
  | cons b l ih =>
    simp only [takeFirst] at h
    split at h
    · next hb =>
      cases h
      simp [hb]
    · next hb =>
      split at h
      · next x hx =>
        cases h
        simp [hb, ih hx]
      · cases h

section
variable {n : Nat} (hn : isOpening n = true)
include hn

theorem exec_targetEvent {e : TargetTold} {rest : List TargetTold}
    (h : takeFirst (fun x => x.opening == n) s.mail.targets = some (e, rest)) :
    e.opening = n ∧ exec (.targetEvent n) s =
      .next (((s.setMail { s.mail with targets := rest }).onTarget e).endMoveEvent
        (s.setMail { s.mail with targets := rest })) := by
  refine ⟨by simpa using takeFirst_pred h, ?_⟩
  simp only [exec, execTargetEvent, if_pos hn, h]

theorem exec_movementReply {r : ReplyTold} {rest : List ReplyTold}
    (h : takeFirst (fun x => x.opening == n) s.mail.replies = some (r, rest)) :
    r.opening = n ∧ exec (.movementReply n) s =
      .next (((s.setMail { s.mail with replies := rest }).onReply r).endMoveEvent
        (s.setMail { s.mail with replies := rest })) := by
  refine ⟨by simpa using takeFirst_pred h, ?_⟩
  simp only [exec, execMovementReply, if_pos hn, h]

theorem exec_orderOutcome {o : OutcomeTold} {rest : List OutcomeTold}
    (h : takeFirst (fun x => x.opening == n) s.mail.outcomes = some (o, rest)) :
    o.opening = n ∧ exec (.orderOutcome n) s =
      .next (((s.setMail { s.mail with outcomes := rest }).onOutcome o).endMoveEvent
        (s.setMail { s.mail with outcomes := rest })) := by
  refine ⟨by simpa using takeFirst_pred h, ?_⟩
  simp only [exec, execOrderOutcome, if_pos hn, h]

theorem exec_nodeLostEvent {x : Nat} {rest : List Nat}
    (h : takeFirst (fun e => e == n) s.mail.lost = some (x, rest)) :
    exec (.nodeLostEvent n) s =
      .next (((s.setMail { s.mail with lost := rest }).onLost n).endMoveEvent
        (s.setMail { s.mail with lost := rest })) := by
  simp only [exec, execNodeLostEvent, if_pos hn, h]

end

theorem endMoveEvent_targets {n : Nat} (h : ActsOn n s t) (before : State) :
    (t.endMoveEvent before).mail.targets = s.mail.targets := by
  rw [endMoveEvent_mail, h.mail]

theorem endMoveEvent_replies {n : Nat} (h : ActsOn n s t) (before : State) :
    (t.endMoveEvent before).mail.replies = s.mail.replies := by
  rw [endMoveEvent_mail, h.mail]

theorem endMoveEvent_lost {n : Nat} (h : ActsOn n s t) (before : State) :
    (t.endMoveEvent before).mail.lost = s.mail.lost := by
  rw [endMoveEvent_mail, h.mail]

theorem setMail_reads (s : State) (x : Mail) : SameReads s (s.setMail x) := ⟨rfl, rfl, rfl⟩

/-! ### Target events (R140) -/

section
variable {e : TargetTold} {m : MoveRecord} (h : s.move e.opening = some m)
include h

theorem onTarget_of_kept (hm : m.state = .unknown ∨ m.state = .stopping ∨ m.state = .retryWait) :
    s.onTarget e = s.setMove e.opening { m with classTold := e.cls } := by
  rcases hm with hm | hm | hm <;> simp only [State.onTarget, h, hm]

theorem onTarget_of_atRest (hm : m.state = .atRest) : s.onTarget e =
    (s.setMove e.opening { m with classTold := e.cls }).evaluateAtRest e.opening := by
  simp only [State.onTarget, h, hm]

theorem onTarget_of_waitSlot (hm : m.state = .waitSlot) : s.onTarget e =
    let s1 := s.setMove e.opening { m with classTold := e.cls }
    if s1.withinDeadband e.opening then s1.enterAtRest e.opening else s1 := by
  simp only [State.onTarget, h, hm]

theorem onTarget_of_moving (hm : m.state = .breakaway ∨ m.state = .travel) : s.onTarget e =
    let s1 := s.setMove e.opening { m with classTold := e.cls }
    if e.changed then s1.retarget e.opening m e.target else s1 := by
  rcases hm with hm | hm <;> simp only [State.onTarget, h, hm]

theorem onTarget_of_faulted (hm : m.state = .faulted) : s.onTarget e =
    let s1 := s.setMove e.opening { m with classTold := e.cls }
    if s.rearms e.opening m e.cls then s1.returnFaulted e.opening else s1 := by
  simp only [State.onTarget, h, hm]

end

theorem liesAhead_up {n p x : Nat} {m : MoveRecord} (hd : m.direction = some .up)
    (hp : s.position n = some p) :
    s.liesAhead n m x = true ↔ p + (s.store.opening n).deadband < x := by
  simp only [State.liesAhead, hd, hp, Option.getD_some]
  exact decide_eq_true_iff

theorem liesAhead_down {n p x : Nat} {m : MoveRecord} (hd : m.direction = some .down)
    (hp : s.position n = some p) :
    s.liesAhead n m x = true ↔ x + (s.store.opening n).deadband < p := by
  simp only [State.liesAhead, hd, hp, Option.getD_some]
  exact decide_eq_true_iff

theorem rearms_iff (s : State) (n : Nat) (m : MoveRecord) (cls : Option DemandClass) :
    s.rearms n m cls = true ↔ isFireClass cls = true ∧ isFireClass m.classTold = false ∧
      ¬(m.faultReason = some .lost ∧ s.nodeState n = some .lost) := by
  simp only [State.rearms, Bool.and_eq_true, Bool.not_eq_true', Bool.and_eq_false_iff,
    beq_eq_false_iff_ne, ne_eq, and_assoc, not_and_or]

/-- A target told of a moving opening: followed where it lies ahead, and otherwise the move stops. -/
theorem targetEvent_moving {n : Nat} {m : MoveRecord} {e : TargetTold} {rest : List TargetTold}
    {ahead : Prop} (hn : isOpening n = true) (hmv : s.move n = some m)
    (ht : takeFirst (fun x => x.opening == n) s.mail.targets = some (e, rest))
    (hm : m.state = .breakaway ∨ m.state = .travel)
    (ha : ∀ v : State, SameReads s v → (v.liesAhead n m e.target = true ↔ ahead)) :
    ∃ t m', exec (.targetEvent n) s = .next t ∧ t.move n = some m' ∧
      m'.classTold = e.cls ∧ t.mail.targets = rest ∧
      (e.changed = true → m'.orderPending = true) ∧
      (e.changed = true → ahead →
        m'.state = m.state ∧ m'.direction = m.direction ∧ m'.deadline = m.deadline ∧
        m'.progressRef = m.progressRef ∧ m'.progressWindow = m.progressWindow ∧
        { opening := n, kind := .move e.target } ∈ t.bus.queue) ∧
      (e.changed = true → ¬ahead →
        m'.state = .stopping ∧ m'.stopTimer = some 3 ∧ m'.direction = none ∧
        m'.deadline = none ∧ { opening := n, kind := .stop } ∈ t.bus.queue) ∧
      (e.changed = false → m' = { m with classTold := e.cls }) := by
  obtain ⟨rfl, hexec⟩ := exec_targetEvent hn ht
  have hmv1 : (s.setMail { s.mail with targets := rest }).move e.opening = some m := hmv
  have htold := move_setMove_self hmv1 { m with classTold := e.cls }
  have hst : m.state ≠ .waitSlot := by rcases hm with hm | hm <;> simp [hm]
  have hmail := endMoveEvent_targets (onTarget_actsOn (s.setMail { s.mail with targets := rest }) e)
    (s.setMail { s.mail with targets := rest })
  rw [onTarget_of_moving hmv1 hm] at hexec hmail
  dsimp only at hexec hmail
  by_cases hc : e.changed = true
  · rw [if_pos hc, State.retarget] at hexec hmail
    by_cases had : ahead
    · rw [if_pos ((ha _ ((setMail_reads _ _).trans (setMove_actsOn _ _ _).reads)).mpr had)]
        at hexec hmail
      have hq := queueOrder_move htold (.move e.target)
      exact ⟨_, _, hexec, endMoveEvent_move_of_state hq hst _, rfl, hmail, fun _ => rfl,
        fun _ _ => ⟨rfl, rfl, rfl, rfl, rfl,
          (endMoveEvent_queue_of_state hq hst _ rfl).mpr (mem_queueOrder _ _ _)⟩,
        fun _ hnot => absurd had hnot, fun hf => by rw [hc] at hf; cases hf⟩
    · rw [if_neg fun k =>
        had ((ha _ ((setMail_reads _ _).trans (setMove_actsOn _ _ _).reads)).mp k)] at hexec hmail
      obtain ⟨hstop, hqueue⟩ := stopOrdered_endMoveEvent htold (.refl _ _)
        (s.setMail { s.mail with targets := rest })
      exact ⟨_, _, hexec, hstop, rfl, hmail, fun _ => rfl, fun _ hyes => absurd hyes had,
        fun _ _ => ⟨rfl, rfl, rfl, rfl, hqueue⟩, fun hf => by rw [hc] at hf; cases hf⟩
  · rw [if_neg hc] at hexec hmail
    exact ⟨_, _, hexec, endMoveEvent_move_of_state htold hst _, rfl, hmail, fun hf => absurd hf hc,
      fun hf => absurd hf hc, fun hf => absurd hf hc, fun _ => rfl⟩

/-! ### Movement replies (R137, R138, R141 to R146) -/

section
variable {r : ReplyTold} {m : MoveRecord} (h : s.move r.opening = some m)
include h

theorem onReply_of_unknown (hm : m.state = .unknown) : s.onReply r =
    if r.isolated then s.enterAtRest r.opening
    else if r.motion = .stopped then s.enterAtRest r.opening
    else s.enterStopping r.opening := by
  simp only [State.onReply, h, hm]

theorem onReply_of_atRest (hm : m.state = .atRest) : s.onReply r =
    if r.isolated then s else s.evaluateAtRest r.opening := by
  simp only [State.onReply, h, hm]

theorem onReply_of_waitSlot (hm : m.state = .waitSlot) : s.onReply r =
    if r.isolated then s.enterAtRest r.opening
    else if r.motion ≠ .stopped then s.enterStopping r.opening
    else if s.withinDeadband r.opening then s.enterAtRest r.opening
    else s := by
  simp only [State.onReply, h, hm]

theorem onReply_of_breakaway (hm : m.state = .breakaway) : s.onReply r =
    if r.isolated then s.enterAtRest r.opening
    else if r.overcurrent then s.moveFault r.opening .jammed
    else s := by
  simp only [State.onReply, h, hm]

theorem onReply_of_travel (hm : m.state = .travel) : s.onReply r = s.onReplyTravel r m := by
  simp only [State.onReply, h, hm]

theorem onReply_of_stopping (hm : m.state = .stopping) : s.onReply r =
    if r.isolated then s.enterAtRest r.opening
    else if r.motion = .stopped then s.enterAtRest r.opening
    else s := by
  simp only [State.onReply, h, hm]

theorem onReply_of_retryWait (hm : m.state = .retryWait) : s.onReply r =
    if r.isolated then s.enterAtRest r.opening else s := by
  simp only [State.onReply, h, hm]

theorem onReply_of_faulted (hm : m.state = .faulted) : s.onReply r = s := by
  simp only [State.onReply, h, hm]

end

/-! ### The rows of the movement timers -/

/-- The row of a timer that is due acts. -/
theorem next_of_timerRow {n : Nat} {m : MoveRecord} {p : MoveRecord → Prop} [DecidablePred p]
    {f : MoveRecord → State} {o : Host.Outcome State Fault Refusal}
    (ho : o = if isOpening n then
      match s.move n with
      | some m => if p m then .next (f m) else .next s
      | none => .next s
    else .fault .noSuchOpening) (hn : isOpening n = true) (hm : s.move n = some m) (hp : p m) :
    o = .next (f m) := by
  rw [ho, if_pos hn, hm]
  exact if_pos hp

theorem faultTaken_faulted {n : Nat} {m : MoveRecord} {reason : FaultReason}
    (h : faultTaken s t n m reason) (hc : ¬(isFireClass m.classTold = true ∧ reason ≠ .lost ∧
      m.retries = 0)) :
    ∃ m', t.move n = some m' ∧ m'.state = .faulted ∧ m'.faultReason = some reason ∧
      m'.direction = none ∧ m'.deadline = none ∧ m'.stopTimer = none ∧
      m'.classTold = m.classTold := by
  obtain ⟨m', hm', hcls, hdir, -, hdl, -, -, hstop, -, hif⟩ := h
  rw [if_neg hc] at hif
  obtain ⟨hst, hreason, -⟩ := hif
  exact ⟨m', hm', hst, hreason, hdir, hdl, hstop, hcls⟩

theorem faultTaken_retryWait {n : Nat} {m : MoveRecord} {reason : FaultReason}
    (h : faultTaken s t n m reason) (hc : isFireClass m.classTold = true ∧ reason ≠ .lost ∧
      m.retries = 0) :
    ∃ m', t.move n = some m' ∧ m'.state = .retryWait ∧ m'.retries = 1 ∧ m'.retryTimer = some 10 ∧
      m'.classTold = m.classTold := by
  obtain ⟨m', hm', hcls, -, -, -, -, -, -, -, hif⟩ := h
  rw [if_pos hc] at hif
  obtain ⟨hst, -, hret, htimer, -⟩ := hif
  exact ⟨m', hm', hst, hret, htimer, hcls⟩

theorem endBreakaway_move {n p : Nat} {m : MoveRecord} (h : s.move n = some m)
    (hp : s.position n = some p) : (s.endBreakaway n).move n = some { m with
      state := .travel, breakaway := none, progressRef := some p, progressWindow := some 5 } := by
  simp only [State.endBreakaway, h, hp, Option.getD_some]
  exact move_setMove_self h _

theorem headwayMade_up {m : MoveRecord} {q : Nat} (hd : m.direction = some .up)
    (hq : m.progressRef = some q) (x : Nat) : headwayMade m x = true ↔ q + 10 ≤ x := by
  simp only [headwayMade, hd, hq, Option.getD_some]
  exact decide_eq_true_iff

theorem headwayMade_down {m : MoveRecord} {q : Nat} (hd : m.direction = some .down)
    (hq : m.progressRef = some q) (x : Nat) : headwayMade m x = true ↔ x + 10 ≤ q := by
  simp only [headwayMade, hd, hq, Option.getD_some]
  exact decide_eq_true_iff

/-- The position on which headway is judged: that before the reply which waits, or else the recorded
one. -/
theorem judgedPosition_eq {n x : Nat}
    (h : ((∀ e ∈ s.mail.replies, e.opening ≠ n) ∧ s.position n = some x) ∨
      ∃ e rest, takeFirst (fun e : ReplyTold => e.opening == n) s.mail.replies = some (e, rest) ∧
        e.before = some x) : s.judgedPosition n = some x := by
  unfold State.judgedPosition
  rcases h with ⟨hnone, hp⟩ | ⟨e, rest, he, hx⟩
  · have hfind : s.mail.replies.find? (fun e => e.opening == n) = none :=
      List.find?_eq_none.mpr fun e he => by simpa using hnone e he
    rw [hfind]
    exact hp
  · rw [takeFirst_find? he]
    exact hx

theorem judgedPosition_congr {n : Nat} (hr : SameReads s t) (hm : t.mail.replies = s.mail.replies) :
    t.judgedPosition n = s.judgedPosition n := by
  simp only [State.judgedPosition, hm, hr.position]

theorem judgeHeadway_of_made {n x : Nat} {m : MoveRecord} (h : s.move n = some m)
    (hx : s.judgedPosition n = some x)
    (hmade : s.deadbandHolds n (some x) = true ∨ headwayMade m x = true) :
    s.judgeHeadway n = s.setMove n { m with progressRef := some x, progressWindow := some 5 } := by
  have hor : (s.deadbandHolds n (some x) || headwayMade m x) = true := by simpa using hmade
  simp only [State.judgeHeadway, h, hx, Option.getD_some, hor, if_true]

theorem judgeHeadway_of_stalled {n x : Nat} {m : MoveRecord} (h : s.move n = some m)
    (hx : s.judgedPosition n = some x) (hd : ¬s.deadbandHolds n (some x) = true)
    (hh : ¬headwayMade m x = true) : s.judgeHeadway n = s.moveFault n .stalled := by
  have hor : ¬(s.deadbandHolds n (some x) || headwayMade m x) = true := by simp [hd, hh]
  simp only [State.judgeHeadway, h, hx, Option.getD_some, hor, if_false, Bool.false_eq_true]

/-- A move with headway, or within the deadband, goes on: the statement's terms of R139. -/
def headwayFrom (d : Direction) (q x : Nat) : Prop :=
  match d with
  | .up => q + 10 ≤ x
  | .down => x + 10 ≤ q

theorem headwayMade_iff {m : MoveRecord} {d : Direction} {q : Nat} (hd : m.direction = some d)
    (hq : m.progressRef = some q) (x : Nat) : headwayMade m x = true ↔ headwayFrom d q x := by
  cases d with
  | up => exact headwayMade_up hd hq x
  | down => exact headwayMade_down hd hq x

/-! ### The one-second event -/

section
variable {n : Nat} {m : MoveRecord} (h : s.move n = some m)
include h

theorem moveSecond_of_waitSlot (hm : m.state = .waitSlot) : s.moveSecond n =
    s.setMove n { m with waitAge := some (min (m.waitAge.getD 0 + 1) 65534) } := by
  simp only [State.moveSecond, h, hm, Config.waitAgeMax]

theorem moveSecond_of_breakaway (hm : m.state = .breakaway) : s.moveSecond n =
    let s1 := s.setMove n
      { m with breakaway := countDown m.breakaway, deadline := countDown m.deadline }
    if runsOut m.breakaway then s1.endBreakaway n else s1 := by
  simp only [State.moveSecond, h, hm]

theorem moveSecond_of_travel (hm : m.state = .travel) : s.moveSecond n =
    let s1 := s.setMove n
      { m with deadline := countDown m.deadline, progressWindow := countDown m.progressWindow }
    if runsOut m.deadline then s1.moveFault n .overtime
    else if runsOut m.progressWindow then s1.judgeHeadway n
    else s1 := by
  simp only [State.moveSecond, h, hm]

theorem moveSecond_of_stopping (hm : m.state = .stopping) : s.moveSecond n =
    if runsOut m.stopTimer then s.moveFault n .noStop
    else s.setMove n { m with stopTimer := countDown m.stopTimer } := by
  simp only [State.moveSecond, h, hm]

theorem moveSecond_of_retryWait (hm : m.state = .retryWait) : s.moveSecond n =
    if runsOut m.retryTimer then s.enterAtRest n
    else s.setMove n { m with retryTimer := countDown m.retryTimer } := by
  simp only [State.moveSecond, h, hm]

theorem moveSecond_of_still (hm : m.state = .unknown ∨ m.state = .atRest ∨ m.state = .faulted) :
    s.moveSecond n = s := by
  rcases hm with hm | hm | hm <;> simp only [State.moveSecond, h, hm]

end

/-- In the one-second event an opening takes its own second as it stood, and the others leave it. -/
theorem movementTick_split (s : State) {n : Nat} (hn : isOpening n = true) :
    ∃ u, Spares n s u ∧ Spares n (u.moveSecond n) (openingNumbers.foldl State.moveSecond s) :=
  foldl_actsOn_split State.moveSecond moveSecond_actsOn List.nodup_range'
    ((mem_openingNumbers n).mpr ((isOpening_iff n).mp hn)) s

theorem startWait_of_waits {n a : Nat} {m : MoveRecord} (hn : isOpening n = true)
    (h : s.move n = some m) (hm : m.state = .waitSlot) (ha : m.waitAge = some a) (h60 : 60 < a) :
    s.startWait = true := by
  unfold State.startWait
  rw [List.any_eq_true]
  refine ⟨n, (mem_openingNumbers n).mpr ((isOpening_iff n).mp hn), ?_⟩
  simp [h, hm, ha, Config.startWaitSeconds, h60]

/-- What an event is announced with: the conditions of the movement controller that changed. -/
def moveReport (s before : State) : Report :=
  { owner := .movementController
    lives := changedLive .openingFault before.anyFaulted s.anyFaulted ++
      changedLive .startWait before.startWait s.startWait
    events := raisedIf .openingFault (enteredFaulted before s) ++
      raisedIf .startWait (!before.startWait && s.startWait) }

theorem announceMoves_reports (s before : State) : (s.announceMoves before).mail.reports =
    s.mail.reports ++ if (moveReport s before).lives = [] ∧ (moveReport s before).events = [] then []
      else [moveReport s before] := by
  unfold State.announceMoves
  rw [report_mail, evalLampsOf_mail]
  rfl

/-- The reports of an event's end, the grants' own last. -/
theorem endMoveEvent_reports (s before : State) : ∃ later, (s.endMoveEvent before).mail.reports =
    (s.announceMoves before).mail.reports ++ later := by
  unfold State.endMoveEvent
  dsimp only
  rw [announceMoves_reports, State.grantAll, grantUpTo_mail]
  exact ⟨_, rfl⟩

/-- START_WAIT that rises in an event is reported at its end. -/
theorem endMoveEvent_reports_startWait {before : State} (hb : before.startWait = false)
    (hs : s.startWait = true) :
    ∃ r ∈ (s.endMoveEvent before).mail.reports, r.owner = .movementController ∧
      (.startWait, true) ∈ r.lives ∧ .startWait ∈ r.events := by
  have hraised : Condition.startWait ∈ (moveReport s before).events := by
    simp [moveReport, raisedIf, hb, hs]
  have hlive : (Condition.startWait, true) ∈ (moveReport s before).lives := by
    simp [moveReport, changedLive, hb, hs]
  refine ⟨moveReport s before, ?_, rfl, hlive, hraised⟩
  obtain ⟨later, hlater⟩ := endMoveEvent_reports s before
  rw [hlater, announceMoves_reports, if_neg fun hnil => List.ne_nil_of_mem hraised hnil.2]
  simp

/-! ### The start budget -/

/-- From `s` to `t` no opening started. -/
def startsNone (s t : State) : Prop :=
  ∀ n, t.moveState n = some .breakaway → s.moveState n = some .breakaway

theorem startsNone.refl (s : State) : startsNone s s := fun _ h => h

theorem startsNone.trans (h : startsNone s t) (h' : startsNone t u) : startsNone s u :=
  fun n hn => h n (h' n hn)

theorem startsNone.after (h : startsNone t u) (h' : startsNone s t) : startsNone s u := h'.trans h

theorem startsNone_of_moves (h : t.moves = s.moves) : startsNone s t := by
  intro n hn
  have hm : t.move n = s.move n := by rw [State.move, h]; rfl
  rwa [moveState_congr hm] at hn

theorem startsNone_of_frame {bs : List Block} (h : sameOutside bs s t) (hb : .moves ∉ bs) :
    startsNone s t := startsNone_of_moves (h .moves hb)

theorem startsNone.foldl {α : Type} {f : State → α → State} (hf : ∀ u a, startsNone u (f u a))
    (xs : List α) (s : State) : startsNone s (xs.foldl f s) := by
  induction xs generalizing s with
  | nil => exact .refl _
  | cons x xs ih => exact (hf s x).trans (ih _)

/-- A record that is not starting, or of an opening that was, starts none. -/
theorem setMove_startsNone (s : State) (n : Nat) {m : MoveRecord}
    (hm : m.state ≠ .breakaway ∨ s.moveState n = some .breakaway) : startsNone s (s.setMove n m) := by
  intro k hk
  rcases nthSome_setNth s.moves n k (some m) with h | ⟨rfl, h⟩
  · have hmv : (s.setMove n m).move k = s.move k := h
    rwa [moveState_congr hmv] at hk
  · rcases hm with hm | hm
    · have hmv : (s.setMove k m).move k = some m := h
      rw [moveState_eq hmv] at hk
      exact absurd (Option.some.inj hk) hm
    · exact hm

theorem queueOrder_startsNone (s : State) (n : Nat) (k : OrderKind) :
    startsNone s (s.queueOrder n k) := by
  unfold State.queueOrder
  dsimp only
  split
  · next m hm =>
    refine (startsNone_of_moves (s := s) (t := s.setBus _) rfl).trans (setMove_startsNone _ n ?_)
    by_cases hb : m.state = .breakaway
    · right
      rw [moveState_eq hm, hb]
    · exact .inl hb
  · exact startsNone_of_moves rfl

theorem withdrawOrder_startsNone (s : State) (n : Nat) (e : OrderEnd) :
    startsNone s (s.withdrawOrder n e) :=
  startsNone_of_frame (withdrawOrder_frame s n e) (by simp)

theorem enterStopping_startsNone (s : State) (n : Nat) : startsNone s (s.enterStopping n) := by
  unfold State.enterStopping
  split
  · exact (setMove_startsNone s n (.inl (by simp))).trans (queueOrder_startsNone _ _ _)
  · exact .refl _

theorem evaluateAtRest_startsNone (s : State) (n : Nat) : startsNone s (s.evaluateAtRest n) := by
  unfold State.evaluateAtRest
  split
  · next m hm =>
    split
    · exact .refl _
    · split
      · exact enterStopping_startsNone _ _
      · split
        · refine setMove_startsNone _ n ?_
          by_cases hb : m.state = .breakaway
          · right
            rw [moveState_eq hm, hb]
          · exact .inl hb
        · exact setMove_startsNone _ n (.inl (by simp))
  · exact .refl _

theorem enterAtRest_startsNone (s : State) (n : Nat) : startsNone s (s.enterAtRest n) := by
  unfold State.enterAtRest
  split
  · exact (setMove_startsNone s n (.inl (by simp))).trans (evaluateAtRest_startsNone _ _)
  · exact .refl _

theorem returnFaulted_startsNone (s : State) (n : Nat) : startsNone s (s.returnFaulted n) := by
  unfold State.returnFaulted
  split
  · exact (setMove_startsNone s n (.inl (by simp))).trans (evaluateAtRest_startsNone _ _)
  · exact .refl _

theorem moveFault_startsNone (s : State) (n : Nat) (r : FaultReason) :
    startsNone s (s.moveFault n r) := by
  unfold State.moveFault
  split
  · dsimp only
    split
    · split
      · exact (setMove_startsNone s n (.inl (by simp))).trans (queueOrder_startsNone _ _ _)
      · exact setMove_startsNone s n (.inl (by simp))
    · exact (setMove_startsNone s n (.inl (by simp))).trans (withdrawOrder_startsNone _ _ _)
  · exact .refl _

/-- A rewritten record that keeps its state starts none. -/
theorem setMove_startsNone_of_state {n : Nat} {m m' : MoveRecord} (h : s.move n = some m)
    (hm : m'.state = m.state) : startsNone s (s.setMove n m') := by
  refine setMove_startsNone s n ?_
  by_cases hb : m.state = .breakaway
  · right
    rw [moveState_eq h, hb]
  · exact .inl (hm ▸ hb)

theorem endBreakaway_startsNone (s : State) (n : Nat) : startsNone s (s.endBreakaway n) := by
  unfold State.endBreakaway
  split
  · exact setMove_startsNone s n (.inl (by simp))
  · exact .refl _

theorem judgeHeadway_startsNone (s : State) (n : Nat) : startsNone s (s.judgeHeadway n) := by
  unfold State.judgeHeadway
  split
  · next m hm =>
    dsimp only
    split
    · exact setMove_startsNone_of_state hm rfl
    · exact moveFault_startsNone _ _ _
  · exact .refl _

theorem moveSecond_startsNone (s : State) (n : Nat) : startsNone s (s.moveSecond n) := by
  unfold State.moveSecond
  split
  · next m hm =>
    dsimp only
    split
    · exact setMove_startsNone_of_state hm rfl
    · split
      · exact (endBreakaway_startsNone _ _).after (setMove_startsNone_of_state hm rfl)
      · exact setMove_startsNone_of_state hm rfl
    · split
      · exact (moveFault_startsNone _ _ _).after (setMove_startsNone_of_state hm rfl)
      · split
        · exact (judgeHeadway_startsNone _ _).after (setMove_startsNone_of_state hm rfl)
        · exact setMove_startsNone_of_state hm rfl
    · split
      · exact moveFault_startsNone _ _ _
      · exact setMove_startsNone_of_state hm rfl
    · split
      · exact enterAtRest_startsNone _ _
      · exact setMove_startsNone_of_state hm rfl
    · exact .refl _
    · exact .refl _
    · exact .refl _
  · exact .refl _

theorem retarget_startsNone (s : State) (n : Nat) (m : MoveRecord) (x : Nat) :
    startsNone s (s.retarget n m x) := by
  unfold State.retarget
  split
  · exact queueOrder_startsNone _ _ _
  · exact enterStopping_startsNone _ _

theorem onTarget_startsNone (s : State) (e : TargetTold) : startsNone s (s.onTarget e) := by
  unfold State.onTarget
  split
  · next m hm =>
    have told := setMove_startsNone_of_state (m' := { m with classTold := e.cls }) hm rfl
    dsimp only
    split
    · exact told.trans (evaluateAtRest_startsNone _ _)
    · split
      · exact told.trans (enterAtRest_startsNone _ _)
      · exact told
    · split
      · exact told.trans (retarget_startsNone _ _ _ _)
      · exact told
    · split
      · exact told.trans (retarget_startsNone _ _ _ _)
      · exact told
    · split
      · exact told.trans (returnFaulted_startsNone _ _)
      · exact told
    · exact told
    · exact told
    · exact told
  · exact .refl _

theorem onReplyTravel_startsNone (s : State) (r : ReplyTold) (m : MoveRecord) :
    startsNone s (s.onReplyTravel r m) := by
  unfold State.onReplyTravel
  split
  · exact enterAtRest_startsNone _ _
  · split
    · exact moveFault_startsNone _ _ _
    · split
      · exact enterAtRest_startsNone _ _
      · split
        · exact moveFault_startsNone _ _ _
        · exact .refl _

theorem onReply_startsNone (s : State) (r : ReplyTold) : startsNone s (s.onReply r) := by
  have rest := enterAtRest_startsNone s r.opening
  have kept := startsNone.refl s
  unfold State.onReply
  split
  · split
    · split
      · exact rest
      · split
        · exact rest
        · exact enterStopping_startsNone _ _
    · split
      · exact kept
      · exact evaluateAtRest_startsNone _ _
    · split
      · exact rest
      · split
        · exact enterStopping_startsNone _ _
        · split
          · exact rest
          · exact kept
    · split
      · exact rest
      · split
        · exact moveFault_startsNone _ _ _
        · exact kept
    · exact onReplyTravel_startsNone _ _ _
    · split
      · exact rest
      · split
        · exact rest
        · exact kept
    · split
      · exact rest
      · exact kept
    · exact kept
  · exact kept

theorem onOutcome_startsNone (s : State) (o : OutcomeTold) : startsNone s (s.onOutcome o) := by
  unfold State.onOutcome
  split
  · next m hm => exact setMove_startsNone_of_state hm rfl
  · exact .refl _

theorem onLost_startsNone (s : State) (n : Nat) : startsNone s (s.onLost n) := by
  unfold State.onLost
  split
  · exact moveFault_startsNone _ _ _
  · exact moveFault_startsNone _ _ _
  · exact moveFault_startsNone _ _ _
  · exact .refl _

theorem length_filter_le_of_imp {l : List Nat} (hl : l.Nodup) {p q : Nat → Bool} {n : Nat}
    (h : ∀ k, q k = true → p k = true ∨ k = n) : (l.filter q).length ≤ (l.filter p).length + 1 := by
  have hsub : l.filter q ⊆ n :: l.filter p := fun k hk => by
    rw [List.mem_filter] at hk
    rcases h k hk.2 with hp | rfl
    · exact List.mem_cons_of_mem _ (List.mem_filter.mpr ⟨hk.1, hp⟩)
    · exact List.mem_cons_self
  simpa using (List.subperm_of_subset (hl.filter q) hsub).length_le

theorem breakawayOpenings_le (h : startsNone s t) :
    t.breakawayOpenings.length ≤ s.breakawayOpenings.length := by
  unfold State.breakawayOpenings
  rw [← List.countP_eq_length_filter, ← List.countP_eq_length_filter]
  exact List.countP_mono_left fun n _ hn => by simpa using h n (by simpa using hn)

theorem grant_breakawayOpenings_le (s : State) (n : Nat) :
    (s.grant n).breakawayOpenings.length ≤ s.breakawayOpenings.length + 1 := by
  refine length_filter_le_of_imp (n := n) List.nodup_range' fun k hk => ?_
  by_cases hkn : k = n
  · exact .inr hkn
  · left
    rwa [moveState_congr ((grant_actsOn s n).moves k hkn)] at hk

theorem MovementBlock.valid_budget {b : MovementBlock} (h : b.valid = true) :
    b.lowBudget ≤ b.normalBudget := by
  simp only [MovementBlock.valid, Bool.and_eq_true, decide_eq_true_eq] at h
  omega

theorem startBudget_le (h : s.store.movement.value.valid = true) :
    s.startBudget ≤ s.store.movement.value.normalBudget := by
  unfold State.startBudget
  split
  · exact MovementBlock.valid_budget h
  · exact Nat.le_refl _

/-- The law of the start budget, with the movement block in effect valid. -/
def budgetKept (s : State) : Prop := s.store.movement.value.valid = true ∧ slotsInBudget s

theorem budgetKept_of_startsNone (hst : t.store = s.store) (h : startsNone s t)
    (hs : budgetKept s) : budgetKept t := by
  unfold budgetKept slotsInBudget
  rw [hst]
  exact ⟨hs.1, (breakawayOpenings_le h).trans hs.2⟩

theorem budgetKept_of_frame {bs : List Block} (h : sameOutside bs s t) (hb : .moves ∉ bs)
    (hst : .store ∉ bs) (hs : budgetKept s) : budgetKept t :=
  budgetKept_of_startsNone (h .store hst) (startsNone_of_frame h hb) hs

theorem grantOne_budgetKept (h : s.grantOne = some t) (hs : budgetKept s) : budgetKept t := by
  obtain ⟨n, hfree, -, -, rfl⟩ := grantOne_eq_some h
  have hst : (s.grant n).store = s.store := (grant_actsOn s n).store
  have hlt : s.breakawayOpenings.length < s.startBudget := by
    simpa [State.slotFree] using hfree
  unfold budgetKept slotsInBudget
  rw [hst]
  have hb := startBudget_le hs.1
  have hg := grant_breakawayOpenings_le s n
  exact ⟨hs.1, by omega⟩

theorem grantUpTo_budgetKept (k : Nat) (hs : budgetKept s) : budgetKept (State.grantUpTo k s) := by
  induction k generalizing s with
  | zero => exact hs
  | succ k ih =>
    unfold State.grantUpTo
    split
    · next t ht => exact ih (grantOne_budgetKept ht hs)
    · exact hs

/-- The grants at the end of an event keep within the budget. -/
theorem endMoveEvent_budgetKept (before : State) (hs : budgetKept s) :
    budgetKept (s.endMoveEvent before) := by
  have ann : ∀ u b : State, budgetKept u → budgetKept (u.announceMoves b) := fun u b hu =>
    budgetKept_of_frame (announceMoves_frame u b) (by simp) (by simp) hu
  exact ann _ _ (grantUpTo_budgetKept _ (ann _ _ hs))

theorem weatherEvent_budgetKept (w : Weather) (hs : budgetKept s) : budgetKept (s.weatherEvent w) := by
  have told : budgetKept (((s.setWeather w).tellWeather (s.weather.told w)).reportWeather s) :=
    budgetKept_of_frame (report_frame _ _ _ _) (by simp) (by simp) hs
  have supplied : budgetKept
      ((((s.setWeather w).tellWeather (s.weather.told w)).reportWeather s).takeSupply s) := by
    unfold State.takeSupply
    split
    · exact told
    · exact endMoveEvent_budgetKept _ told
  exact budgetKept_of_frame (takeDirection_frame _ _) (by simp) (by simp) supplied

theorem clearFault_budgetKept (n : Nat) (hs : budgetKept s) : budgetKept (s.clearFault n) := by
  have back := budgetKept_of_startsNone (returnFaulted_actsOn s n).store
    (returnFaulted_startsNone s n) hs
  refine endMoveEvent_budgetKept _ ?_
  split
  · exact back
  · exact back
  · exact hs

theorem fireResetMoves_budgetKept (ns : List Nat) (hs : budgetKept s) :
    budgetKept (s.fireResetMoves ns) := by
  have one : ∀ (u : State) n, sameOutside [.moves, .bus] u
      (if u.moveState n = some .faulted then u.returnFaulted n else u) := fun u n => by
    split
    · exact returnFaulted_frame _ _
    · exact .refl _ _
  have none : ∀ (u : State) n, startsNone u
      (if u.moveState n = some .faulted then u.returnFaulted n else u) := fun u n => by
    split
    · exact returnFaulted_startsNone _ _
    · exact .refl _
  exact endMoveEvent_budgetKept _ (budgetKept_of_startsNone
    (sameOutside.foldl _ one ns s .store (by simp)) (startsNone.foldl none ns s) hs)

theorem resetZone_budgetKept (z : Nat) (hs : budgetKept s) : budgetKept (s.resetZone z) := by
  unfold State.resetZone
  split
  · have cleared : ∀ (r : Zone) (ns : List Nat), budgetKept
        ((((s.setZone z r).takeSteps z 0).retireSource (.scenario z)).fireResetMoves ns) :=
      fun r ns => fireResetMoves_budgetKept _
        (budgetKept_of_frame (retireSource_frame _ _) (by simp) (by simp)
          (budgetKept_of_frame (takeSteps_frame _ _ _) (by simp) (by simp)
            (budgetKept_of_frame (setZone_frame s z r) (by simp) (by simp) hs)))
    dsimp only
    split
    · exact budgetKept_of_frame (zoneTransition_frame _ _ _ _) (by simp) (by simp) (cleared _ _)
    · exact cleared _ _
  · exact hs

theorem fireReset_budgetKept (hs : budgetKept s) : budgetKept s.fireReset := by
  have h : ∀ (zs : List Nat) (u : State), budgetKept u → budgetKept (zs.foldl State.resetZone u) := by
    intro zs
    induction zs with
    | nil => exact fun _ hu => hu
    | cons z zs ih => exact fun u hu => ih _ (resetZone_budgetKept z hu)
  exact budgetKept_of_frame (endFireEvent_frame _ _ _) (by simp) (by simp) (h _ s hs)

theorem entryJudged_budgetKept (n : Nat) (hs : budgetKept s) : budgetKept (s.entryJudged n) := by
  unfold State.entryJudged
  refine endMoveEvent_budgetKept _ ?_
  split
  · exact budgetKept_of_startsNone (evaluateAtRest_actsOn s n).store (evaluateAtRest_startsNone s n) hs
  · split
    · exact budgetKept_of_startsNone (enterAtRest_actsOn s n).store (enterAtRest_startsNone s n) hs
    · exact hs
  · exact hs

theorem setMoves_startsNone (s : State) (n : Nat) {o : Option MoveRecord}
    (ho : ∀ m, o = some m → m.state ≠ .breakaway) :
    startsNone s (s.setMoves (setNth s.moves n o)) := by
  intro k hk
  rcases nthSome_setNth s.moves n k o with h | ⟨rfl, h⟩
  · have hmv : (s.setMoves (setNth s.moves n o)).move k = s.move k := h
    rwa [moveState_congr hmv] at hk
  · have hmv : (s.setMoves (setNth s.moves k o)).move k = o := h
    rw [State.moveState, hmv] at hk
    cases o with
    | none => cases hk
    | some m => exact absurd (Option.some.inj hk) (ho m rfl)

theorem openingWritten_budgetKept (n : Nat) (old new : OpeningEntry) (hs : budgetKept s) :
    budgetKept (s.openingWritten n old new) := by
  unfold State.openingWritten
  refine budgetKept_of_frame (evalLampsOf_frame _ _) (by simp) (by simp) ?_
  split
  · have fitted : budgetKept (s.setBus (s.bus.openingEnabled s.store n)) := hs
    refine budgetKept_of_frame (recompute_frame _ _) (by simp) (by simp) (endMoveEvent_budgetKept _ ?_)
    refine budgetKept_of_startsNone (s := s.setBus (s.bus.openingEnabled s.store n)) rfl
      (setMoves_startsNone _ n ?_) fitted
    rintro m ⟨⟩
    simp [MoveRecord.atReset]
  · have judged : budgetKept ((s.setResults (setNth s.results n none)).judgeWeatherClose s) :=
      budgetKept_of_frame (judgeWeatherClose_frame _ _) (by simp) (by simp)
        (show budgetKept (s.setResults _) from hs)
    refine budgetKept_of_frame (endBusEvent_frame _ _) (by simp) (by simp)
      (budgetKept_of_frame (setBus_frame _ _) (by simp) (by simp) (endMoveEvent_budgetKept _ ?_))
    refine budgetKept_of_frame (setMail_frame _ _) (by simp) (by simp)
      (budgetKept_of_startsNone (s := (s.setResults (setNth s.results n none)).judgeWeatherClose s) rfl
        (setMoves_startsNone _ n ?_) judged)
    rintro m ⟨⟩
  · exact entryJudged_budgetKept n
      (budgetKept_of_frame (recompute_frame _ _) (by simp) (by simp) hs)
  · exact endMoveEvent_budgetKept _ hs

theorem writeTold_budgetKept (before : State) (left : Nat) (ev : EntryValue) (hs : budgetKept s) :
    budgetKept (s.writeTold before left ev) := by
  cases ev with
  | opening n v => exact openingWritten_budgetKept n _ v hs
  | group g l =>
    exact budgetKept_of_frame (sameOutside.foldl _ cancelStation_frame _ s) (by simp) (by simp) hs
  | zone z v => exact budgetKept_of_frame (zoneWritten_frame s z v left) (by simp) (by simp) hs
  | scenario z l => exact hs
  | station n v => exact budgetKept_of_frame (cancelStation_frame s n) (by simp) (by simp) hs
  | supervisor m v => exact hs
  | weather v =>
    have told : ∀ w, budgetKept
        (((s.setWeather w).tellWeather (s.weather.told w)).reportWeather before) := fun w =>
      budgetKept_of_frame (report_frame _ _ _ _) (by simp) (by simp)
        (show budgetKept (s.setWeather w) from hs)
    refine budgetKept_of_frame (recompute_frame _ _) (by simp) (by simp) ?_
    unfold State.takeSupply
    split
    · exact told _
    · exact endMoveEvent_budgetKept _ (told _)
  | movement v => exact endMoveEvent_budgetKept _ hs

/-- A write that takes effect keeps within the budget: one below the openings that start is in use. -/
theorem committed_budgetKept {ev : EntryValue} (hev : ev.valid = true)
    (huse : ¬s.entryInUse ev = true) (hs : budgetKept s) :
    budgetKept (s.setStore (s.store.commit ev)) := by
  rcases s.store.commit_movement ev with ⟨v, rfl, hv⟩ | ⟨hv, -⟩
  · refine ⟨(congrArg MovementBlock.valid hv).trans hev, ?_⟩
    have hle : s.breakawayOpenings.length ≤ v.normalBudget := by
      simpa [State.entryInUse] using huse
    exact hle.trans (le_of_eq (congrArg MovementBlock.normalBudget hv).symm)
  · refine ⟨(congrArg MovementBlock.valid hv).trans hs.1, ?_⟩
    exact hs.2.trans (le_of_eq (congrArg MovementBlock.normalBudget hv).symm)

theorem completeWrite_budgetKept {w : EntryWrite} (left : Nat) (hw : w.entry.valid = true)
    (hs : budgetKept s) : budgetKept (s.completeWrite w left) := by
  unfold State.completeWrite
  split
  · exact budgetKept_of_frame (writeAnswered_frame _ _ _ _) (by simp) (by simp)
      (show budgetKept (s.setStore s.store.abandon) from hs)
  · next huse =>
    exact budgetKept_of_frame (writeAnswered_frame _ _ _ _) (by simp) (by simp)
      (writeTold_budgetKept s left w.entry (committed_budgetKept hw huse hs))

theorem resetFrom_budgetKept (s : State) (cause : ResetCause) (spareWritten : Bool) (v : Int) :
    budgetKept (s.resetFrom cause spareWritten v) := by
  refine ⟨(resetFrom_entriesValid s cause spareWritten v).2.1, ?_⟩
  have h : (s.resetFrom cause spareWritten v).breakawayOpenings = [] := by
    unfold State.breakawayOpenings
    rw [List.filter_eq_nil_iff]
    intro n _ hn
    have hst : (s.resetFrom cause spareWritten v).moveState n = some .breakaway := by simpa using hn
    unfold State.moveState at hst
    split at hst
    · next m hm =>
      obtain ⟨-, rfl⟩ :=
        perOpening_eq_some (a := fun _ => MoveRecord.atReset) (st := s.store.atReset spareWritten) hm
      cases hst
    · cases hst
  unfold slotsInBudget
  rw [h]
  exact Nat.zero_le _

theorem takeConfigure_budgetKept (m : Nat) (kind index : Byte) (v : List Byte) (hs : budgetKept s) :
    budgetKept (s.takeConfigure m kind index v) := by
  have asked : budgetKept (s.requestConfigure m kind index v).1 := by
    unfold State.requestConfigure
    split
    · split
      · split
        · split
          · exact hs
          · exact hs
          · split
            · exact hs
            · have hmv := fun w => Store.begin_movement s.store w
              refine ⟨(congrArg MovementBlock.valid (hmv _)).trans hs.1, ?_⟩
              exact hs.2.trans (le_of_eq (congrArg MovementBlock.normalBudget (hmv _)).symm)
        · exact hs
      · exact hs
    · exact hs
  unfold State.takeConfigure
  dsimp only
  split
  · exact budgetKept_of_frame (respond_frame _ _ _ _) (by simp) (by simp) asked
  · exact budgetKept_of_frame (dropHeld_frame _) (by simp) (by simp) asked

/-- The row of a timer keeps the budget where its operation does. -/
theorem budgetKept_of_timerRow {n : Nat} {p : MoveRecord → Prop} [DecidablePred p]
    {f : MoveRecord → State} {o : Host.Outcome State Fault Refusal}
    (ho : o = if isOpening n then
      match s.move n with
      | some m => if p m then .next (f m) else .next s
      | none => .next s
    else .fault .noSuchOpening) (h : o = .next t) (hs : budgetKept s)
    (hf : ∀ m, s.move n = some m → budgetKept (f m)) : budgetKept t := by
  rw [ho] at h
  split at h
  · split at h
    · next m hm =>
      split at h <;> cases h
      · exact hf m hm
      · exact hs
    · cases h; exact hs
  · cases h

theorem endMoveEvent_budgetKept_of {before : State} (hst : t.store = s.store) (h : startsNone s t)
    (hs : budgetKept s) : budgetKept (t.endMoveEvent before) :=
  endMoveEvent_budgetKept _ (budgetKept_of_startsNone hst h hs)

theorem exec_budgetKept (c : Instr) (hc : c ≠ .frameTaken) (he : entriesValid s) (hs : budgetKept s)
    (h : exec c s = .next t) : budgetKept t := by
  have answer : ∀ (x : Answered) m code, budgetKept x.1 → budgetKept (x.respond m code) :=
    fun x m code hx => budgetKept_of_frame (respond_frame _ _ _ _) (by simp) (by simp) hx
  by_cases hb : Block.store ∈ touchedBy c ∨ Block.moves ∈ touchedBy c
  · cases c with
    | powerOnReset w v => cases h; exact resetFrom_budgetKept _ _ _ _
    | restartTaken w v =>
      change execRestartTaken w v s = _ at h
      unfold execRestartTaken at h
      split at h <;> cases h
      · exact resetFrom_budgetKept _ _ _ _
      · exact hs
    | frameTaken => exact absurd rfl hc
    | writeComplete left =>
      change execWriteComplete s left = _ at h
      unfold execWriteComplete at h
      split at h
      · next w hw =>
        cases h
        exact completeWrite_budgetKept left (he.2.2 w hw) hs
      · cases h; exact hs
    | writeFail =>
      change execWriteFail s = _ at h
      unfold execWriteFail at h
      split at h <;> cases h
      · exact budgetKept_of_frame (writeAnswered_frame _ _ _ _) (by simp) (by simp)
          (budgetKept_of_frame (report_frame _ _ _ _) (by simp) (by simp)
            (show budgetKept (s.setStore s.store.abandon) from hs))
      · exact hs
    | configure m kind index v =>
      rcases eq_or_eq_of_request h with rfl | rfl
      · exact hs
      · exact takeConfigure_budgetKept m kind index v hs
    | clearFault m n =>
      rcases eq_or_eq_of_request h with rfl | rfl
      · exact hs
      · refine answer _ m _ ?_
        unfold State.requestClearFault
        dsimp only
        split
        · exact clearFault_budgetKept _ hs
        · exact hs
    | fireReset m =>
      rcases eq_or_eq_of_request h with rfl | rfl
      · exact hs
      · refine answer _ m _ ?_
        unfold State.requestFireReset
        split
        · exact fireReset_budgetKept hs
        · exact hs
    | supplySample v => cases h; exact weatherEvent_budgetKept _ hs
    | resetKeyAcceptance =>
      change execResetKeyAcceptance s = _ at h
      unfold execResetKeyAcceptance at h
      dsimp only at h
      split at h
      · split at h <;> cases h
        · exact fireReset_budgetKept (s := s.setFire _) hs
        · exact hs
      · cases h; exact hs
    | targetEvent n =>
      change execTargetEvent n s = _ at h
      unfold execTargetEvent at h
      split at h
      · split at h <;> cases h
        · exact endMoveEvent_budgetKept_of (onTarget_actsOn _ _).store (onTarget_startsNone _ _)
            (show budgetKept (s.setMail _) from hs)
        · exact hs
      · cases h
    | movementReply n =>
      change execMovementReply n s = _ at h
      unfold execMovementReply at h
      split at h
      · split at h <;> cases h
        · exact endMoveEvent_budgetKept_of (onReply_actsOn _ _).store (onReply_startsNone _ _)
            (show budgetKept (s.setMail _) from hs)
        · exact hs
      · cases h
    | orderOutcome n =>
      change execOrderOutcome n s = _ at h
      unfold execOrderOutcome at h
      split at h
      · split at h <;> cases h
        · exact endMoveEvent_budgetKept_of (onOutcome_actsOn _ _).store (onOutcome_startsNone _ _)
            (show budgetKept (s.setMail _) from hs)
        · exact hs
      · cases h
    | nodeLostEvent n =>
      change execNodeLostEvent n s = _ at h
      unfold execNodeLostEvent at h
      split at h
      · split at h <;> cases h
        · exact endMoveEvent_budgetKept_of (onLost_actsOn _ _).store (onLost_startsNone _ _)
            (show budgetKept (s.setMail _) from hs)
        · exact hs
      · cases h
    | movementTick =>
      cases h
      exact endMoveEvent_budgetKept_of (sameOutside.foldl _ moveSecond_frame _ s .store (by simp))
        (startsNone.foldl moveSecond_startsNone _ _) hs
    | breakawayEnd n =>
      exact budgetKept_of_timerRow rfl h hs fun m _ =>
        endMoveEvent_budgetKept_of (endBreakaway_actsOn _ _).store (endBreakaway_startsNone _ _) hs
    | overtime n =>
      exact budgetKept_of_timerRow rfl h hs fun m _ =>
        endMoveEvent_budgetKept_of (moveFault_actsOn _ _ _).store (moveFault_startsNone _ _ _) hs
    | progressWindowEnd n =>
      refine budgetKept_of_timerRow rfl h hs fun m _ => endMoveEvent_budgetKept _ ?_
      split
      · exact budgetKept_of_startsNone (moveFault_actsOn _ _ _).store (moveFault_startsNone _ _ _) hs
      · exact budgetKept_of_startsNone (judgeHeadway_actsOn _ _).store (judgeHeadway_startsNone _ _) hs
    | noStop n =>
      exact budgetKept_of_timerRow rfl h hs fun m _ =>
        endMoveEvent_budgetKept_of (moveFault_actsOn _ _ _).store (moveFault_startsNone _ _ _) hs
    | retryTimerEnd n =>
      exact budgetKept_of_timerRow rfl h hs fun m _ =>
        endMoveEvent_budgetKept_of (enterAtRest_actsOn _ _).store (enterAtRest_startsNone _ _) hs
    | startWaitRise n =>
      exact budgetKept_of_timerRow rfl h hs fun m hm =>
        endMoveEvent_budgetKept_of (setMove_actsOn _ _ _).store
          (setMove_startsNone_of_state hm rfl) hs
    | slotGrant =>
      change execSlotGrant s = _ at h
      unfold execSlotGrant at h
      split at h
      · next u hu =>
        cases h
        exact budgetKept_of_frame (announceMoves_frame _ _) (by simp) (by simp)
          (grantOne_budgetKept hu hs)
      · cases h; exact hs
    | _ => simp [touchedBy] at hb
  · rw [not_or] at hb
    exact budgetKept_of_startsNone (exec_agrees hc h hb.1) (startsNone_of_moves (exec_agrees hc h hb.2))
      hs

end Sys2Proof.Machine

namespace Sys2Proof.Proofs

open Sys2Proof.Machine

/-- Settles O58: only a grant starts an opening, and it is given where a slot of the budget is free. -/
theorem slotsKeptInBudget : Obligations.SlotsKeptInBudget := by
  intro s t he hs h
  have kept := step_keeps (P := fun u => entriesValid u ∧ budgetKept u) (fun _ _ hu => hu)
    (fun _ hu => hu)
    (fun u m code payload hu =>
      ⟨entriesValid_of_frame (takeMalformed_frame u m code payload) (by simp) hu.1,
        budgetKept_of_frame (takeMalformed_frame u m code payload) (by simp) (by simp) hu.2⟩)
    (fun c _ _ hc hu h => ⟨exec_entriesValid c hc hu.1 h, exec_budgetKept c hc hu.1 hu.2 h⟩)
    ⟨he, he.2.1, hs⟩ h
  exact kept.2.2

end Sys2Proof.Proofs
end


section
/-! PROOFS. The statements of the movement controller. -/
namespace Sys2Proof.Machine

open Sys2Proof

variable {s t u : State}

/-! ### Clearing a fault -/

/-- An event in which nothing moved is announced with nothing. -/
theorem announceMoves_self (s : State) : s.announceMoves s = s := by
  have hmoved : movedOpenings s s = [] := by simp [movedOpenings]
  have hzones : s.zonesOf [] = [] := by simp [State.zonesOf]
  have hentered : enteredFaulted s s = false := by
    rw [enteredFaulted, List.any_eq_false]
    intro n _ h
    rw [Bool.and_eq_true, beq_iff_eq, bne_iff_ne] at h
    exact h.2 h.1
  unfold State.announceMoves
  rw [hmoved, hzones, hentered]
  simp [State.evalLampsOf, changedLive, raisedIf, State.report]

/-- An event that changed nothing, with nothing to grant, leaves the part as it was. -/
theorem endMoveEvent_self (h : s.grantOne = none) : s.endMoveEvent s = s := by
  have hgrants : s.grantAll = s := by
    change State.grantUpTo (47 + 1) s = s
    rw [State.grantUpTo, h]
  unfold State.endMoveEvent
  simp only [announceMoves_self, hgrants]

theorem clearFault_of_faulted {n : Nat} {m : MoveRecord} (h : s.move n = some m)
    (hm : m.state = .faulted ∨ m.state = .retryWait) :
    s.clearFault n = (s.returnFaulted n).endMoveEvent s := by
  unfold State.clearFault
  rcases hm with hm | hm <;> rw [moveState_eq h, hm]

theorem clearFault_of_other {n : Nat} {m : MoveRecord} (h : s.move n = some m)
    (hf : m.state ≠ .faulted) (hr : m.state ≠ .retryWait) : s.clearFault n = s.endMoveEvent s := by
  unfold State.clearFault
  rw [moveState_eq h]
  split
  · next hst => exact absurd (Option.some.inj hst) hf
  · next hst => exact absurd (Option.some.inj hst) hr
  · rfl

/-- What an evaluation at rest leaves of a bare record. -/
theorem evaluateAtRest_fields {n : Nat} {m : MoveRecord} (h : s.move n = some m)
    (hreason : m.faultReason = none) (htimer : m.retryTimer = none) (hret : m.retries = 0) :
    ∃ m', (s.evaluateAtRest n).move n = some m' ∧ m'.faultReason = none ∧ m'.retryTimer = none ∧
      m'.retries = 0 ∧ m'.classTold = m.classTold := by
  by_cases hn : s.nodeState n = some .online
  · by_cases hmov : s.reportsMotion n = true
    · rw [evaluateAtRest_of_moving h hn hmov]
      exact ⟨_, enterStopping_move h, rfl, rfl, hret, rfl⟩
    · by_cases hw : s.withinDeadband n = true
      · rw [evaluateAtRest_of_near h hn hmov hw]
        exact ⟨_, move_setMove_self h _, hreason, htimer, rfl, rfl⟩
      · rw [evaluateAtRest_of_far h hn hmov hw]
        exact ⟨_, move_setMove_self h _, rfl, rfl, hret, rfl⟩
  · rw [evaluateAtRest_of_offline h hn]
    exact ⟨m, h, hreason, htimer, hret, rfl⟩

/-- A fault cleared leaves no reason, no retry and no retry timer, whatever the evaluation and the
arbiter do then. -/
theorem returnFaulted_fields {n : Nat} {m : MoveRecord} (h : s.move n = some m) (before : State) :
    ∃ m', ((s.returnFaulted n).endMoveEvent before).move n = some m' ∧ m'.faultReason = none ∧
      m'.retries = 0 ∧ m'.retryTimer = none ∧ m'.classTold = m.classTold := by
  rw [returnFaulted_eq h]
  obtain ⟨m', hm', hreason, htimer, hret, hcls⟩ := evaluateAtRest_fields
    (move_setMove_self h { m.bare .atRest with retries := 0 }) rfl rfl rfl
  rcases endMoveEvent_keeps
      ((s.setMove n { m.bare .atRest with retries := 0 }).evaluateAtRest n) before n with
    ⟨hk, -⟩ | ⟨-, m2, dir, start, limit, hm2, hk⟩
  · exact ⟨m', hk.trans hm', hreason, hret, htimer, hcls⟩
  · rw [hm'] at hm2
    cases hm2
    exact ⟨_, hk, rfl, hret, rfl, hcls⟩

/-- The class told of opening `n` is the one it was. -/
def keepsClass (n : Nat) (s t : State) : Prop :=
  ∀ m, s.move n = some m → ∃ m', t.move n = some m' ∧ m'.classTold = m.classTold

theorem keepsClass.refl (n : Nat) (s : State) : keepsClass n s s := fun m h => ⟨m, h, rfl⟩

theorem keepsClass.trans {n : Nat} (h : keepsClass n s t) (h' : keepsClass n t u) :
    keepsClass n s u := fun m hm => by
  obtain ⟨m1, h1, hc1⟩ := h m hm
  obtain ⟨m2, h2, hc2⟩ := h' m1 h1
  exact ⟨m2, h2, hc2.trans hc1⟩

theorem enterStopping_keepsClass (s : State) (n : Nat) : keepsClass n s (s.enterStopping n) :=
  fun _ hm => ⟨_, enterStopping_move hm, rfl⟩

theorem evaluateAtRest_keepsClass (s : State) (n : Nat) : keepsClass n s (s.evaluateAtRest n) := by
  intro m h
  by_cases hn : s.nodeState n = some .online
  · by_cases hmov : s.reportsMotion n = true
    · rw [evaluateAtRest_of_moving h hn hmov]
      exact enterStopping_keepsClass s n m h
    · by_cases hw : s.withinDeadband n = true
      · rw [evaluateAtRest_of_near h hn hmov hw]
        exact ⟨_, move_setMove_self h _, rfl⟩
      · rw [evaluateAtRest_of_far h hn hmov hw]
        exact ⟨_, move_setMove_self h _, rfl⟩
  · rw [evaluateAtRest_of_offline h hn]
    exact ⟨m, h, rfl⟩

theorem enterAtRest_keepsClass (s : State) (n : Nat) : keepsClass n s (s.enterAtRest n) := by
  intro m h
  rw [enterAtRest_eq h]
  obtain ⟨m', hm', hc⟩ := evaluateAtRest_keepsClass _ n _ (move_setMove_self h (m.bare .atRest))
  exact ⟨m', hm', hc⟩

theorem moveFault_keepsClass (s : State) (n : Nat) (r : FaultReason) :
    keepsClass n s (s.moveFault n r) := by
  intro m h
  by_cases hr : retried m r = true
  · have hset := move_setMove_self h { m.bare .retryWait with retries := 1, retryTimer := some 10 }
    rw [moveFault_of_retried h hr]
    dsimp only
    split
    · exact ⟨_, queueOrder_move hset _, rfl⟩
    · exact ⟨_, hset, rfl⟩
  · rw [moveFault_of_not_retried h hr]
    exact ⟨_, enterFaulted_move h r, rfl⟩

theorem onReplyTravel_keepsClass (s : State) (r : ReplyTold) (m : MoveRecord) :
    keepsClass r.opening s (s.onReplyTravel r m) := by
  unfold State.onReplyTravel
  split
  · exact enterAtRest_keepsClass _ _
  · split
    · exact moveFault_keepsClass _ _ _
    · split
      · exact enterAtRest_keepsClass _ _
      · split
        · exact moveFault_keepsClass _ _ _
        · exact .refl _ _

theorem endMoveEvent_keepsClass (s before : State) (n : Nat) :
    keepsClass n s (s.endMoveEvent before) := by
  intro m h
  rcases endMoveEvent_keeps s before n with ⟨hk, -⟩ | ⟨-, m2, dir, start, limit, hm2, hk⟩
  · exact ⟨m, hk.trans h, rfl⟩
  · rw [h] at hm2
    cases hm2
    exact ⟨_, hk, rfl⟩

theorem respond_held (s : State) (m : Nat) (code : Byte) (a : Answer) :
    (s.respond m code a).link.held =
      some (s.formResponse s.store.movement.value.partAddress m code a) :=
  (hold_answered s _).2.1

/-- A response held leaves the movement controller and its reads as they stand. -/
theorem respond_move (s : State) (m : Nat) (code : Byte) (a : Answer) (n : Nat) :
    (s.respond m code a).move n = s.move n := by
  rw [State.move, show (s.respond m code a).moves = s.moves from
    respond_frame s m code a .moves (by simp)]
  rfl

theorem respond_bus (s : State) (m : Nat) (code : Byte) (a : Answer) :
    (s.respond m code a).bus = s.bus := respond_frame s m code a .bus (by simp)

theorem restsAs_respond {n k : Nat} {m : MoveRecord} {code : Byte} {a : Answer}
    (h : restsAs s t n m) : restsAs s (t.respond k code a) n m := by
  unfold restsAs stopOrdered at h ⊢
  rwa [respond_move, respond_bus, moveState_congr (respond_move t k code a n)]

theorem answered_of_respond {m : Nat} {code : Byte} {a : Answer} :
    answered [.link] s (s.respond m code a)
      (s.formResponse s.store.movement.value.partAddress m code a) := hold_answered s _

/-! ### What a told event comes to, by movement state -/

/-- The outcome of a target event for an opening whose record was `m`. -/
theorem onTarget_outcome (e : TargetTold) {m : MoveRecord} (hr1 : SameReads s t)
    (hmv1 : t.move e.opening = some m) :
    let v := (t.onTarget e).endMoveEvent t
    let told := { m with classTold := e.cls }
    let rearmed := isFireClass e.cls = true ∧ isFireClass m.classTold = false ∧
      ¬(m.faultReason = some .lost ∧ s.nodeState e.opening = some .lost)
    match m.state with
    | .unknown => v.move e.opening = some told
    | .atRest => restsAs s v e.opening told
    | .waitSlot =>
      (nearTarget s e.opening → restsAs s v e.opening (told.bare .atRest)) ∧
        (¬nearTarget s e.opening → v.move e.opening = some told ∨
          (s.nodeState e.opening = some .online ∧ v.moveState e.opening = some .breakaway))
    | .breakaway => e.changed = false → v.move e.opening = some told
    | .travel => e.changed = false → v.move e.opening = some told
    | .stopping => v.move e.opening = some told
    | .retryWait => v.move e.opening = some told
    | .faulted =>
      (rearmed → restsAs s v e.opening { told.bare .atRest with retries := 0 }) ∧
        (¬rearmed → v.move e.opening = some told) := by
  dsimp only
  have htold := move_setMove_self hmv1 { m with classTold := e.cls }
  have hrt : SameReads s (t.setMove e.opening { m with classTold := e.cls }) :=
    hr1.trans (setMove_actsOn _ _ _).reads
  have kept : m.state ≠ .waitSlot → ((t.setMove e.opening { m with classTold := e.cls }).endMoveEvent
      t).move e.opening = some { m with classTold := e.cls } := fun hst =>
    endMoveEvent_move_of_state (m := { m with classTold := e.cls }) htold hst t
  split
  · next hst =>
    rw [onTarget_of_kept hmv1 (.inl hst)]
    exact kept (by simp [hst])
  · next hst =>
    rw [onTarget_of_atRest hmv1 hst]
    exact restsAs_evaluateAtRest hrt htold hst (.refl _ _) _
  · next hst =>
    rw [onTarget_of_waitSlot hmv1 hst]
    dsimp only
    refine ⟨fun hnear => ?_, fun hfar => ?_⟩
    · rw [if_pos ((withinDeadband_iff _ _).mpr ((hrt.nearTarget _).mpr hnear))]
      exact restsAs_enterAtRest hrt htold (.refl _ _) _
    · rw [if_neg fun k => hfar ((hrt.nearTarget _).mp ((withinDeadband_iff _ _).mp k))]
      rcases endMoveEvent_move (t.setMove e.opening { m with classTold := e.cls }) t e.opening with
        hk | ⟨he, hb⟩
      · exact .inl (hk.trans htold)
      · exact .inr ⟨(hrt.nodeState _) ▸ eligible_online he, hb⟩
  · next hst =>
    intro hc
    rw [onTarget_of_moving hmv1 (.inl hst), hc]
    exact kept (by simp [hst])
  · next hst =>
    intro hc
    rw [onTarget_of_moving hmv1 (.inr hst), hc]
    exact kept (by simp [hst])
  · next hst =>
    rw [onTarget_of_kept hmv1 (.inr (.inl hst))]
    exact kept (by simp [hst])
  · next hst =>
    rw [onTarget_of_kept hmv1 (.inr (.inr hst))]
    exact kept (by simp [hst])
  · next hst =>
    rw [onTarget_of_faulted hmv1 hst]
    dsimp only
    have hiff := rearms_iff t e.opening m e.cls
    rw [hr1.nodeState] at hiff
    refine ⟨fun hyes => ?_, fun hno => ?_⟩
    · rw [if_pos (hiff.mpr hyes)]
      exact restsAs_returnFaulted hrt htold (.refl _ _) _
    · rw [if_neg fun k => hno (hiff.mp k)]
      exact kept (by simp [hst])

/-- The record of a travelling opening after a reply. -/
theorem onReply_travel_record {r : ReplyTold} {m : MoveRecord} (hr : SameReads s t)
    (hmv : t.move r.opening = some m) (hst : m.state = .travel) :
    ∃ m', ((t.onReply r).endMoveEvent t).move r.opening = some m' ∧ m'.classTold = m.classTold ∧
      (r.isolated = true → s.nodeState r.opening ≠ some .online →
        m'.state = .atRest ∧ m'.retries = m.retries ∧ m'.direction = none) ∧
      (r.isolated = false → r.overcurrent = true → isFireClass m.classTold = false →
        m'.state = .faulted ∧ m'.faultReason = some .jammed ∧ m'.direction = none) ∧
      (r.isolated = false → r.overcurrent = true → isFireClass m.classTold = true →
        m.retries = 0 →
        m'.state = .retryWait ∧ m'.retries = 1 ∧ m'.retryTimer = some 10) ∧
      (r.isolated = false → r.overcurrent = true → isFireClass m.classTold = true →
        m.retries = 1 → m'.state = .faulted ∧ m'.faultReason = some .jammed) := by
  rw [onReply_of_travel hmv hst]
  obtain ⟨m', hm', hcls⟩ := ((onReplyTravel_keepsClass t r m).trans
    (endMoveEvent_keepsClass _ t r.opening)) m hmv
  have jammed : r.isolated = false → r.overcurrent = true →
      faultTaken s ((t.onReplyTravel r m).endMoveEvent t) r.opening m .jammed := fun hi ho => by
    rw [State.onReplyTravel, if_neg (by simp [hi]), if_pos ho]
    exact faultTaken_moveFault hr hmv rfl rfl (.refl _ _) t
  have faulted : r.isolated = false → r.overcurrent = true →
      ¬(isFireClass m.classTold = true ∧ FaultReason.jammed ≠ .lost ∧ m.retries = 0) →
      m'.state = .faulted ∧ m'.faultReason = some .jammed ∧ m'.direction = none := fun hi ho hc => by
    obtain ⟨m2, hm2, hstate, hreason, hdir, -⟩ := faultTaken_faulted (jammed hi ho) hc
    rw [hm'] at hm2
    cases hm2
    exact ⟨hstate, hreason, hdir⟩
  refine ⟨m', hm', hcls, fun hi hoff => ?_, fun hi ho hc => ?_, fun hi ho hc hret => ?_,
    fun hi ho hc hret => ?_⟩
  · rw [State.onReplyTravel, if_pos hi] at hm'
    have hstand := (restsAs_enterAtRest hr hmv (.refl _ _) t).1 hoff
    rw [hm'] at hstand
    cases hstand
    exact ⟨rfl, rfl, rfl⟩
  · exact faulted hi ho fun h => by rw [hc] at h; cases h.1
  · obtain ⟨m2, hm2, hstate, hone, htimer, -⟩ :=
      faultTaken_retryWait (jammed hi ho) ⟨hc, by decide, hret⟩
    rw [hm'] at hm2
    cases hm2
    exact ⟨hstate, hone, htimer⟩
  · obtain ⟨hstate, hreason, -⟩ := faulted hi ho fun h => by rw [hret] at h; cases h.2.2
    exact ⟨hstate, hreason⟩

/-- The outcome of a reply for an opening whose record was `m`. -/
theorem onReply_outcome {r : ReplyTold} {m : MoveRecord} (hr : SameReads s t)
    (hw : t.weather = s.weather) (hmv : t.move r.opening = some m) (hms : t.move = s.move) :
    let v := (t.onReply r).endMoveEvent t
    let n := r.opening
    let stopped := r.motion = .stopped
    let atRest := restsAs s v n (m.bare .atRest)
    let kept := v.move n = some m
    match m.state with
    | .unknown =>
      (r.isolated = true ∨ stopped → atRest) ∧
        (r.isolated = false → ¬stopped → stopOrdered v n m)
    | .atRest => (r.isolated = true → kept) ∧ (r.isolated = false → restsAs s v n m)
    | .waitSlot =>
      (r.isolated = true → atRest) ∧
        (r.isolated = false → ¬stopped → stopOrdered v n m) ∧
        (r.isolated = false → stopped → nearTarget s n → atRest) ∧
        (r.isolated = false → stopped → ¬nearTarget s n →
          kept ∨ (s.eligible n = true ∧ v.moveState n = some .breakaway))
    | .breakaway =>
      (r.isolated = true → atRest) ∧
        (r.isolated = false → r.overcurrent = true → faultTaken s v n m .jammed) ∧
        (r.isolated = false → r.overcurrent = false → kept)
    | .travel =>
      (r.isolated = true → atRest) ∧
        (r.isolated = false → r.overcurrent = true → faultTaken s v n m .jammed) ∧
        (r.isolated = false → r.overcurrent = false →
          (stopped → nearTarget s n → atRest) ∧
          (stopped → ¬nearTarget s n → m.orderPending = false → faultTaken s v n m .stalled) ∧
          (stopped → ¬nearTarget s n → m.orderPending = true → kept) ∧
          (¬stopped → kept))
    | .stopping =>
      (r.isolated = true ∨ stopped → atRest) ∧ (r.isolated = false → ¬stopped → kept)
    | .retryWait => (r.isolated = true → atRest) ∧ (r.isolated = false → kept)
    | .faulted => kept := by
  dsimp only
  have no : ∀ {b : Bool}, b = false → ¬b = true := fun h => by simp [h]
  have rest := restsAs_enterAtRest hr hmv (.refl _ _) t
  have stop := stopOrdered_endMoveEvent hmv (.refl _ _) t
  have kept : m.state ≠ .waitSlot → (t.endMoveEvent t).move r.opening = some m :=
    fun hst => endMoveEvent_move_of_state hmv hst t
  have fault : ∀ reason, faultTaken s ((t.moveFault r.opening reason).endMoveEvent t) r.opening m
      reason := fun reason => faultTaken_moveFault hr hmv rfl rfl (.refl _ _) t
  have near := (withinDeadband_iff t r.opening).trans (hr.nearTarget r.opening)
  split
  · next hst =>
    rw [onReply_of_unknown hmv hst]
    refine ⟨fun h => ?_, fun hi hs => ?_⟩
    · split
      · exact rest
      · next hi =>
        rw [if_pos (h.resolve_left hi)]
        exact rest
    · rw [if_neg (no hi), if_neg hs]
      exact stop
  · next hst =>
    rw [onReply_of_atRest hmv hst]
    refine ⟨fun hi => ?_, fun hi => ?_⟩
    · rw [if_pos hi]
      exact kept (by simp [hst])
    · rw [if_neg (no hi)]
      exact restsAs_evaluateAtRest hr hmv hst (.refl _ _) t
  · next hst =>
    rw [onReply_of_waitSlot hmv hst]
    refine ⟨fun hi => ?_, fun hi hs => ?_, fun hi hs hn => ?_, fun hi hs hn => ?_⟩
    · rw [if_pos hi]
      exact rest
    · rw [if_neg (no hi), if_pos hs]
      exact stop
    · rw [if_neg (no hi), if_neg (not_not.mpr hs), if_pos (near.mpr hn)]
      exact rest
    · rw [if_neg (no hi), if_neg (not_not.mpr hs), if_neg fun k => hn (near.mp k)]
      rcases endMoveEvent_move t t r.opening with hk | ⟨he, hb⟩
      · exact .inl (hk.trans hmv)
      · refine .inr ⟨?_, hb⟩
        rwa [eligible_congr (congrFun hms _) hr.nodes hw] at he
  · next hst =>
    rw [onReply_of_breakaway hmv hst]
    refine ⟨fun hi => ?_, fun hi ho => ?_, fun hi ho => ?_⟩
    · rw [if_pos hi]
      exact rest
    · rw [if_neg (no hi), if_pos ho]
      exact fault _
    · rw [if_neg (no hi), if_neg (no ho)]
      exact kept (by simp [hst])
  · next hst =>
    rw [onReply_of_travel hmv hst, State.onReplyTravel]
    refine ⟨fun hi => ?_, fun hi ho => ?_, fun hi ho => ?_⟩
    · rw [if_pos hi]
      exact rest
    · rw [if_neg (no hi), if_pos ho]
      exact fault _
    · rw [if_neg (no hi), if_neg (no ho)]
      refine ⟨fun hs hn => ?_, fun hs hn hp => ?_, fun hs hn hp => ?_, fun hs => ?_⟩
      · rw [if_pos ⟨hs, near.mpr hn⟩]
        exact rest
      · rw [if_neg fun k => hn (near.mp k.2), if_pos ⟨hs, hp⟩]
        exact fault _
      · rw [if_neg fun k => hn (near.mp k.2), if_neg fun k => no k.2 hp]
        exact kept (by simp [hst])
      · rw [if_neg fun k => hs k.1, if_neg fun k => hs k.1]
        exact kept (by simp [hst])
  · next hst =>
    rw [onReply_of_stopping hmv hst]
    refine ⟨fun h => ?_, fun hi hs => ?_⟩
    · split
      · exact rest
      · next hi =>
        rw [if_pos (h.resolve_left hi)]
        exact rest
    · rw [if_neg (no hi), if_neg hs]
      exact kept (by simp [hst])
  · next hst =>
    rw [onReply_of_retryWait hmv hst]
    refine ⟨fun hi => ?_, fun hi => ?_⟩
    · rw [if_pos hi]
      exact rest
    · rw [if_neg (no hi)]
      exact kept (by simp [hst])
  · next hst =>
    rw [onReply_of_faulted hmv hst]
    exact kept (by simp [hst])

end Sys2Proof.Machine

namespace Sys2Proof.Proofs

open Sys2Proof.Machine

/-- Settles O25: the record of the returned opening is the one `returnFaulted` leaves, evaluated, and the
answer is formed on the state the event ends in. -/
theorem clearFaultReturnsOpening : Obligations.ClearFaultReturnsOpening := by
  intro m x s hm
  have hexec : ∀ a u, s.requestClearFault x = (u, a) →
      exec (.clearFault m x) s = .next (u.respond m 0x10#8 a) := fun a u h => by
    simp only [exec, execClearFault, if_pos hm, State.takeClearFault, h, Answered.respond]
  refine ⟨fun hoff => ?_, fun r hon hr => ⟨fun hst => ?_, fun hf hw => ?_⟩⟩
  · have h : s.requestClearFault x = (s, .refused .badField) := by
      simp only [State.requestClearFault, hoff, Bool.false_eq_true, if_false, State.refuse]
    exact ⟨_, _, hexec _ _ h, answered_of_respond, rfl⟩
  · have h : s.requestClearFault x = (s.clearFault x.toNat, .accepted
        ((s.clearFault x.toNat).faultPayload x.toNat ++ [reasonCode (s.faultReasonOf x.toNat)])) := by
      simp only [State.requestClearFault, hon, if_true]
    have hrest := restsAs_returnFaulted (SameReads.refl s) hr (.refl _ _) s
    obtain ⟨r', hr', hreason, hret, htimer, hcls⟩ := returnFaulted_fields hr s
    rw [← clearFault_of_faulted hr hst] at hrest hr'
    refine ⟨_, r', _, hexec _ _ h, restsAs_respond hrest, ?_, hreason, hret, htimer, hcls,
      fun hn => ?_, respond_held _ _ _ _, rfl, ?_⟩
    · rw [respond_move]
      exact hr'
    · have hstand := hrest.1 hn
      rw [hr'] at hstand
      rw [Option.some.inj hstand]
      rfl
    · simp [State.formResponse, Answer.accepted, State.faultPayload, hr', hreason, reasonCode,
        State.faultReasonOf, hr]
  · have h : s.requestClearFault x = (s.clearFault x.toNat, .accepted
        ((s.clearFault x.toNat).faultPayload x.toNat ++ [reasonCode (s.faultReasonOf x.toNat)])) := by
      simp only [State.requestClearFault, hon, if_true]
    have hsame := clearFault_of_other hr hf hw
    refine ⟨_, _, hexec _ _ h, fun hnone => ?_, ?_, respond_held _ _ _ _, rfl⟩
    · rw [hsame, endMoveEvent_self hnone]
      exact answered_of_respond
    · rw [respond_move, moveState_congr (respond_move _ _ _ _ _), hsame]
      rcases endMoveEvent_move s s x.toNat with hk | hb
      · exact .inl (hk.trans hr)
      · exact .inr hb

/-- Settles O48: each movement state has its own equation of `onTarget`. -/
theorem targetEventsRetarget : Obligations.TargetEventsRetarget := by
  refine ⟨fun n s m e rest p d hn hmv ht hm hd hp => ?_, fun n s m e rest hn hmv ht => ?_⟩
  · refine targetEvent_moving hn hmv ht hm fun v hv => ?_
    have hpv : v.position n = some p := (hv.position n).trans hp
    cases d with
    | up => rw [liesAhead_up hd hpv, hv.store]
    | down => rw [liesAhead_down hd hpv, hv.store]
  · obtain ⟨rfl, hexec⟩ := exec_targetEvent hn ht
    refine ⟨_, hexec, endMoveEvent_targets (onTarget_actsOn _ e) _, ?_⟩
    exact onTarget_outcome e (setMail_reads s { s.mail with targets := rest }) hmv

/-- Settles O49: each movement state has its own equation of `onReply`, whose branches are the steps of
the rule in their order. -/
theorem repliesEndTravel : Obligations.RepliesEndTravel := by
  refine ⟨fun n s m r rest hn hmv hst ht => ?_, fun n s m r rest hn hmv ht => ?_⟩
  · obtain ⟨rfl, hexec⟩ := exec_movementReply hn ht
    obtain ⟨m', hm', hcls, hall⟩ := 
      onReply_travel_record (setMail_reads s { s.mail with replies := rest }) hmv hst
    exact ⟨_, m', hexec, hm', endMoveEvent_replies (onReply_actsOn _ r) _, hcls, hall⟩
  · obtain ⟨rfl, hexec⟩ := exec_movementReply hn ht
    refine ⟨_, hexec, endMoveEvent_replies (onReply_actsOn _ r) _, ?_⟩
    exact onReply_outcome (setMail_reads s { s.mail with replies := rest }) rfl hmv rfl

end Sys2Proof.Proofs
end


section
/-! PROOFS. Order outcomes, lost nodes, the timers of the movement controller and the arbiter. -/
namespace Sys2Proof.Machine

open Sys2Proof

variable {s t u : State}

/-! ### Order outcomes and lost nodes -/

theorem orderOutstanding_eq_false {b : Bus} {n : Nat} (hq : ∀ q ∈ b.queue, q.opening ≠ n)
    (hf : ∀ f, b.inFlight = some f → f.order.opening ≠ n ∨ f.superseded = true) :
    b.orderOutstanding n = false := by
  have hnone : ¬hasOrder b.queue n = true := fun h => by
    obtain ⟨q, hqm, hqn⟩ := (hasOrder_iff _ _).mp h
    exact hq q hqm hqn
  rw [Bus.orderOutstanding, Bool.eq_false_iff.mpr hnone, Bool.false_or]
  split
  · next f hfl =>
    rcases hf f hfl with h | h
    · simp [h]
    · simp [h]
  · rfl

theorem onOutcome_eq {o : OutcomeTold} {m : MoveRecord} (h : s.move o.opening = some m) :
    s.onOutcome o =
      s.setMove o.opening { m with orderPending := s.bus.orderOutstanding o.opening } := by
  simp only [State.onOutcome, h]

theorem onLost_of_underway {n : Nat} {m : MoveRecord} (h : s.move n = some m)
    (hm : m.state = .breakaway ∨ m.state = .travel ∨ m.state = .stopping) :
    s.onLost n = s.moveFault n .lost := by
  unfold State.onLost
  rcases hm with hm | hm | hm <;> rw [moveState_eq h, hm]

theorem onLost_of_other {n : Nat} {m : MoveRecord} (h : s.move n = some m)
    (hm : ¬(m.state = .breakaway ∨ m.state = .travel ∨ m.state = .stopping)) : s.onLost n = s := by
  unfold State.onLost
  rw [moveState_eq h]
  split
  · next hst => exact absurd (.inl (Option.some.inj hst)) hm
  · next hst => exact absurd (.inr (.inl (Option.some.inj hst))) hm
  · next hst => exact absurd (.inr (.inr (Option.some.inj hst))) hm
  · rfl

theorem endMoveEvent_outcomes (before : State) :
    (s.endMoveEvent before).mail.outcomes = s.mail.outcomes := by
  rw [endMoveEvent_mail]

/-- Whether the arbiter may choose an opening rests on the state and the class of its record. -/
theorem eligible_setMove {n : Nat} {m m' : MoveRecord} (h : s.move n = some m)
    (hst : m'.state = m.state) (hc : m'.classTold = m.classTold) :
    (s.setMove n m').eligible n = s.eligible n := by
  simp only [State.eligible, move_setMove_self h, h, hst, hc,
    (setMove_actsOn s n m').reads.nodeState]
  rfl

/-- A waiting opening whose node is not ONLINE keeps its record at the end of an event. -/
theorem endMoveEvent_move_of_offline {n : Nat} (h : s.nodeState n ≠ some .online) (before : State) :
    (s.endMoveEvent before).move n = s.move n := by
  rcases endMoveEvent_move s before n with hm | ⟨he, -⟩
  · exact hm
  · exact absurd (eligible_online he) h

/-- What the loss of its node leaves of an opening's record. -/
theorem onLost_record {n : Nat} {m : MoveRecord} (hr : SameReads s t) (h : t.move n = some m) :
    ∃ m', ((t.onLost n).endMoveEvent t).move n = some m' ∧
      (m.state = .breakaway ∨ m.state = .travel ∨ m.state = .stopping →
        m'.state = .faulted ∧ m'.faultReason = some .lost ∧ m'.stopTimer = none ∧
          m'.deadline = none) ∧
      (m.state = .unknown ∨ m.state = .atRest ∨ m.state = .retryWait ∨ m.state = .faulted →
        m' = m) ∧
      (m.state = .waitSlot → s.nodeState n ≠ some .online → m' = m) := by
  by_cases hm : m.state = .breakaway ∨ m.state = .travel ∨ m.state = .stopping
  · rw [onLost_of_underway h hm]
    obtain ⟨m', hm', hst, hreason, -, hdl, hstop, -⟩ := faultTaken_faulted
      (faultTaken_moveFault (m := m) (reason := .lost) hr h rfl rfl (.refl _ _) t)
      fun hc => hc.2.1 rfl
    refine ⟨m', hm', fun _ => ⟨hst, hreason, hstop, hdl⟩, fun hother => ?_, fun hw => ?_⟩
    · rcases hm with hm | hm | hm <;> simp [hm] at hother
    · rcases hm with hm | hm | hm <;> simp [hm] at hw
  · rw [onLost_of_other h hm]
    by_cases hw : m.state = .waitSlot
    · by_cases hon : s.nodeState n = some .online
      · rcases endMoveEvent_keeps t t n with ⟨hk, -⟩ | ⟨-, m2, dir, start, limit, -, hk⟩
        · exact ⟨m, hk.trans h, fun hu => absurd hu hm, fun _ => rfl, fun _ _ => rfl⟩
        · exact ⟨_, hk, fun hu => absurd hu hm, fun hother => by simp [hw] at hother,
            fun _ hoff => absurd hon hoff⟩
      · have hoff : t.nodeState n ≠ some .online := by rwa [hr.nodeState]
        exact ⟨m, (endMoveEvent_move_of_offline hoff t).trans h, fun hu => absurd hu hm,
          fun _ => rfl, fun _ _ => rfl⟩
    · exact ⟨m, endMoveEvent_move_of_state h hw t, fun hu => absurd hu hm, fun _ => rfl,
        fun hyes => absurd hyes hw⟩

/-! ### Timers at their last second -/

/-- A timer with one second left runs out. -/
theorem runsOut_one {o : Option Nat} (h : o = some 1) : runsOut o = true := by rw [h]; rfl

theorem runsOut_of_more {o : Option Nat} {k : Nat} (h : o = some (k + 2)) : runsOut o = false := by
  rw [h]
  exact decide_eq_false (Nat.not_le.mpr (Nat.lt_add_left k (Nat.lt_succ_self 1)))

theorem not_runsOut_of_more {o : Option Nat} {k : Nat} (h : o = some (k + 2)) : ¬runsOut o = true := by
  rw [runsOut_of_more h]
  decide

theorem countDown_succ {o : Option Nat} {k : Nat} (h : o = some (k + 1)) : countDown o = some k := by
  rw [h]
  rfl

/-- The target within the deadband of a given position, as the statements spell it. -/
def nearAt (s : State) (n x : Nat) : Prop :=
  ∃ y, s.target n = some y ∧ (y - x) + (x - y) ≤ (s.store.opening n).deadband

theorem deadbandHolds_iff_nearAt (s : State) (n x : Nat) :
    s.deadbandHolds n (some x) = true ↔ nearAt s n x := deadbandHolds_iff s n x

/-- A progress window that ends: headway, or the deadband, starts it again; else the move stalls. -/
theorem judgeHeadway_outcome {n x q : Nat} {d : Direction} {m m' : MoveRecord} (hr : SameReads s t)
    (h : t.move n = some m') (hx : t.judgedPosition n = some x) (hd : m'.direction = some d)
    (hq : m'.progressRef = some q) (hst : m'.state ≠ .waitSlot) (hcls : m'.classTold = m.classTold)
    (hret : m'.retries = m.retries) (hv : Spares n (t.judgeHeadway n) u) (before : State) :
    (nearAt s n x ∨ headwayFrom d q x → (u.endMoveEvent before).move n =
        some { m' with progressRef := some x, progressWindow := some 5 }) ∧
      (¬nearAt s n x → ¬headwayFrom d q x →
        faultTaken s (u.endMoveEvent before) n m .stalled) := by
  have hnear : t.deadbandHolds n (some x) = true ↔ nearAt s n x := by
    rw [hr.deadbandHolds, deadbandHolds_iff_nearAt]
  have hway := headwayMade_iff hd hq x
  refine ⟨fun hyes => ?_, fun hn hh => ?_⟩
  · rw [judgeHeadway_of_made h hx (hyes.imp hnear.mpr hway.mpr)] at hv
    exact endMoveEvent_move_of_state
      (m := { m' with progressRef := some x, progressWindow := some 5 })
      (hv.move.trans (move_setMove_self h _)) hst before
  · rw [judgeHeadway_of_stalled h hx (fun k => hn (hnear.mp k)) fun k => hh (hway.mp k)] at hv
    exact faultTaken_moveFault hr h hcls hret hv before

/-- A fault of an opening with no fire class, at the end of the event. -/
theorem faulted_of_moveFault {n : Nat} {m : MoveRecord} {reason : FaultReason} (h : s.move n = some m)
    (hc : isFireClass m.classTold = false) :
    ∃ m', ((s.moveFault n reason).endMoveEvent s).move n = some m' ∧ m'.state = .faulted ∧
      m'.faultReason = some reason ∧ m'.stopTimer = none := by
  obtain ⟨m', hm', hst, hreason, -, -, hstop, -⟩ := faultTaken_faulted
    (faultTaken_moveFault (m := m) (reason := reason) (.refl s) h rfl rfl (.refl _ _) s)
    fun hf => by rw [hc] at hf; cases hf.1
  exact ⟨m', hm', hst, hreason, hstop⟩

/-! ### The one-second event of one opening

From `s` the openings before `n` take their second, which leaves `n` as it is in `u`; then `n` takes
its own, and the others follow, which leaves it as it is in `t`. -/

section
variable {n : Nat} {m : MoveRecord} (hu : Spares n s u) (ht : Spares n (u.moveSecond n) t)
  (hmv : s.move n = some m)
include hu ht hmv

omit hu hmv in
/-- The record an opening keeps through the rest of the event, where it does not wait. -/
theorem tick_kept {m' : MoveRecord} (h : (u.moveSecond n).move n = some m')
    (hst : m'.state ≠ .waitSlot) : (t.endMoveEvent s).move n = some m' :=
  endMoveEvent_move_of_state (ht.move.trans h) hst s

theorem tick_waitSlot {a : Nat} (hst : m.state = .waitSlot) (ha : m.waitAge = some a) :
    t.move n = some { m with waitAge := some (min (a + 1) 65534) } := by
  have hmu := hu.move.trans hmv
  rw [moveSecond_of_waitSlot hmu hst, ha] at ht
  exact ht.move.trans (move_setMove_self hmu _)

theorem tick_breakaway {k d : Nat} (hst : m.state = .breakaway) (hb : m.breakaway = some (k + 2))
    (hd : m.deadline = some (d + 1)) : (t.endMoveEvent s).move n =
      some { m with breakaway := some (k + 1), deadline := some d } := by
  have hmu := hu.move.trans hmv
  refine tick_kept ht ?_ (by simp [hst])
  rw [moveSecond_of_breakaway hmu hst, runsOut_of_more hb, countDown_succ hb, countDown_succ hd]
  exact move_setMove_self hmu _

theorem tick_breakaway_end {d p : Nat} (hst : m.state = .breakaway) (hb : m.breakaway = some 1)
    (hd : m.deadline = some (d + 1)) (hp : s.position n = some p) : (t.endMoveEvent s).move n =
      some { m with
        state := .travel
        breakaway := none
        deadline := some d
        progressRef := some p
        progressWindow := some 5 } := by
  have hmu := hu.move.trans hmv
  refine tick_kept ht ?_ (by simp)
  rw [moveSecond_of_breakaway hmu hst, countDown_succ hd]
  dsimp only
  rw [if_pos (runsOut_one hb)]
  refine endBreakaway_move (move_setMove_self hmu _) ?_
  rw [(setMove_actsOn u n _).reads.position, hu.reads.position, hp]

theorem tick_travel {d w : Nat} (hst : m.state = .travel) (hd : m.deadline = some (d + 2))
    (hw : m.progressWindow = some (w + 2)) : (t.endMoveEvent s).move n =
      some { m with deadline := some (d + 1), progressWindow := some (w + 1) } := by
  have hmu := hu.move.trans hmv
  refine tick_kept ht ?_ (by simp [hst])
  rw [moveSecond_of_travel hmu hst, runsOut_of_more hd, runsOut_of_more hw, countDown_succ hd,
    countDown_succ hw]
  exact move_setMove_self hmu _

theorem tick_overtime (hst : m.state = .travel) (hd : m.deadline = some 1) :
    faultTaken s (t.endMoveEvent s) n m .overtime := by
  have hmu := hu.move.trans hmv
  rw [moveSecond_of_travel hmu hst] at ht
  dsimp only at ht
  rw [if_pos (runsOut_one hd)] at ht
  exact faultTaken_moveFault (hu.reads.trans (setMove_actsOn u n _).reads) (move_setMove_self hmu _)
    rfl rfl ht s

theorem tick_window {k q x : Nat} {d : Direction} (hst : m.state = .travel)
    (hw : m.progressWindow = some 1) (hd : m.deadline = some (k + 2)) (hdir : m.direction = some d)
    (hq : m.progressRef = some q) (hx : s.judgedPosition n = some x) :
    (nearAt s n x ∨ headwayFrom d q x → (t.endMoveEvent s).move n = some { m with
        deadline := some (k + 1), progressRef := some x, progressWindow := some 5 }) ∧
      (¬nearAt s n x → ¬headwayFrom d q x →
        faultTaken s (t.endMoveEvent s) n m .stalled) := by
  have hmu := hu.move.trans hmv
  rw [moveSecond_of_travel hmu hst] at ht
  dsimp only at ht
  rw [if_neg (not_runsOut_of_more hd), if_pos (runsOut_one hw), countDown_succ hd] at ht
  have hr : SameReads s (u.setMove n
      { m with deadline := some (k + 1), progressWindow := countDown m.progressWindow }) :=
    hu.reads.trans (setMove_actsOn u n _).reads
  have hreplies : u.mail.replies = s.mail.replies := by rw [hu.mail]
  have hjudged := (judgedPosition_congr (n := n) hr hreplies).trans hx
  exact judgeHeadway_outcome (m := m) hr (move_setMove_self hmu _) hjudged hdir hq (by simp [hst])
    rfl rfl ht s

theorem tick_stopping {k : Nat} (hst : m.state = .stopping) (hk : m.stopTimer = some (k + 2)) :
    (t.endMoveEvent s).move n = some { m with stopTimer := some (k + 1) } := by
  have hmu := hu.move.trans hmv
  refine tick_kept ht ?_ (by simp [hst])
  rw [moveSecond_of_stopping hmu hst, if_neg (not_runsOut_of_more hk), countDown_succ hk]
  exact move_setMove_self hmu _

theorem tick_noStop (hst : m.state = .stopping) (hk : m.stopTimer = some 1) :
    faultTaken s (t.endMoveEvent s) n m .noStop := by
  have hmu := hu.move.trans hmv
  rw [moveSecond_of_stopping hmu hst, if_pos (runsOut_one hk)] at ht
  exact faultTaken_moveFault hu.reads hmu rfl rfl ht s

theorem tick_retryWait {k : Nat} (hst : m.state = .retryWait) (hk : m.retryTimer = some (k + 2)) :
    (t.endMoveEvent s).move n = some { m with retryTimer := some (k + 1) } := by
  have hmu := hu.move.trans hmv
  refine tick_kept ht ?_ (by simp [hst])
  rw [moveSecond_of_retryWait hmu hst, if_neg (not_runsOut_of_more hk), countDown_succ hk]
  exact move_setMove_self hmu _

theorem tick_retry_end (hst : m.state = .retryWait) (hk : m.retryTimer = some 1) :
    restsAs s (t.endMoveEvent s) n (m.bare .atRest) := by
  have hmu := hu.move.trans hmv
  rw [moveSecond_of_retryWait hmu hst, if_pos (runsOut_one hk)] at ht
  exact restsAs_enterAtRest hu.reads hmu ht s

theorem tick_still (hst : m.state = .unknown ∨ m.state = .atRest ∨ m.state = .faulted) :
    (t.endMoveEvent s).move n = some m := by
  have hmu := hu.move.trans hmv
  refine tick_kept ht ?_ (by rcases hst with h | h | h <;> simp [h])
  rw [moveSecond_of_still hmu hst]
  exact hmu

end

end Sys2Proof.Machine

namespace Sys2Proof.Proofs

open Sys2Proof.Machine

/-- Settles O50: an outcome leaves order pending where an order is still outstanding, and none is here;
a lost node is a fault that is never retried. -/
theorem outcomesAndLoss : Obligations.OutcomesAndLoss := by
  refine ⟨fun n s m o rest hn hmv ht hq hf => ?_, fun n s m rest hn hmv ht => ?_⟩
  · obtain ⟨rfl, hexec⟩ := exec_orderOutcome hn ht
    have hmv1 : (s.setMail { s.mail with outcomes := rest }).move o.opening = some m := hmv
    have hnone : (s.setMail { s.mail with outcomes := rest }).bus.orderOutstanding o.opening = false :=
      orderOutstanding_eq_false hq hf
    have hset := move_setMove_self hmv1 { m with orderPending := false }
    rw [onOutcome_eq hmv1, hnone] at hexec
    refine ⟨_, hexec, endMoveEvent_outcomes _, fun hst => ?_, fun hst => ?_⟩
    · exact endMoveEvent_move_of_state (m := { m with orderPending := false }) hset hst _
    · rcases endMoveEvent_move ((s.setMail { s.mail with outcomes := rest }).setMove o.opening
          { m with orderPending := false }) (s.setMail { s.mail with outcomes := rest }) o.opening with
        hk | ⟨he, hb⟩
      · exact .inl (hk.trans hset)
      · refine .inr ⟨?_, hb⟩
        rw [eligible_setMove (m' := { m with orderPending := false }) hmv1 rfl rfl] at he
        exact he
  · obtain ⟨m', hm', hall⟩ := onLost_record (t := s.setMail { s.mail with lost := rest })
      (setMail_reads s { s.mail with lost := rest }) hmv
    exact ⟨_, m', exec_nodeLostEvent hn ht, endMoveEvent_lost (onLost_actsOn _ n) _, hm', hall⟩

/-- Settles O51: each row runs its operation where its timer has one second left. -/
theorem movementTimers : Obligations.MovementTimers := by
  intro n s m p hn hmv hp
  refine ⟨fun hst ht => ?_, fun hst ht hc => ?_, fun hst hw hd hc => ?_,
    fun q x k d hst hw hd hq hdir hx => ?_, fun hst ht hc => ?_, fun hst ht hoff => ?_,
    fun hst ha hoff => ?_⟩
  · exact ⟨_, next_of_timerRow (p := fun m => m.state = .breakaway ∧ runsOut m.breakaway = true) rfl
      hn hmv ⟨hst, runsOut_one ht⟩,
      endMoveEvent_move_of_state (endBreakaway_move hmv hp) (by simp) s⟩
  · obtain ⟨m', hm', hf, hreason, -⟩ := faulted_of_moveFault (reason := .overtime) hmv hc
    exact ⟨_, m', next_of_timerRow (p := fun m => m.state = .travel ∧ runsOut m.deadline = true) rfl
      hn hmv ⟨hst, runsOut_one ht⟩, hm', hf, hreason⟩
  · obtain ⟨m', hm', hf, hreason, -⟩ := faulted_of_moveFault (reason := .overtime) hmv hc
    have hrow := next_of_timerRow (p := fun m => m.state = .travel ∧ runsOut m.progressWindow = true)
      (o := exec (.progressWindowEnd n) s) rfl hn hmv ⟨hst, runsOut_one hw⟩
    rw [if_pos (runsOut_one hd)] at hrow
    exact ⟨_, m', hrow, hm', hf, hreason⟩
  · have hrow := next_of_timerRow (p := fun m => m.state = .travel ∧ runsOut m.progressWindow = true)
      (o := exec (.progressWindowEnd n) s) rfl hn hmv ⟨hst, runsOut_one hw⟩
    rw [if_neg (not_runsOut_of_more hd)] at hrow
    have hjudged : s.judgedPosition n = some x :=
      judgedPosition_eq (by
        rcases hx with ⟨h, rfl⟩ | h
        · exact .inl ⟨h, hp⟩
        · exact .inr h)
    obtain ⟨hmade, hstall⟩ := judgeHeadway_outcome (m := m) (SameReads.refl s) hmv hjudged hdir hq
      (by simp [hst]) rfl rfl (.refl _ _) s
    by_cases hok : nearAt s n x ∨ headwayFrom d q x
    · refine ⟨_, _, hrow, hmade hok, fun _ => rfl, fun hn hh => absurd hok ?_⟩
      exact not_or.mpr ⟨hn, hh⟩
    · obtain ⟨hnear, hway⟩ := not_or.mp hok
      have hfault := hstall hnear hway
      obtain ⟨m', hm', -⟩ := id hfault
      refine ⟨_, m', hrow, hm', fun hyes => absurd hyes hok, fun _ _ hc => ?_⟩
      obtain ⟨m2, hm2, hf, hreason, -⟩ := faultTaken_faulted hfault fun h => by
        rw [hc] at h
        cases h.1
      rw [hm'] at hm2
      cases hm2
      exact ⟨hf, hreason⟩
  · obtain ⟨m', hm', hf, hreason, hstop⟩ := faulted_of_moveFault (reason := .noStop) hmv hc
    exact ⟨_, m', next_of_timerRow (p := fun m => m.state = .stopping ∧ runsOut m.stopTimer = true) rfl
      hn hmv ⟨hst, runsOut_one ht⟩, hm', hf, hreason, hstop⟩
  · exact ⟨_, m.bare .atRest, next_of_timerRow
      (p := fun m => m.state = .retryWait ∧ runsOut m.retryTimer = true) rfl hn hmv
      ⟨hst, runsOut_one ht⟩, (restsAs_enterAtRest (SameReads.refl s) hmv (.refl _ _) s).1 hoff, rfl,
      rfl, rfl⟩
  · refine ⟨_, next_of_timerRow
      (p := fun m => m.state = .waitSlot ∧ m.waitAge = some Config.startWaitSeconds) rfl hn hmv
      ⟨hst, ha⟩, ?_⟩
    have hoff' : (s.setMove n { m with waitAge := some (Config.startWaitSeconds + 1) }).nodeState n ≠
        some .online := by rwa [(setMove_actsOn _ _ _).reads.nodeState]
    exact (endMoveEvent_move_of_offline hoff' s).trans (move_setMove_self hmv _)

/-- Settles O52: every opening takes its own second as it stood, whatever the others do in theirs. -/
theorem movementTickCounts : Obligations.MovementTickCounts := by
  intro s
  refine ⟨_, rfl, fun n m hn hmv => ?_⟩
  obtain ⟨u, hu, ht⟩ := movementTick_split s hn
  have hoffline : s.nodeState n ≠ some .online →
      (openingNumbers.foldl State.moveSecond s).nodeState n ≠ some .online := fun hoff => by
    rwa [ht.reads.nodeState, (moveSecond_actsOn u n).reads.nodeState, hu.reads.nodeState]
  refine ⟨fun a hst ha hoff => ?_, fun k d hst hb hd => tick_breakaway hu ht hmv hst hb hd,
    fun d w hst hd hw => tick_travel hu ht hmv hst hd hw,
    fun k hst hk => tick_stopping hu ht hmv hst hk,
    fun k hst hk => tick_retryWait hu ht hmv hst hk, fun hst => tick_still hu ht hmv hst,
    fun a hst ha _ => ?_, fun hst ha hoff hlow => ?_,
    fun d p hst hb hd hp => tick_breakaway_end hu ht hmv hst hb hd hp,
    fun hst hd => tick_overtime hu ht hmv hst hd,
    fun k d q x hst hw hd hdir hq hx =>
      tick_window hu ht hmv hst hw hd hdir hq (judgedPosition_eq hx),
    fun hst hk => tick_noStop hu ht hmv hst hk, fun hst hk => tick_retry_end hu ht hmv hst hk⟩
  · exact (endMoveEvent_move_of_offline (hoffline hoff) s).trans (tick_waitSlot hu ht hmv hst ha)
  · rcases endMoveEvent_move (openingNumbers.foldl State.moveSecond s) s n with hk | ⟨-, hb⟩
    · exact .inl (hk.trans (tick_waitSlot hu ht hmv hst ha))
    · exact .inr hb
  · exact endMoveEvent_reports_startWait hlow (startWait_of_waits
      (m := { m with waitAge := some (min (60 + 1) 65534) }) hn (tick_waitSlot hu ht hmv hst ha) hst
      rfl (by decide))

/-- Settles O53: the arbiter's search finds the opening no other stands ahead of. -/
theorem slotGrantServesHighest : Obligations.SlotGrantServesHighest := by
  intro s n m target p hn hmv ht hp hfree he hfirst
  have hone : s.grantOne = some (s.grant n) := by
    have hslot : s.slotFree = true := decide_eq_true hfree
    simp only [State.grantOne, hslot, if_true, choice_of_first hn he hfirst]
  have hgrant := grant_move hmv ht
  rw [hp] at hgrant
  have hexec : exec .slotGrant s = .next ((s.grant n).announceMoves s) := by
    simp only [exec, execSlotGrant, hone]
  refine ⟨_, _, hexec, (announceMoves_move _ _ _).trans hgrant, rfl,
    rfl, rfl, rfl, rfl, rfl, ?_⟩
  rw [announceMoves_bus]
  exact mem_grant hmv ht

end Sys2Proof.Proofs
end


section
/-! PROOFS. The supervisory link as a line, and the frames taken from it. -/
namespace Sys2Proof.Machine

open Sys2Proof

variable {s t u : State}

/-! ### The receiver -/

theorem Link.byteArrives_of_quiet {l : Link} (hs : l.sending = none) (hh : l.held = none) (b : Byte)
    (misframed : Bool) : l.byteArrives b misframed = l.receive b misframed := by
  rw [Link.byteArrives, hs, Link.discardHeld, hh]

theorem Link.byteArrives_of_held {l : Link} {r : Response} (hs : l.sending = none)
    (hh : l.held = some r) (b : Byte) (misframed : Bool) : l.byteArrives b misframed =
      Link.receive { l with held := none, restartDue := l.restartDue || r.restarts } b misframed := by
  simp only [Link.byteArrives, hs, Link.discardHeld, hh]

theorem Link.receive_of_idle {l : Link} (h : l.rx = .idle) (b : Byte) (misframed : Bool) :
    l.receive b misframed = { l with rx := .receiving, buffer := [b], misframed := misframed } := by
  rw [Link.receive, h]

theorem Link.receive_of_room {l : Link} (h : l.rx = .receiving) (hlen : l.buffer.length < 206)
    (b : Byte) (misframed : Bool) : l.receive b misframed =
      { l with buffer := l.buffer ++ [b], misframed := l.misframed || misframed } := by
  rw [Link.receive, h]
  exact if_pos hlen

theorem Link.receive_of_full {l : Link} (h : l.rx = .receiving) (hlen : 206 ≤ l.buffer.length)
    (b : Byte) (misframed : Bool) : l.receive b misframed =
      { l with rx := .discarding, buffer := [], misframed := false } := by
  rw [Link.receive, h]
  exact if_neg (Nat.not_lt.mpr hlen)

theorem Link.receive_of_discarding {l : Link} (h : l.rx = .discarding) (b : Byte) (misframed : Bool) :
    l.receive b misframed = l := by
  rw [Link.receive, h]

/-- A byte moves no part of the link but the receiver and its buffer. -/
theorem Link.receive_others (l : Link) (b : Byte) (misframed : Bool) :
    (l.receive b misframed).held = l.held ∧ (l.receive b misframed).sending = l.sending ∧
      (l.receive b misframed).deferred = l.deferred ∧
      (l.receive b misframed).restartDue = l.restartDue := by
  unfold Link.receive
  split
  · exact ⟨rfl, rfl, rfl, rfl⟩
  · split <;> exact ⟨rfl, rfl, rfl, rfl⟩
  · exact ⟨rfl, rfl, rfl, rfl⟩

theorem Response.restarts_iff (due : Bool) (r : Response) : (due || r.restarts) = true ↔
    due = true ∨ (r.code = 0x92#8 ∧ r.status = .accepted) := by
  simp only [Response.restarts, Bool.or_eq_true, Bool.and_eq_true, beq_iff_eq]

/-! ### The frame checks -/

theorem isSupervisor_iff (m : Nat) : isSupervisor m = true ↔ 1 ≤ m ∧ m ≤ 4 := by
  simp only [isSupervisor, Config.supervisorCount, Bool.and_eq_true, decide_eq_true_eq]
  exact and_congr_right fun _ => decide_eq_true_iff

theorem checkHolds_withCheck (bytes : List Byte) : checkHolds (withCheck bytes) = true := by
  have hlen : (withCheck bytes).length - 2 = bytes.length := by
    simp [withCheck, splitWord]
  simp [checkHolds, hlen]
  simp [withCheck, splitWord]

section
variable (partAddress m : Nat) (code : Byte) (payload : List Byte)

theorem requestFrame_length :
    (requestFrame partAddress m code payload).length = 6 + payload.length := by
  simp [requestFrame, withCheck, splitWord]
  omega

theorem requestFrame_payload :
    ((requestFrame partAddress m code payload).drop 4).take
      ((requestFrame partAddress m code payload).length - 6) = payload := by
  rw [requestFrame_length, Nat.add_sub_cancel_left]
  simp [requestFrame, withCheck]

theorem frameChecks_requestFrame (h : payload.length ≤ 200) :
    frameChecks (requestFrame partAddress m code payload) = true := by
  have hcount : (byteOf payload.length).toNat = payload.length := by
    simp only [byteOf, BitVec.toNat_ofNat]
    omega
  have hat : (requestFrame partAddress m code payload).getD 3 0 = byteOf payload.length := rfl
  simp only [frameChecks, hat, hcount, requestFrame_length, Bool.and_eq_true, decide_eq_true_eq,
    beq_iff_eq, Config.payloadMax]
  exact ⟨⟨⟨by omega, h⟩, trivial⟩, checkHolds_withCheck _⟩

theorem addressChecks_requestFrame (ha : partAddress ≤ 31) (hm : isSupervisor m = true)
    (hc : code.toNat < 0x80) :
    addressChecks partAddress (requestFrame partAddress m code payload) = true := by
  have hm' := (isSupervisor_iff m).mp hm
  have hdest : (requestFrame partAddress m code payload).getD 0 0 = byteOf partAddress := rfl
  have hsource : (requestFrame partAddress m code payload).getD 1 0 = byteOf m := rfl
  have hcode : (requestFrame partAddress m code payload).getD 2 0 = code := rfl
  have hsource' : (byteOf m).toNat = m := by
    simp only [byteOf, BitVec.toNat_ofNat]
    omega
  have hdest' : (byteOf partAddress).toNat = partAddress := by
    simp only [byteOf, BitVec.toNat_ofNat]
    omega
  simp only [addressChecks, hdest, hsource, hcode, hsource', hdest', hm, hc, beq_self_eq_true,
    Bool.true_and, decide_true]

end

/-- A frame of `requestFrame` is taken as the request it carries. -/
theorem takeFrame_requestFrame {m : Nat} {code : Byte} {payload : List Byte} (hm : isSupervisor m = true)
    (ha : s.store.movement.value.partAddress ≤ 31) (hc : code.toNat < 0x80)
    (hlen : payload.length ≤ 200) :
    s.takeFrame (requestFrame s.store.movement.value.partAddress m code payload) false =
      s.takeRequest m code payload := by
  have hsource : ((requestFrame s.store.movement.value.partAddress m code payload).getD 1 0).toNat =
      m := by
    have hm' := (isSupervisor_iff m).mp hm
    change (byteOf m).toNat = m
    simp only [byteOf, BitVec.toNat_ofNat]
    omega
  unfold State.takeFrame
  rw [frameChecks_requestFrame _ _ _ _ hlen, addressChecks_requestFrame _ _ _ _ ha hm hc,
    requestFrame_payload, hsource]
  rfl

/-- Every request of a supervisor has a code below 0x80 and fits a frame. -/
theorem requestParts_bounds {i : Instr} {m : Nat} {code : Byte} {payload : List Byte}
    (h : requestParts i = some (m, code, payload)) (hw : i.wellFormed = true) :
    isSupervisor m = true ∧ code.toNat < 0x80 ∧ payload.length ≤ 200 := by
  cases i
  case configure m' kind index value =>
    cases h
    simp only [Instr.wellFormed, Bool.and_eq_true, Config.payloadMax] at hw
    exact ⟨hw.1, by decide, of_decide_eq_true hw.2⟩
  case listRecords m' f =>
    rcases f with _ | ⟨kind, number⟩ <;> cases h
    · exact ⟨hw, by decide, by simp⟩
    · exact ⟨hw, by decide, by simp⟩
  all_goals first
    | contradiction
    | (cases h; exact ⟨hw, by decide, by simp [placePayload, setPayload, splitWord]⟩)

theorem execFrameTaken_of_receiving (hrx : s.link.rx = .receiving) (hs : s.link.sending = none) :
    exec .frameTaken s = .next ((s.setLink (s.link.emptied .idle)).takeFrame s.link.buffer
      s.link.misframed) := if_pos ⟨hrx, hs⟩

/-- A frame that fails a check is taken as nothing. -/
theorem takeFrame_of_failed {frame : List Byte} {misframed : Bool}
    (h : misframed = true ∨ frame.length < 6 ∨ 200 < (frame.getD 3 0).toNat ∨
      frame.length ≠ 6 + (frame.getD 3 0).toNat ∨
      frame.drop (frame.length - 2) ≠ splitWord (crc16 (frame.take (frame.length - 2))) ∨
      (frame.getD 0 0).toNat ≠ s.store.movement.value.partAddress ∨
      isSupervisor (frame.getD 1 0).toNat = false ∨ 0x80 ≤ (frame.getD 2 0).toNat) :
    s.takeFrame frame misframed = s := by
  unfold State.takeFrame
  refine if_neg fun hall => ?_
  simp only [frameChecks, addressChecks, checkHolds, Config.payloadMax, Bool.and_eq_true,
    Bool.not_eq_true', decide_eq_true_eq, beq_iff_eq] at hall
  obtain ⟨⟨hmis, ⟨⟨hlen, hmax⟩, hcount⟩, -, hcheck⟩, ⟨hdest, hsource⟩, hcode⟩ := hall
  rcases h with h | h | h | h | h | h | h | h
  · rw [hmis] at h; cases h
  · exact absurd h (Nat.not_lt.mpr hlen)
  · exact absurd h (Nat.not_lt.mpr (of_decide_eq_true hmax))
  · exact h hcount
  · exact h hcheck
  · exact h hdest
  · rw [hsource] at h; cases h
  · exact absurd h (Nat.not_le.mpr hcode)

end Sys2Proof.Machine

namespace Sys2Proof.Proofs

open Sys2Proof.Machine

/-- Settles O5: each state of the receiver has its own equation. -/
theorem receiverMovesByTable : Obligations.ReceiverMovesByTable := by
  refine ⟨fun b misframed s hs hh => ⟨_, rfl, setLink_frame _ _, ?_⟩,
    fun s hrx hlen hs hh => ⟨_, if_pos ⟨hrx, Nat.le_of_eq hlen.symm, hs⟩, setLink_frame _ _, ?_⟩,
    fun s hrx hs => ⟨_, if_pos ⟨hrx, hs⟩, setLink_frame _ _, rfl⟩⟩
  · change match s.link.rx with
      | .idle => s.link.byteArrives b misframed = _
      | .receiving => if _ then s.link.byteArrives b misframed = _
        else s.link.byteArrives b misframed = _
      | .discarding => s.link.byteArrives b misframed = _
    rw [Link.byteArrives_of_quiet hs hh]
    split
    · next hrx => exact Link.receive_of_idle hrx b misframed
    · next hrx =>
      split
      · next hlen => exact Link.receive_of_room hrx hlen b misframed
      · next hlen => exact Link.receive_of_full hrx (Nat.not_lt.mp hlen) b misframed
    · next hrx => exact Link.receive_of_discarding hrx b misframed
  · change s.link.byteArrives 0 false = _
    rw [Link.byteArrives_of_quiet hs hh]
    exact Link.receive_of_full hrx (Nat.le_of_eq hlen.symm) 0 false

/-- Settles O6, row by row. -/
theorem responsesAreSentOrDiscarded : Obligations.ResponsesAreSentOrDiscarded := by
  refine ⟨fun s r hh hs => ⟨⟨_, ?_, setLink_frame s _, rfl⟩, fun b misframed => ?_⟩,
    fun s r hd => ⟨fun hrx hh hs => ⟨_, ?_, setLink_frame s _, rfl⟩, fun hbusy => ?_⟩,
    fun s r hs => ?_⟩
  · simp only [exec, execHeldResponseSend, hh, hs, Link.startSending]
  · have hexec : exec (.heldResponseDiscard b misframed) s =
        .next (s.setLink (s.link.byteArrives b misframed)) :=
      if_pos (by rw [hh]; rfl)
    have harr := Link.byteArrives_of_held hs hh b misframed
    obtain ⟨hheld, hsend, hdef, hdue⟩ := Link.receive_others
      { s.link with held := none, restartDue := s.link.restartDue || r.restarts } b misframed
    rw [← harr] at hheld hsend hdef hdue
    refine ⟨_, hexec, setLink_frame s _, hheld, hsend.trans hs, hdef, fun hrx => ?_, ?_⟩
    · have hidle := harr.trans (Link.receive_of_idle (l := { s.link with
        held := none, restartDue := s.link.restartDue || r.restarts }) hrx b misframed)
      refine ⟨?_, ?_, ?_⟩
      · exact (congrArg Link.rx hidle)
      · exact (congrArg Link.buffer hidle)
      · exact (congrArg Link.misframed hidle)
    · change (s.link.byteArrives b misframed).restartDue = true ↔ _
      rw [hdue]
      exact Response.restarts_iff _ _
  · simp only [exec, execDeferredResponseSend, hd, hrx, hh, hs, and_self, if_true, Link.startSending]
  · have hnot : ¬(s.link.rx = .idle ∧ s.link.held = none ∧ s.link.sending = none) := fun h => by
      rcases hbusy with hb | hb | hb
      · exact hb h.1
      · exact hb h.2.1
      · exact hb h.2.2
    simp only [exec, execDeferredResponseSend, hd, if_neg hnot]
  · refine ⟨s.setLink (s.link.endSending r), ?_, setLink_frame s _, rfl, rfl, rfl, rfl, rfl, rfl,
      Response.restarts_iff _ _⟩
    simp only [exec, execTransmissionEnd, hs]

/-- Settles O7: the checks pass on a frame of `requestFrame`, and a request is the frame it stands
for. -/
theorem requestFramesAreTakenAsTheirRequests : Obligations.RequestFramesAreTakenAsTheirRequests := by
  intro i s m code payload hi hw ha hrx hs hmis hbuf
  obtain ⟨hm, hcode, hlen⟩ := requestParts_bounds hi hw
  refine ⟨_, execFrameTaken_of_receiving hrx hs, ?_⟩
  rw [hmis, hbuf, exec_eq_takeRequest _ hm hi]
  exact congrArg _ (takeFrame_requestFrame (s := s.setLink (s.link.emptied .idle)) hm ha hcode
    hlen).symm

/-- Settles O8: every failed check makes the frame nothing. -/
theorem badFramesChangeNothing : Obligations.BadFramesChangeNothing := by
  intro s hrx hs hbad
  rw [execFrameTaken_of_receiving hrx hs]
  exact congrArg _ (takeFrame_of_failed (s := s.setLink (s.link.emptied .idle)) hbad)

end Sys2Proof.Proofs
end


section
/-! PROOFS. Requests that read, refuse or set: what each answers, and that it changes nothing else. -/
namespace Sys2Proof.Machine

open Sys2Proof

variable {s t u : State}

/-! ### The answer of a request that leaves the part as it stands -/

/-- An answer formed on the state as it stands is held, and nothing else changes. -/
theorem answered_of_eq {x : Answered} {a : Answer} (h : x = (s, a)) (m : Nat) (code : Byte) :
    answered [.link] s (x.respond m code)
      (s.formResponse s.store.movement.value.partAddress m code a) := by
  rw [h]
  exact answered_of_respond

theorem answered_of_state {x : Answered} (h : x.1 = s) (m : Nat) (code : Byte) :
    answered [.link] s (x.respond m code)
      (s.formResponse s.store.movement.value.partAddress m code x.2) :=
  answered_of_eq (Prod.ext h rfl) m code

theorem answered_formed {x : Answered} (h : x.1 = s) (m : Nat) (code : Byte) :
    answered [.link] s (x.respond m code)
      (x.1.formResponse x.1.store.movement.value.partAddress m code x.2) := by
  rw [h]
  exact answered_of_state h m code

/-- A refused request is answered with its refusal, and nothing else changes. -/
theorem refused_of_eq {c : Instr} {x : Answered} {m : Nat} {code : Byte} {st : Status}
    (hexec : exec c s = .next (x.respond m code)) (h : x = s.refuse st) :
    ∃ t resp, exec c s = .next t ∧ answered [.link] s t resp ∧ resp.status = st :=
  ⟨_, _, hexec, answered_of_eq h m code, rfl⟩

/-! ### ADJUST and RETIRE -/

section
variable {m : Nat} {slot gen : Byte}

theorem requestRetire_of_absent (h : s.demand.find (handleOfBytes slot gen) = none) :
    s.requestRetire m slot gen = s.refuse .notFound := by
  simp only [State.requestRetire, h]

theorem requestRetire_of_others {r : DemandRecord}
    (h : s.demand.find (handleOfBytes slot gen) = some r) (hr : r.source ≠ .supervisor m) :
    s.requestRetire m slot gen = s.refuse .notOwner := by
  simp only [State.requestRetire, h, if_neg hr]

theorem requestRetire_of_own {r : DemandRecord}
    (h : s.demand.find (handleOfBytes slot gen) = some r) (hr : r.source = .supervisor m) :
    s.requestRetire m slot gen = (s.retireSlot slot.toNat .retired,
      .accepted (s.demand.recordBytes (handleOfBytes slot gen) r)) := by
  simp only [State.requestRetire, h, if_pos hr]
  rfl

section
variable {delta : Word16} (hlo : -1000 ≤ delta.toInt) (hhi : delta.toInt ≤ 1000)
include hlo hhi

theorem requestAdjust_of_absent (h : s.demand.find (handleOfBytes slot gen) = none) :
    s.requestAdjust m slot gen delta = s.refuse .notFound := by
  have hfield : ¬(delta.toInt < -1000 ∨ 1000 < delta.toInt ∨
      s.demand.isLockout (handleOfBytes slot gen) = true) := by
    simp only [DemandTable.isLockout, h, Bool.false_eq_true, or_false]
    omega
  simp only [State.requestAdjust, if_neg hfield, h]

theorem requestAdjust_of_living {r : DemandRecord}
    (h : s.demand.find (handleOfBytes slot gen) = some r) (hc : r.cls ≠ .lockout) :
    s.requestAdjust m slot gen delta =
      if r.source = .supervisor m then s.carryOutAdjust (handleOfBytes slot gen) r delta.toInt
      else s.refuse .notOwner := by
  have hfield : ¬(delta.toInt < -1000 ∨ 1000 < delta.toInt ∨
      s.demand.isLockout (handleOfBytes slot gen) = true) := by
    have hnot : s.demand.isLockout (handleOfBytes slot gen) = false := by
      simp only [DemandTable.isLockout, h]
      exact beq_eq_false_iff_ne.mpr hc
    rw [hnot]
    simp only [Bool.false_eq_true, or_false]
    omega
  simp only [State.requestAdjust, if_neg hfield, h]

end
end

/-! ### PLACE and PROBE -/

section
variable {m : Nat} {f : PlaceFields}

theorem classPermitted_of_class {c : DemandClass} (h : classOfCode f.cls = some c) :
    s.classPermitted m f.cls = (s.store.supervisor m).mayPlace c := by
  simp only [State.classPermitted, h]

theorem requestPlace_of_forbidden (h : s.classPermitted m f.cls = false) :
    s.requestPlace m f = s.refuse .notPermitted := by
  simp only [State.requestPlace, h, Bool.false_eq_true, if_false]

theorem requestPlace_of_badField (h : s.classPermitted m f.cls = true)
    (hr : s.placedRecord m f = none) : s.requestPlace m f = s.refuse .badField := by
  simp only [State.requestPlace, h, if_true, hr]

theorem requestPlace_of_refused {r : DemandRecord} {st : Status} (h : s.classPermitted m f.cls = true)
    (hr : s.placedRecord m f = some r)
    (hst : s.demand.refusal r (s.store.covered r.target) = some st) :
    s.requestPlace m f = s.refuse st := by
  simp only [State.requestPlace, h, if_true, hr, hst]

theorem requestPlace_of_taken {r : DemandRecord} {x : State × Handle × OutcomeFlags}
    (h : s.classPermitted m f.cls = true) (hr : s.placedRecord m f = some r)
    (hst : s.demand.refusal r (s.store.covered r.target) = none)
    (hx : s.carryOutPlace r (apertureClamped f.aperture) = some x) :
    s.requestPlace m f =
      (x.1, ⟨.accepted, x.2.2, x.1.recordPayload x.2.1⟩) := by
  simp only [State.requestPlace, h, if_true, hr, hst, hx]

theorem requestProbe_of_forbidden (h : s.classPermitted m f.cls = false) :
    s.requestProbe m f = s.refuse .notPermitted := by
  simp only [State.requestProbe, h, Bool.false_eq_true, if_false]

theorem requestProbe_of_badField (h : s.classPermitted m f.cls = true)
    (hr : s.placedRecord m f = none) : s.requestProbe m f = s.refuse .badField := by
  simp only [State.requestProbe, h, if_true, hr]

theorem requestProbe_of_refused {r : DemandRecord} {st : Status} (h : s.classPermitted m f.cls = true)
    (hr : s.placedRecord m f = some r)
    (hst : s.demand.refusal r (s.store.covered r.target) = some st) :
    s.requestProbe m f =
      (s, ⟨.accepted, clampedOnly (apertureClamped f.aperture),
        wouldRefuseCode st :: rangeBytes (s.targetsOf (s.store.covered r.target))⟩) := by
  simp only [State.requestProbe, h, if_true, hr, hst]

theorem requestProbe_of_taken {r : DemandRecord} {x : State × Handle × OutcomeFlags}
    (h : s.classPermitted m f.cls = true) (hr : s.placedRecord m f = some r)
    (hst : s.demand.refusal r (s.store.covered r.target) = none)
    (hx : s.carryOutPlace r (apertureClamped f.aperture) = some x) :
    s.requestProbe m f =
      (s, ⟨.accepted, x.2.2, 0 :: rangeBytes (x.1.targetsOf (s.store.covered r.target))⟩) := by
  simp only [State.requestProbe, h, if_true, hr, hst, hx]

end

theorem DemandTable.refusal_of_full {d : DemandTable} {r : DemandRecord} {ns : List Nat}
    (hm : d.matching r = none) (hf : d.freeSlot = none) : d.refusal r ns = some .noSlot := by
  simp only [DemandTable.refusal, hm, hf, Option.isNone_none, if_true]

theorem DemandTable.refusal_of_fullList {d : DemandTable} {r : DemandRecord} {ns : List Nat}
    (hm : d.matching r = none) (hf : d.freeSlot ≠ none) (hn : ∃ n ∈ ns, 8 ≤ (d.list n).length) :
    d.refusal r ns = some .listFull := by
  have hany : (ns.any fun n => decide (Config.listMax ≤ (d.list n).length)) = true := by
    obtain ⟨n, hmem, hlen⟩ := hn
    exact List.any_eq_true.mpr ⟨n, hmem, decide_eq_true hlen⟩
  simp only [DemandTable.refusal, hm, Option.isNone_iff_eq_none, if_neg hf, hany, if_true]

/-- A placement that is not refused finds a slot: room is only ever made. -/
theorem DemandTable.placeSlot_of_accepted {d : DemandTable} {r : DemandRecord} {ns : List Nat}
    (h : d.refusal r ns = none) : ∃ k, d.placeSlot r ns = some k := by
  unfold DemandTable.placeSlot
  cases hm : d.matching r with
  | some k => exact ⟨k, rfl⟩
  | none =>
    have hfree : d.freeSlot ≠ none := fun hf => by
      rw [DemandTable.refusal_of_full hm hf] at h
      cases h
    obtain ⟨k, hk⟩ := Option.ne_none_iff_exists'.mp hfree
    obtain ⟨hlt, hnone⟩ := d.freeSlot_eq_some hk
    obtain ⟨xs, hxs, -⟩ := d.run.makeRoom_eq r ns
    refine Option.ne_none_iff_exists'.mp (DemandTable.freeSlot_ne_none _ (k := k) ?_ ?_)
    · rw [hxs, DemandRun.retireEach_slots_length]
      exact hlt
    · rw [hxs, DemandRun.retireEach_inSlot]
      exact ite_eq_left_iff.mpr fun _ => hnone

/-- A placement that is not refused is carried out. -/
theorem carryOutPlace_of_accepted {r : DemandRecord} (clamped : Bool)
    (h : s.demand.refusal r (s.store.covered r.target) = none) :
    ∃ k, s.demand.placeSlot r (s.store.covered r.target) = some k ∧
      s.carryOutPlace r clamped = some
        (let x := s.demand.place r (s.store.covered r.target)
         let y := s.endOperation x.1 []
         let h' := (s.demand.run.makeRoom r (s.store.covered r.target)).table.handleOf k
         (y.1.recompute y.2, h', (y.1.recompute y.2).placementFlags x.1
           (s.demand.matching r).isSome h' (s.store.covered r.target) clamped)) := by
  obtain ⟨k, hk⟩ := DemandTable.placeSlot_of_accepted h
  refine ⟨k, hk, ?_⟩
  have hplace := s.demand.place_of_slot hk
  unfold State.carryOutPlace
  dsimp only
  rw [hplace]

theorem apertureClamped_iff (a : Word16) :
    apertureClamped a = true ↔ a ≠ 0xFFFF#16 ∧ 1000 < a.toNat := by
  simp only [apertureClamped, Bool.and_eq_true, bne_iff_ne, decide_eq_true_eq]
  exact Iff.rfl

theorem optWord_length (o : Option Nat) : (optWord o).length = 2 := by
  cases o <;> rfl

theorem rangeBytes_length (l : List Nat) : (rangeBytes l).length = 4 := by
  cases l <;> rfl

theorem DemandTable.refusal_status {d : DemandTable} {r : DemandRecord} {ns : List Nat} {st : Status}
    (h : d.refusal r ns = some st) : st ≠ .accepted := by
  unfold DemandTable.refusal at h
  split at h
  · cases h
  · split at h
    · cases h; decide
    · split at h
      · cases h; decide
      · cases h

/-! ### Records read -/

theorem handleOfBytes_bytes (slot gen : Byte) : handleBytes (handleOfBytes slot gen) = [slot, gen] := by
  simp [handleBytes, handleOfBytes, byteOf]

theorem DemandTable.recordBytes_length (d : DemandTable) (h : Handle) (r : DemandRecord) :
    (d.recordBytes h r).length = 15 := by
  have hsource : r.source.bytes.length = 2 := by cases r.source <;> rfl
  have htarget : r.target.bytes.length = 2 := by cases r.target <;> rfl
  simp [DemandTable.recordBytes, hsource, htarget, optWord_length, handleBytes, wordBytes, splitWord]

theorem DemandTable.handlesWhere_true (d : DemandTable) : d.handlesWhere (fun _ => true) =
    ((List.range d.slots.length).filter fun k => (d.inSlot k).isSome).map d.handleOf := by
  unfold DemandTable.handlesWhere
  refine congrArg (List.map d.handleOf) (List.filter_eq_self.mpr fun k hk => ?_)
  obtain ⟨r, hr⟩ := Option.ne_none_iff_exists'.mp (d.mem_usedSlots.mp hk)
  rw [hr]

end Sys2Proof.Machine

namespace Sys2Proof.Proofs

open Sys2Proof.Machine

/-- Settles O10: each refusal has its own equation of `requestPlace`, in the order of the steps. -/
theorem placeRefusedInOrder : Obligations.PlaceRefusedInOrder := by
  intro m f s hm
  have hexec : exec (.place m f) s = .next ((s.requestPlace m f).respond m 0x01#8) := if_pos hm
  refine ⟨_, _, hexec, respond_held _ _ _ _, ?_, fun c hc hno => ?_, fun hp hr => ?_,
    fun r hp hr hnone => ⟨fun hfree => ?_, fun hfree hlist => ?_⟩⟩
  · intro hst
    refine answered_formed (x := s.requestPlace m f) ?_ m 0x01#8
    cases hp : s.classPermitted m f.cls with
    | false => rw [requestPlace_of_forbidden hp]; rfl
    | true =>
      cases hr : s.placedRecord m f with
      | none => rw [requestPlace_of_badField hp hr]; rfl
      | some r =>
        cases href : s.demand.refusal r (s.store.covered r.target) with
        | some st => rw [requestPlace_of_refused hp hr href]; rfl
        | none =>
          obtain ⟨k, -, hx⟩ := carryOutPlace_of_accepted (apertureClamped f.aperture) href
          rw [requestPlace_of_taken hp hr href hx] at hst
          exact absurd rfl hst
  · rw [← classPermitted_of_class (s := s) hc] at hno
    rw [requestPlace_of_forbidden hno]
    rfl
  · rw [requestPlace_of_badField hp hr]
    rfl
  · rw [requestPlace_of_refused hp hr (DemandTable.refusal_of_full hnone hfree)]
    rfl
  · rw [requestPlace_of_refused hp hr (DemandTable.refusal_of_fullList hnone hfree hlist)]
    rfl

/-- Settles O11: a PROBE's answer is formed on the state as it stands. -/
theorem probeLeavesNoTrace : Obligations.ProbeLeavesNoTrace := by
  intro m f s hm
  have hexec : exec (.probe m f) s = .next ((s.requestProbe m f).respond m 0x04#8) := if_pos hm
  refine ⟨_, _, hexec, answered_of_state (requestProbe_state s m f) m 0x04#8, rfl, rfl, fun hp => ?_,
    fun hp hr => ?_, fun r hp hr => ?_⟩
  · rw [requestProbe_of_forbidden hp]
    rfl
  · rw [requestProbe_of_badField hp hr]
    rfl
  · cases href : s.demand.refusal r (s.store.covered r.target) with
    | some st =>
      rw [requestProbe_of_refused hp hr href]
      refine ⟨rfl, congrArg (· + 1) (rangeBytes_length _), apertureClamped_iff _, fun h => (by cases h),
        fun h => ?_, fun h => ?_⟩
      · cases h
        exact ⟨rfl, rfl⟩
      · cases h
        exact ⟨rfl, rfl⟩
    | none =>
      obtain ⟨k, -, hx⟩ := carryOutPlace_of_accepted (apertureClamped f.aperture) href
      rw [requestProbe_of_taken hp hr href hx]
      refine ⟨rfl, congrArg (· + 1) (rangeBytes_length _), apertureClamped_iff _,
        fun _ => ⟨rfl, ?_⟩, fun h => (by cases h), fun h => (by cases h)⟩
      change (!(s.demand.matching r).isSome) = _
      exact Option.not_isSome _

/-- Settles O14: each refusal has its own equation. -/
theorem othersRecordsAreSafe : Obligations.OthersRecordsAreSafe := by
  intro m slot gen delta s hm
  have hretire : exec (.retire m slot gen) s = .next ((s.requestRetire m slot gen).respond m 0x03#8) :=
    if_pos hm
  have hadjust : exec (.adjust m slot gen delta) s =
      .next ((s.requestAdjust m slot gen delta).respond m 0x02#8) := if_pos hm
  refine ⟨fun hnone => ⟨refused_of_eq hretire (requestRetire_of_absent hnone),
    fun hlo hhi => refused_of_eq hadjust (requestAdjust_of_absent hlo hhi hnone)⟩,
    fun r hr hother => ⟨refused_of_eq hretire (requestRetire_of_others hr hother),
    fun hc hlo hhi => refused_of_eq hadjust ?_⟩⟩
  rw [requestAdjust_of_living hlo hhi hr hc, if_neg hother]

/-- Settles O15. -/
theorem recordsReadAsTheyStand : Obligations.RecordsReadAsTheyStand := by
  intro m s hm
  have hlist : ∀ f, exec (.listRecords m f) s = .next ((s.requestList f).respond m 0x05#8) :=
    fun f => if_pos hm
  have hread : ∀ slot gen, exec (.readRecord m slot gen) s =
      .next ((s.requestReadRecord slot gen).respond m 0x06#8) := fun _ _ => if_pos hm
  refine ⟨⟨_, _, hlist none, answered_of_state (requestList_state s none) m _, rfl,
    congrArg handleListBytes s.demand.handlesWhere_true⟩, fun kind number hsrc => ?_,
    fun slot gen => ⟨_, _, hread slot gen, answered_of_state (requestReadRecord_state s slot gen) m _,
      rfl, fun hnone => ?_, fun r hr => ?_⟩⟩
  · exact refused_of_eq (hlist _) (by simp only [State.requestList, hsrc])
  · change (s.requestReadRecord slot gen).2.status = _
    have hnone' : s.demand.find (handleOfBytes slot gen) = none := hnone
    simp only [State.requestReadRecord, hnone', State.refuse, Answer.refused]
  · have hr' : s.demand.find (handleOfBytes slot gen) = some r := hr
    have hans : s.requestReadRecord slot gen =
        (s, .accepted (s.demand.recordBytes (handleOfBytes slot gen) r)) := by
      simp only [State.requestReadRecord, hr']
    rw [hans]
    refine ⟨rfl, s.demand.recordBytes_length _ r, ?_⟩
    change s.demand.recordBytes (handleOfBytes slot gen) r = _
    rw [DemandTable.recordBytes, handleOfBytes_bytes]
    rfl

end Sys2Proof.Proofs
end


section
/-! PROOFS. The condition unit. -/
namespace Sys2Proof.Machine

open Sys2Proof

variable {s t u : State}

/-! ### The sets of conditions, bit by bit -/

theorem Condition.number_lt (c : Condition) : c.number < 19 := by
  cases c <;> decide

theorem Condition.number_injective {c d : Condition} (h : c.number = d.number) : c = d := by
  have index : ∀ x : Condition, x.number = x.ctorIdx := fun x => by cases x <;> rfl
  rw [index, index] at h
  rw [← Condition.ofNat_ctorIdx c, h, Condition.ofNat_ctorIdx]

theorem Condition.bit_getLsbD (c d : Condition) : c.bit.getLsbD d.number = decide (c = d) := by
  rw [Condition.bit, BitVec.getLsbD_ofNat, Nat.testBit_two_pow, decide_eq_true d.number_lt,
    Bool.true_and]
  exact decide_eq_decide.mpr ⟨Condition.number_injective, congrArg _⟩

/-- A set that names no condition lies below 2^19 (R171). -/
theorem namesNoCondition_iff (set : BitVec 24) : namesNoCondition set = true ↔ 2 ^ 19 ≤ set.toNat := by
  rw [namesNoCondition, bne_iff_ne, ne_eq, ← BitVec.toNat_inj, BitVec.extractLsb'_toNat,
    Nat.shiftRight_eq_div_pow]
  have hlt := set.isLt
  have hzero : (0 : BitVec 5).toNat = 0 := rfl
  omega

/-! ### CLEAR_CONDITIONS and SET_MASK -/

theorem requestClearConditions_of_named {set : BitVec 24} (h : set.toNat < 2 ^ 19) :
    s.requestClearConditions set = (s.setConditions (Conditions.judged { s.conditions with
      sticky := s.conditions.sticky &&& ~~~(set.extractLsb' 0 19) }), .accepted []) :=
  if_neg fun k => Nat.not_le.mpr h ((namesNoCondition_iff set).mp k)

theorem requestClearConditions_of_unnamed {set : BitVec 24} (h : 2 ^ 19 ≤ set.toNat) :
    s.requestClearConditions set = s.refuse .badField := if_pos ((namesNoCondition_iff set).mpr h)

theorem requestSetMask_of_named {set : BitVec 24} (h : set.toNat < 2 ^ 19) :
    s.requestSetMask set =
      (s.setConditions (Conditions.judged { s.conditions with mask := set.extractLsb' 0 19 }),
        .accepted []) :=
  if_neg fun k => Nat.not_le.mpr h ((namesNoCondition_iff set).mp k)

theorem requestSetMask_of_unnamed {set : BitVec 24} (h : 2 ^ 19 ≤ set.toNat) :
    s.requestSetMask set = s.refuse .badField := if_pos ((namesNoCondition_iff set).mpr h)

/-- What is answered on a state whose conditions alone were set. -/
theorem answered_of_setConditions (c : Conditions) (m : Nat) (code : Byte) (a : Answer) :
    answered [.conditions, .link] s
      (Answered.respond (s.setConditions c, a) m code)
      ((s.setConditions c).formResponse s.store.movement.value.partAddress m code a) :=
  ⟨((setConditions_frame s c).mono (by simp)).trans ((respond_frame _ _ _ _).mono (by simp)),
    respond_held _ _ _ _, Answered.respond_heldDiscarded rfl m code⟩

/-! ### Reports -/

theorem Conditions.takeLive_live (v : Conditions) (x : Condition × Bool) (c : Condition) :
    (v.takeLive x).live.getLsbD c.number = if x.1 = c then x.2 else v.live.getLsbD c.number := by
  obtain ⟨d, b⟩ := x
  cases b with
  | true =>
    change (v.live ||| d.bit).getLsbD c.number = _
    rw [BitVec.getLsbD_or, Condition.bit_getLsbD]
    by_cases h : d = c
    · simp only [h, decide_true, Bool.or_true, if_true]
    · simp only [h, decide_false, Bool.or_false, if_false]
  | false =>
    change (v.live &&& ~~~d.bit).getLsbD c.number = _
    rw [BitVec.getLsbD_and, BitVec.getLsbD_not, Condition.bit_getLsbD, decide_eq_true c.number_lt]
    by_cases h : d = c
    · simp only [h, decide_true, Bool.not_true, Bool.and_false, if_true]
    · simp only [h, decide_false, Bool.not_false, Bool.and_true, if_false]

theorem Conditions.takeLive_sticky (v : Conditions) (x : Condition × Bool) (c : Condition) :
    (v.takeLive x).sticky.getLsbD c.number = true ↔ v.sticky.getLsbD c.number = true ∨
      (x = (c, true) ∧ c.setsOnRise = true ∧ v.live.getLsbD c.number = false) := by
  obtain ⟨d, b⟩ := x
  change (if (d.setsOnRise && b && !v.live.getLsbD d.number) = true then v.sticky ||| d.bit
    else v.sticky).getLsbD c.number = true ↔ _
  by_cases hrise : (d.setsOnRise && b && !v.live.getLsbD d.number) = true
  · rw [if_pos hrise, BitVec.getLsbD_or, Condition.bit_getLsbD, Bool.or_eq_true, decide_eq_true_eq]
    simp only [Bool.and_eq_true, Bool.not_eq_true'] at hrise
    obtain ⟨⟨hr, rfl⟩, hl⟩ := hrise
    refine or_congr_right ⟨?_, ?_⟩
    · rintro rfl
      exact ⟨rfl, hr, hl⟩
    · rintro ⟨heq, -, -⟩
      cases heq
      rfl
  · rw [if_neg hrise]
    refine ⟨.inl, ?_⟩
    rintro (h | ⟨heq, hr, hl⟩)
    · exact h
    · cases heq
      rw [hr, hl] at hrise
      exact absurd rfl hrise

theorem Conditions.takeLives_live (l : List (Condition × Bool)) (hl : (l.map Prod.fst).Nodup)
    (v : Conditions) (c : Condition) :
    (l.foldl Conditions.takeLive v).live.getLsbD c.number =
      if (c, true) ∈ l then true else if (c, false) ∈ l then false
      else v.live.getLsbD c.number := by
  induction l generalizing v with
  | nil => simp
  | cons x l ih =>
    obtain ⟨hx, hnd⟩ := List.nodup_cons.mp hl
    rw [List.foldl_cons, ih hnd, Conditions.takeLive_live]
    obtain ⟨d, b⟩ := x
    by_cases hd : d = c
    · subst hd
      have hno : ∀ b', (d, b') ∉ l := fun b' hmem => hx (List.mem_map.mpr ⟨_, hmem, rfl⟩)
      cases b <;> simp [hno]
    · simp [Ne.symm hd, hd]

theorem Conditions.takeLives_sticky (l : List (Condition × Bool)) (hl : (l.map Prod.fst).Nodup)
    (v : Conditions) (c : Condition) :
    (l.foldl Conditions.takeLive v).sticky.getLsbD c.number = true ↔
      v.sticky.getLsbD c.number = true ∨
        (c.setsOnRise = true ∧ (c, true) ∈ l ∧ v.live.getLsbD c.number = false) := by
  induction l generalizing v with
  | nil => simp
  | cons x l ih =>
    obtain ⟨hx, hnd⟩ := List.nodup_cons.mp hl
    rw [List.foldl_cons, ih hnd, Conditions.takeLive_sticky, Conditions.takeLive_live,
      List.mem_cons]
    obtain ⟨d, b⟩ := x
    by_cases hd : d = c
    · subst hd
      have hno : (d, true) ∉ l := fun hmem => hx (List.mem_map.mpr ⟨_, hmem, rfl⟩)
      simp only [hno, false_and, and_false, or_false]
      constructor
      · rintro (h | ⟨heq, hr, hlive⟩)
        · exact .inl h
        · exact .inr ⟨hr, heq.symm, hlive⟩
      · rintro (h | ⟨hr, heq, hlive⟩)
        · exact .inl h
        · exact .inr ⟨heq.symm, hr, hlive⟩
    · simp [hd, Ne.symm hd]

theorem Conditions.takeEvents_sticky (l : List Condition) (v : Conditions) (c : Condition) :
    (l.foldl Conditions.takeEvent v).sticky.getLsbD c.number = true ↔
      v.sticky.getLsbD c.number = true ∨ c ∈ l := by
  induction l generalizing v with
  | nil => simp
  | cons d l ih =>
    rw [List.foldl_cons, ih, List.mem_cons]
    simp only [Conditions.takeEvent, BitVec.getLsbD_or, Bool.or_eq_true, Condition.bit_getLsbD,
      decide_eq_true_eq, or_assoc, eq_comm (a := c)]

/-- Events set sticky states alone. -/
theorem Conditions.takeEvents_others (l : List Condition) (v : Conditions) :
    (l.foldl Conditions.takeEvent v).live = v.live ∧ (l.foldl Conditions.takeEvent v).mask = v.mask ∧
      (l.foldl Conditions.takeEvent v).cause = v.cause := by
  induction l generalizing v with
  | nil => exact ⟨rfl, rfl, rfl⟩
  | cons d l ih => exact ih _

/-- Live states reported leave the mask and the reset cause. -/
theorem Conditions.takeLives_others (l : List (Condition × Bool)) (v : Conditions) :
    (l.foldl Conditions.takeLive v).mask = v.mask ∧
      (l.foldl Conditions.takeLive v).cause = v.cause := by
  induction l generalizing v with
  | nil => exact ⟨rfl, rfl⟩
  | cons x l ih => exact ih _

end Sys2Proof.Machine

namespace Sys2Proof.Proofs

open Sys2Proof.Machine

/-- Settles O17: the sticky set and the mask are bit sets, and the answer is formed once attention is
judged. -/
theorem clearAndMaskConditions : Obligations.ClearAndMaskConditions := by
  intro m set s hm
  have hclear : exec (.clearConditions m set) s =
      .next ((s.requestClearConditions set).respond m 0x0C#8) := if_pos hm
  have hmask : exec (.setMask m set) s = .next ((s.requestSetMask set).respond m 0x0D#8) := if_pos hm
  refine ⟨fun h => ⟨?_, ?_⟩, fun h => ⟨refused_of_eq hclear (requestClearConditions_of_unnamed h),
    refused_of_eq hmask (requestSetMask_of_unnamed h)⟩⟩
  · rw [requestClearConditions_of_named h] at hclear
    refine ⟨_, _, hclear, answered_of_setConditions _ m _ _, rfl, rfl, rfl, rfl, rfl, rfl,
      fun k hk => ?_⟩
    change (s.conditions.sticky &&& ~~~(set.extractLsb' 0 19)).getLsbD k = _
    simp [hk]
  · rw [requestSetMask_of_named h] at hmask
    refine ⟨_, _, hmask, answered_of_setConditions _ m _ _, rfl, rfl, rfl, rfl, rfl, rfl,
      fun k hk => ?_⟩
    change (set.extractLsb' 0 19).getLsbD k = _
    simp [hk]

/-- Settles O18: the report's live states and events are folded into the sets one by one. -/
theorem reportIsTaken : Obligations.ReportIsTaken := by
  intro owner s r rest hr hnd
  have hexec : exec (.conditionReport owner) s =
      .next ((s.setMail { s.mail with reports := rest }).setConditions (s.conditions.take r)) := by
    simp only [exec, execConditionReport, hr]
  have hothers := Conditions.takeEvents_others r.events (r.lives.foldl Conditions.takeLive s.conditions)
  have hlives := Conditions.takeLives_others r.lives s.conditions
  refine ⟨_, hexec, ((setMail_frame s _).mono (by simp)).trans
      ((setConditions_frame _ _).mono (by simp)), rfl, hothers.2.1.trans hlives.1,
    hothers.2.2.trans hlives.2, rfl, fun c => ⟨?_, ?_⟩⟩
  · change (r.events.foldl Conditions.takeEvent _).live.getLsbD _ = _
    rw [hothers.1, Conditions.takeLives_live _ hnd]
  · change (r.events.foldl Conditions.takeEvent _).sticky.getLsbD _ = true ↔ _
    rw [Conditions.takeEvents_sticky, Conditions.takeLives_sticky _ hnd, or_assoc]
    exact or_congr_right or_comm

end Sys2Proof.Proofs
end


section
/-! PROOFS. CONFIGURE and the store's write, and what the read requests answer. -/
namespace Sys2Proof.Machine

open Sys2Proof

variable {s t u : State}

/-! ### CONFIGURE -/

section
variable {m : Nat} {kind index : Byte} {value : List Byte}

/-- A refused CONFIGURE is answered with its refusal, and nothing else changes. -/
theorem configure_refused {st : Status} (hm : isSupervisor m = true)
    (h : s.requestConfigure m kind index value = (s, some (.refused st))) :
    ∃ t resp, exec (.configure m kind index value) s = .next t ∧ answered [.link] s t resp ∧
      resp.status = st := by
  have hexec : exec (.configure m kind index value) s = .next (s.takeConfigure m kind index value) :=
    if_pos hm
  rw [State.takeConfigure, h] at hexec
  exact ⟨_, _, hexec, answered_of_respond, rfl⟩

variable {ev : EntryValue} (hmay : (s.store.supervisor m).mayConfigure = true)
include hmay

theorem requestConfigure_of_badField (h : parseEntry kind index value = none ∨
    ∃ ev, parseEntry kind index value = some ev ∧
      (ev.valid = false ∨ s.store.relationsHold ev = false)) :
    s.requestConfigure m kind index value = (s, some (.refused .badField)) := by
  rcases h with h | ⟨ev, h, hbad⟩
  · simp only [State.requestConfigure, hmay, if_true, h]
  · have hnot : (ev.valid && s.store.relationsHold ev) = false := Bool.and_eq_false_iff.mpr hbad
    simp only [State.requestConfigure, hmay, if_true, h, hnot, Bool.false_eq_true, if_false]

variable (hp : parseEntry kind index value = some ev) (hv : ev.valid = true)
  (hr : s.store.relationsHold ev = true)
include hp hv hr

theorem requestConfigure_of_busy (h : s.store.writing ≠ none ∨ s.link.deferred ≠ none) :
    s.requestConfigure m kind index value = (s, some (.refused .busy)) := by
  simp only [State.requestConfigure, hmay, if_true, hp, hv, hr, Bool.and_self]
  cases hw : s.store.writing with
  | some w => rfl
  | none =>
    obtain ⟨r, hd⟩ := Option.ne_none_iff_exists'.mp (h.resolve_left fun k => k hw)
    rw [hd]

variable (hw : s.store.writing = none) (hd : s.link.deferred = none)
include hw hd

theorem requestConfigure_of_inUse (h : s.entryInUse ev = true) :
    s.requestConfigure m kind index value = (s, some (.refused .inUse)) := by
  simp only [State.requestConfigure, hmay, if_true, hp, hv, hr, Bool.and_self, hw, hd, h]

theorem requestConfigure_of_free (h : s.entryInUse ev = false) :
    s.requestConfigure m kind index value =
      (s.setStore (s.store.begin { entry := ev, sender := m, kind := kind, index := index }),
        none) := by
  simp only [State.requestConfigure, hmay, if_true, hp, hv, hr, Bool.and_self, hw, hd, h,
    Bool.false_eq_true, if_false]

end

/-! ### What is read of the store -/

theorem Entry.setCopy_origin {α : Type} (e : Entry α) (c : CopyName) (x : StoredCopy α) :
    (e.setCopy c x).origin = e.origin := by
  cases c <;> rfl

theorem Entry.setCopy_inEffect {α : Type} (e : Entry α) (c : CopyName) (x : StoredCopy α) :
    (e.setCopy c x).inEffect = e.inEffect := by
  cases c <;> rfl

/-- A table of entries of which one was rewritten with its value and origin kept reads as before. -/
theorem nth_modifyNth_read {α β : Type} (l : List (Entry α)) (n k : Nat) {f : Entry α → Entry α}
    (hf : ∀ e, (f e).value = e.value ∧ (f e).origin = e.origin) (g : Origin → α → β) :
    (nth (modifyNth l n f) k).map (fun e => g e.origin e.value) =
      (nth l k).map fun e => g e.origin e.value := by
  rw [nth_modifyNth]
  split
  · cases nth l k with
    | none => rfl
    | some e => simp only [Option.map_some, hf e]
  · rfl

/-- A store operation that keeps the values in effect and their origins keeps every read of it. -/
theorem Store.onEntry_entryInEffect (st : Store) (ev : EntryValue)
    {f : (α : Type) → α → Entry α → Entry α}
    (hf : ∀ α v (e : Entry α), (f α v e).value = e.value ∧ (f α v e).origin = e.origin)
    (kind index : Byte) : (st.onEntry ev f).entryInEffect kind index = st.entryInEffect kind index := by
  unfold Store.entryInEffect
  dsimp only
  split
  case h_1 =>
    cases ev with
    | opening n v => exact nth_modifyNth_read _ n _ (hf _ v) fun o v => (o, EntryValue.opening _ v)
    | _ => rfl
  case h_2 =>
    cases ev with
    | group g v => exact nth_modifyNth_read _ g _ (hf _ v) fun o v => (o, EntryValue.group _ v)
    | _ => rfl
  case h_3 =>
    cases ev with
    | zone z v => exact nth_modifyNth_read _ z _ (hf _ v) fun o v => (o, EntryValue.zone _ v)
    | _ => rfl
  case h_4 =>
    cases ev with
    | scenario z v => exact nth_modifyNth_read _ z _ (hf _ v) fun o v => (o, EntryValue.scenario _ v)
    | _ => rfl
  case h_5 =>
    cases ev with
    | station n v => exact nth_modifyNth_read _ n _ (hf _ v) fun o v => (o, EntryValue.station _ v)
    | _ => rfl
  case h_6 =>
    cases ev with
    | supervisor n v =>
      exact nth_modifyNth_read _ n _ (hf _ v) fun o v => (o, EntryValue.supervisor _ v)
    | _ => rfl
  case h_7 =>
    cases ev with
    | weather v =>
      obtain ⟨hvalue, horigin⟩ := hf _ v st.weather
      simp only [Store.onEntry, hvalue, horigin]
    | _ => rfl
  case h_8 =>
    cases ev with
    | movement v =>
      obtain ⟨hvalue, horigin⟩ := hf _ v st.movement
      simp only [Store.onEntry, hvalue, horigin]
    | _ => rfl
  case h_9 => rfl

theorem Store.begin_entryInEffect (st : Store) (w : EntryWrite) (kind index : Byte) :
    (st.begin w).entryInEffect kind index = st.entryInEffect kind index :=
  Store.onEntry_entryInEffect st w.entry
    (fun _ _ e => ⟨Entry.beginWrite_value e _ _ _, Entry.setCopy_origin _ _ _⟩) kind index

theorem Store.abandon_entryInEffect (st : Store) (kind index : Byte) :
    st.abandon.entryInEffect kind index = st.entryInEffect kind index := rfl

/-- A write that starts goes to the copy that is not in effect, its count one above the other's. -/
theorem Entry.beginWrite_spare {α : Type} (e : Entry α) (c : CopyName) (v : α) (b : Bool)
    (free : BitVec 8) : e.inEffect = some c → (e.beginWrite v b free).inEffect = some c ∧
      match c with
      | .first => (e.beginWrite v b free).first = e.first ∧ (e.beginWrite v b free).second.value = v ∧
          (e.beginWrite v b free).second.sequence = e.first.sequence + 1
      | .second => (e.beginWrite v b free).second = e.second ∧
          (e.beginWrite v b free).first.value = v ∧
          (e.beginWrite v b free).first.sequence = e.second.sequence + 1 := by
  refine fun h => ⟨(Entry.setCopy_inEffect _ _ _).trans h, ?_⟩
  cases c with
  | first => simp only [Entry.beginWrite, Entry.spare, h, Entry.setCopy, Entry.copy, and_self]
  | second => simp only [Entry.beginWrite, Entry.spare, h, Entry.setCopy, Entry.copy, and_self]

theorem heldDiscarded.of_link_eq (h : t.link = u.link) (hu : heldDiscarded s u) :
    heldDiscarded s t := by
  unfold heldDiscarded at hu ⊢
  rwa [h]

theorem dropHeld_of_none (h : s.link.held = none) : s.dropHeld.link = s.link := by
  change s.link.discardHeld = s.link
  rw [Link.discardHeld, h]

/-! ### Numbers of living records -/

theorem mem_slotsOf {d : DemandTable} {src : Source} {k : Nat} :
    k ∈ d.slotsOf src ↔ ∃ r, d.inSlot k = some r ∧ r.source = src := by
  rw [DemandTable.slotsOf, List.mem_filter, d.mem_usedSlots]
  cases d.inSlot k <;> simp

/-- The handle of a zone's FIREMAN record as the fire unit finds it. -/
theorem firemanHandle_eq {d : DemandTable} {src : Source} {o : Option Handle}
    (h : ∀ x, (∃ r, d.find x = some r ∧ r.source = src) ↔ o = some x) :
    (match d.slotsOf src with
      | k :: _ => some (d.handleOf k)
      | [] => none) = o := by
  split
  · next k l hl =>
    obtain ⟨r, hr, hsrc⟩ := mem_slotsOf.mp (hl ▸ List.mem_cons_self : k ∈ d.slotsOf src)
    exact ((h (d.handleOf k)).mp ⟨r, by rw [d.find_handleOf, hr], hsrc⟩).symm
  · next hl =>
    cases o with
    | none => rfl
    | some x =>
      obtain ⟨r, hr, hsrc⟩ := (h x).mpr rfl
      have hmem : x.slot ∈ d.slotsOf src := mem_slotsOf.mpr ⟨r, d.inSlot_of_find hr, hsrc⟩
      rw [hl] at hmem
      cases hmem

/-! ### Lengths of the layouts (R174, R175) -/

theorem optSigned_length (o : Option Int) : (optSigned o).length = 2 := by
  cases o <;> rfl

theorem optHandle_length (o : Option Handle) : (optHandle o).length = 2 := by
  cases o <;> rfl

theorem wordBytes_length (n : Nat) : (wordBytes n).length = 2 := rfl

theorem signedBytes_length (i : Int) : (signedBytes i).length = 2 := rfl

theorem replyBytes_length (o : Option DriveReply) : (replyBytes o).length = 9 := by
  cases o <;> rfl

theorem openingPayload_length (s : State) (n : Nat) : (s.openingPayload n).length = 39 := by
  unfold State.openingPayload
  split
  · simp [OpeningResult.bytes, MoveRecord.bytes, NodeRecord.bytes, wordBytes_length, optWord_length,
      optHandle_length, replyBytes_length]
  · rfl

theorem Weather.bytes_length (w : Weather) (b : WeatherBlock) : (w.bytes b).length = 49 := by
  simp [Weather.bytes, channelBytes, HeldCap.bytes, wordBytes_length, optWord_length,
    optSigned_length, signedBytes_length]

theorem OpeningEntry.bytes_length (e : OpeningEntry) : e.bytes.length = 16 := by
  simp [OpeningEntry.bytes, wordBytes_length]

theorem WeatherBlock.bytes_length (b : WeatherBlock) : b.bytes.length = 55 := by
  simp [WeatherBlock.bytes, ProfileSpeeds.bytes, MonitorLimits.bytes, wordBytes_length,
    signedBytes_length]

/-- The class set of a supervisor's entry is the sum of its bits (R8). -/
theorem SupervisorEntry.classSet_eq (e : SupervisorEntry) : e.classSet =
    byteOf ((if e.mayLockout then 4 else 0) + (if e.mayLocal then 8 else 0) +
      (if e.mayComfort then 16 else 0) + (if e.mayPurge then 32 else 0)) := by
  unfold SupervisorEntry.classSet
  cases e.mayLockout <;> cases e.mayLocal <;> cases e.mayComfort <;> cases e.mayPurge <;> rfl

/-! ### What the read requests answer -/

theorem requestReadOpening_answers (s : State) (x : Byte) :
    let a := (s.requestReadOpening x).2
    (isOpening x.toNat = false → a.status = .badField) ∧
      (isOpening x.toNat = true → a.status = .accepted ∧ a.body.length = 39) ∧
      (isOpening x.toNat = true → s.result x.toNat = none →
        a.body = 0 :: List.replicate 38 0xFF#8) ∧
      ∀ r mv d, isOpening x.toNat = true → s.result x.toNat = some r → s.move x.toNat = some mv →
        s.node x.toNat = some d → a.body = 1 :: (r.bytes ++ mv.bytes ++ d.bytes) := by
  dsimp only
  cases hn : isOpening x.toNat with
  | false =>
    have hans : s.requestReadOpening x = s.refuse .badField := by
      simp only [State.requestReadOpening, hn, Bool.false_eq_true, if_false]
    rw [hans]
    exact ⟨fun _ => rfl, fun h => (by cases h), fun h => (by cases h), fun _ _ _ h => (by cases h)⟩
  | true =>
    have hans : s.requestReadOpening x = (s, .accepted (s.openingPayload x.toNat)) := by
      simp only [State.requestReadOpening, hn, if_true]
    rw [hans]
    refine ⟨fun h => (by cases h), fun _ => ⟨rfl, openingPayload_length s _⟩, fun _ hr => ?_,
      fun r mv d _ hr hmv hd => ?_⟩
    · change s.openingPayload x.toNat = _
      simp only [State.openingPayload, hr]
    · change s.openingPayload x.toNat = _
      simp only [State.openingPayload, hr, hmv, hd]

theorem requestReadGroup_answers (s : State) (x : Byte) :
    let a := (s.requestReadGroup x).2
    (x.toNat = 0 ∨ 24 < x.toNat → a.status = .badField) ∧
      (1 ≤ x.toNat → x.toNat ≤ 24 → a.status = .accepted ∧
        a.body = byteOf (s.store.group x.toNat).length :: (s.store.group x.toNat).map byteOf ++
          [byteOf (living s fun r => r.target == .group x.toNat)]) := by
  dsimp only
  refine ⟨fun h => ?_, fun h1 h24 => ?_⟩
  · have hnot : ¬(1 ≤ x.toNat ∧ x.toNat ≤ Config.groupCount) := by
      change ¬(1 ≤ x.toNat ∧ x.toNat ≤ 24)
      omega
    simp only [State.requestReadGroup, if_neg hnot, State.refuse, Answer.refused]
  · have hans : s.requestReadGroup x = (s, .accepted (s.groupPayload x.toNat)) :=
      if_pos ⟨h1, h24⟩
    rw [hans]
    refine ⟨rfl, ?_⟩
    exact congrArg (fun k => memberBytes (s.store.group x.toNat) ++ [byteOf k])
      (usedSlots_countP s fun r => r.target == .group x.toNat)

theorem Zone.bytes_eq (s : State) (n : Nat) (z : Zone) (fireman : Option Handle) :
    z.bytes (s.store.zoneEnabled n) (switchReading z.openMade z.closeMade)
      (living s fun r => r.source == .scenario n) fireman = zoneReport s n z fireman := by
  unfold Zone.bytes zoneReport
  cases z.state <;> rfl

theorem requestReadZone_answers (s : State) (x : Byte) :
    let a := (s.requestReadZone x).2
    (isZone x.toNat = false → a.status = .badField) ∧
      ∀ z, isZone x.toNat = true → s.zone x.toNat = some z →
        a.status = .accepted ∧ a.body.length = 15 ∧
        ∀ fireman : Option Handle,
          (∀ h, (∃ r, s.demand.find h = some r ∧ r.source = .fireman x.toNat) ↔
            fireman = some h) → a.body = zoneReport s x.toNat z fireman := by
  dsimp only
  refine ⟨fun hn => ?_, fun z hn hz => ?_⟩
  · simp only [State.requestReadZone, hn, Bool.false_eq_true, if_false, State.refuse, Answer.refused]
  · have hans : s.requestReadZone x = (s, .accepted (s.zonePayload x.toNat)) := by
      simp only [State.requestReadZone, hn, if_true]
    rw [hans]
    refine ⟨rfl, ?_, fun fireman hfireman => ?_⟩
    · change (s.zonePayload x.toNat).length = 15
      simp [State.zonePayload, hz, Zone.bytes, wordBytes_length, optHandle_length]
    · change s.zonePayload x.toNat = _
      simp only [State.zonePayload, hz, slotsOf_length]
      refine (congrArg (z.bytes _ _ _) (firemanHandle_eq hfireman)).trans ?_
      exact Zone.bytes_eq s x.toNat z fireman

theorem requestReadWeather_body (s : State) : s.requestReadWeather.2.body = weatherReport s := by
  change s.weather.bytes s.store.weather.value = _
  simp only [Weather.bytes, weatherReport, channelBytes, HeldCap.bytes, rainClass, List.cons_append,
    List.append_assoc, List.nil_append]

/-- A number outside a table names no item of it. -/
theorem nth_eq_none {α : Type} {l : List α} {n : Nat} (h : n = 0 ∨ l.length < n) : nth l n = none := by
  cases n with
  | zero => rfl
  | succ k => exact List.getElem?_eq_none (by omega)

theorem OpeningEntry.bytes_eq (e : OpeningEntry) : e.bytes =
    [boolByte e.enabled, if e.exposure = .flat then 1 else 0] ++ wordBytes e.facing ++
      wordBytes e.limit ++ [byteOf e.step] ++ wordBytes e.rest ++ wordBytes e.rain ++
      [byteOf e.deadband] ++ wordBytes e.strokeTime ++ [byteOf e.breakawayTime, byteOf e.zone] := by
  unfold OpeningEntry.bytes
  cases e.exposure <;> rfl

theorem SupervisorEntry.bytes_eq (e : SupervisorEntry) : e.bytes =
    [byteOf ((if e.mayLockout then 4 else 0) + (if e.mayLocal then 8 else 0) +
      (if e.mayComfort then 16 else 0) + (if e.mayPurge then 32 else 0)), boolByte e.mayConfigure,
      boolByte e.mayFireReset, boolByte e.mayRestart] :=
  congrArg (· :: _) e.classSet_eq

theorem WeatherBlock.bytes_eq (b : WeatherBlock) : b.bytes =
    [boolByte b.anemA.present, boolByte b.anemB.present] ++ wordBytes b.anemA.factor ++
      wordBytes b.anemB.factor ++
      [byteOf b.anemA.trim, byteOf b.anemB.trim, boolByte b.anemA.trimMinus,
        boolByte b.anemB.trimMinus, if b.combine = .maximum then 1 else 0, byteOf b.filterShift] ++
      b.windward.bytes ++ b.leeward.bytes ++ b.flat.bytes ++ wordBytes b.reopenDelay ++
      [byteOf b.halfSector, byteOf b.dirDeadband, byteOf b.dirDwell, boolByte b.vanePresent,
        boolByte b.rainPresent] ++ wordBytes b.dryHold ++ [boolByte b.probePresent] ++
      monitorReport b.windMonitor ++ monitorReport b.tempMonitor ++
      monitorReport b.supplyMonitor := by
  unfold WeatherBlock.bytes
  cases b.combine <;> rfl

theorem requestReadConfig_of_entry {kind x : Byte} {o : Origin} {ev : EntryValue}
    (h : s.store.entryInEffect kind x = some (o, ev)) :
    (s.requestReadConfig kind x).2 = .accepted ([kind, x, o.code] ++ ev.bytes) := by
  simp only [State.requestReadConfig, h]

theorem requestReadConfig_of_none {kind x : Byte}
    (h : s.store.entryInEffect kind x = none) : (s.requestReadConfig kind x).2.status = .badField := by
  simp only [State.requestReadConfig, h, State.refuse, Answer.refused]

section
variable {resp : Response} {kind x : Byte}
  (hst : resp.status = (s.requestReadConfig kind x).2.status)
  (hbody : resp.body = (s.requestReadConfig kind x).2.body)
include hst hbody

theorem readConfig_tells {o : Origin} {ev : EntryValue}
    (h : s.store.entryInEffect kind x = some (o, ev)) :
    resp.status = .accepted ∧ resp.body = [kind, x, o.code] ++ ev.bytes := by
  rw [hst, hbody, requestReadConfig_of_entry h]
  exact ⟨rfl, rfl⟩

/-- The answer for a kind whose entries are the table `l`. -/
theorem readConfig_table {α : Type} (l : List (Entry α)) (g : α → EntryValue)
    (h : s.store.entryInEffect kind x = (nth l x.toNat).map fun e => (e.origin, g e.value)) :
    (x.toNat = 0 ∨ l.length < x.toNat → resp.status = .badField) ∧
      ∀ e, nth l x.toNat = some e →
        resp.status = .accepted ∧ resp.body = [kind, x, e.origin.code] ++ (g e.value).bytes := by
  refine ⟨fun hx => ?_, fun e he => readConfig_tells hst hbody (h.trans (by rw [he]; rfl))⟩
  rw [nth_eq_none hx] at h
  exact hst.trans (requestReadConfig_of_none h)

theorem requestReadConfig_answers : configAnswered s kind x resp := by
  refine ⟨fun hk => ?_, ?_, ?_, ?_, ?_, ?_, ?_, ?_, ?_⟩
  · refine hst.trans (requestReadConfig_of_none ?_)
    obtain ⟨k, hk⟩ := Nat.exists_eq_add_of_le' hk
    simp only [Store.entryInEffect, hk]
  · rintro rfl
    obtain ⟨hbad, htells⟩ := readConfig_table hst hbody s.store.openings (.opening x.toNat) rfl
    refine ⟨hbad, fun e he => ?_⟩
    obtain ⟨hok, hb⟩ := htells e he
    refine ⟨?_, hok, hb.trans (congrArg _ (OpeningEntry.bytes_eq e.value))⟩
    rw [hb, List.length_append]
    exact congrArg (3 + ·) (OpeningEntry.bytes_length e.value)
  · rintro rfl
    exact readConfig_table hst hbody s.store.groups (.group x.toNat) rfl
  · rintro rfl
    exact readConfig_table hst hbody s.store.zones (.zone x.toNat) rfl
  · rintro rfl
    exact readConfig_table hst hbody s.store.scenarios (.scenario x.toNat) rfl
  · rintro rfl
    exact readConfig_table hst hbody s.store.stations (.station x.toNat) rfl
  · rintro rfl
    obtain ⟨hbad, htells⟩ := readConfig_table hst hbody s.store.supervisors (.supervisor x.toNat) rfl
    refine ⟨hbad, fun e he => ?_⟩
    obtain ⟨hok, hb⟩ := htells e he
    exact ⟨hok, hb.trans (congrArg _ (SupervisorEntry.bytes_eq e.value))⟩
  · rintro rfl
    obtain ⟨hok, hb⟩ := readConfig_tells hst hbody
      (o := s.store.weather.origin) (ev := .weather s.store.weather.value) rfl
    refine ⟨?_, hok, hb.trans (congrArg _ (WeatherBlock.bytes_eq s.store.weather.value))⟩
    rw [hb, List.length_append]
    exact congrArg (3 + ·) (WeatherBlock.bytes_length s.store.weather.value)
  · rintro rfl
    obtain ⟨hok, hb⟩ := readConfig_tells hst hbody
      (o := s.store.movement.origin) (ev := .movement s.store.movement.value) rfl
    exact ⟨by rw [hb]; rfl, hok, hb⟩

end

end Sys2Proof.Machine

namespace Sys2Proof.Proofs

open Sys2Proof.Machine

/-- Settles O19: the write begins in the spare copy, and a CONFIGURE not answered discards what was
held. -/
theorem configureStartsWrite : Obligations.ConfigureStartsWrite := by
  intro m kind index value s ev hm hmay hp hv hr hw hd hfree
  have hexec : exec (.configure m kind index value) s = .next (s.takeConfigure m kind index value) :=
    if_pos hm
  rw [State.takeConfigure, requestConfigure_of_free hmay hp hv hr hw hd hfree] at hexec
  refine ⟨_, hexec, ((setStore_frame s _).mono (by simp)).trans ((dropHeld_frame _).mono (by simp)),
    dropHeld_held _, ?_, fun hnone => dropHeld_of_none (s := s.setStore _) hnone, rfl,
    fun k i => Store.begin_entryInEffect _ _ k i, ?_⟩
  · exact heldDiscarded.of_link_eq (u := s.dropHeld) rfl (dropHeld_discards s)
  · rintro n v e c rfl he hc
    have hspare := Entry.beginWrite_spare e c v (EntryValue.spareIsFirst (.opening n v))
      (Config.firstSequence s.store.draws) hc
    refine ⟨_, ?_, hspare⟩
    change nth (modifyNth s.store.openings n _) n = _
    rw [nth_modifyNth, if_pos rfl, he]
    rfl

/-- Settles O20: each refusal has its own equation, in the order of the steps. -/
theorem permissionsAndOrderOfRefusals : Obligations.PermissionsAndOrderOfRefusals := by
  intro m s hm
  have hfire : exec (.fireReset m) s = .next ((s.requestFireReset m).respond m 0x11#8) := if_pos hm
  have hrestart : exec (.restart m) s = .next ((s.requestRestart m).respond m 0x12#8) := if_pos hm
  refine ⟨fun kind index value hno => configure_refused hm ?_,
    fun kind index value hmay hbad => configure_refused hm (requestConfigure_of_badField hmay hbad),
    fun kind index value ev hmay hp hv hr =>
      ⟨fun hbusy => configure_refused hm (requestConfigure_of_busy hmay hp hv hr hbusy),
        fun hw hd huse => configure_refused hm (requestConfigure_of_inUse hmay hp hv hr hw hd huse)⟩,
    fun hno => refused_of_eq hfire ?_, fun hno => refused_of_eq hrestart ?_, fun hmay => ?_⟩
  · simp only [State.requestConfigure, hno, Bool.false_eq_true, if_false]
  · simp only [State.requestFireReset, hno, Bool.false_eq_true, if_false]
  · simp only [State.requestRestart, hno, Bool.false_eq_true, if_false]
  · have hans : s.requestRestart m = (s, .accepted []) := by
      simp only [State.requestRestart, hmay, if_true]
    exact ⟨_, _, hrestart, answered_of_eq hans m _, rfl, rfl, rfl⟩

/-- Settles O22. -/
theorem writeAbandonedOrFailed : Obligations.WriteAbandonedOrFailed := by
  intro s w hw
  refine ⟨fun left huse => ?_, ?_⟩
  · have hexec : exec (.writeComplete left) s =
        .next ((s.setStore s.store.abandon).writeAnswered s w .inUse) := by
      simp only [exec, execWriteComplete, hw, State.completeWrite, huse, if_true]
    exact ⟨_, s.formResponse s.store.movement.value.partAddress w.sender 0x0E#8 (.refused .inUse),
      hexec, ((setStore_frame s _).mono (by simp)).trans ((setLink_frame _ _).mono (by simp)), rfl,
      Store.abandon_entryInEffect _, rfl, rfl, rfl⟩
  · have hexec : exec .writeFail s = .next (s.failWrite w) := by
      simp only [exec, execWriteFail, hw]
    have hstore : (s.failWrite w).store = s.store.abandon :=
      report_frame _ _ _ _ .store (by simp)
    refine ⟨_, ((s.setStore s.store.abandon).report .siteStore [] [.storeFault]).formResponse
      s.store.movement.value.partAddress w.sender 0x0E#8 (.refused .storeFault), hexec, ?_, ?_,
      fun k i => ?_, report_mail _ _ _ _, ?_, rfl, rfl⟩
    · exact (((setStore_frame s _).mono (by simp)).trans ((report_frame _ _ _ _).mono (by simp))).trans
        ((setLink_frame _ _).mono (by simp))
    · rw [hstore]
      rfl
    · rw [hstore]
      exact Store.abandon_entryInEffect _ k i
    · exact rfl

/-- Settles O16: each request that reads has its own answer, in the layout of R175. -/
theorem readsAnswerWhatStands : Obligations.ReadsAnswerWhatStands := by
  intro m x kind s hm
  have hopening : exec (.readOpening m x) s = .next ((s.requestReadOpening x).respond m 0x07#8) :=
    if_pos hm
  have hgroup : exec (.readGroup m x) s = .next ((s.requestReadGroup x).respond m 0x08#8) := if_pos hm
  have hzone : exec (.readZone m x) s = .next ((s.requestReadZone x).respond m 0x09#8) := if_pos hm
  have hweather : exec (.readWeather m) s = .next (s.requestReadWeather.respond m 0x0A#8) := if_pos hm
  have hconditions : exec (.readConditions m) s =
      .next (s.requestReadConditions.respond m 0x0B#8) := if_pos hm
  have hconfig : exec (.readConfig m kind x) s = .next ((s.requestReadConfig kind x).respond m 0x0F#8) :=
    if_pos hm
  refine ⟨⟨_, _, hopening, answered_of_state (requestReadOpening_state s x) m _, rfl, ?_⟩,
    ⟨_, _, hgroup, answered_of_state (requestReadGroup_state s x) m _, rfl, ?_⟩,
    ⟨_, _, hzone, answered_of_state (requestReadZone_state s x) m _, rfl, ?_⟩,
    ⟨_, _, hweather, answered_of_state rfl m _, rfl, rfl, Weather.bytes_length _ _,
      requestReadWeather_body s⟩,
    ⟨_, _, hconditions, answered_of_state rfl m _, rfl, rfl, rfl⟩,
    ⟨_, _, hconfig, answered_of_state (requestReadConfig_state s kind x) m _, rfl, ?_⟩⟩
  · exact requestReadOpening_answers s x
  · exact requestReadGroup_answers s x
  · exact requestReadZone_answers s x
  · exact requestReadConfig_answers rfl rfl

end Sys2Proof.Proofs
end


section
/-! PROOFS. The resolver: quantisation, the result of one recomputation, and what a list of them leaves. -/
namespace Sys2Proof.Machine

open Sys2Proof

variable {s t u : State}

/-! ### Quantisation (R102) -/

/-- A bounded aperture is rounded to a multiple within a limit that is itself a multiple. -/
theorem rounded_le_limit {step limit x : Nat} (h1 : 1 ≤ step) (hl : limit % step = 0) (hx : x ≤ limit) :
    step * ((x + step / 2) / step) ≤ limit := by
  obtain ⟨k, rfl⟩ := Nat.dvd_of_mod_eq_zero hl
  refine Nat.mul_le_mul_left step (Nat.lt_succ_iff.mp ((Nat.div_lt_iff_lt_mul h1).mpr ?_))
  rw [Nat.succ_mul, Nat.mul_comm k]
  have hhalf := Nat.div_lt_self h1 Nat.one_lt_two
  omega

theorem quantise_eq_rounded {e : OpeningEntry} {x : Nat} (h1 : 1 ≤ e.step)
    (hl : e.limit % e.step = 0) (hx : x ≤ e.limit) :
    quantise e x = e.step * ((x + e.step / 2) / e.step) :=
  if_neg (Nat.not_lt.mpr (rounded_le_limit h1 hl hx))

theorem roundingOf_iff (x q : Nat) : (roundingOf x q = .exact ↔ q = x) ∧
    (roundingOf x q = .up ↔ x < q) ∧ (roundingOf x q = .down ↔ q < x) := by
  unfold roundingOf
  rcases Nat.lt_trichotomy q x with h | h | h
  · simp [Nat.ne_of_lt h, h, Nat.lt_asymm h]
  · simp [h]
  · simp [Nat.ne_of_gt h, h, Nat.lt_asymm h]

/-! ### The result of one recomputation -/

theorem windwardOf_facade {e : OpeningEntry} (h : e.exposure = .facade) (d half : Nat) :
    windwardOf e (some d) half = decide (angularDistance e.facing d ≤ half) := by
  simp only [windwardOf, h]

theorem profileOf_facade {e : OpeningEntry} (h : e.exposure = .facade) (o : Option Nat) (half : Nat) :
    profileOf e o half = if windwardOf e o half then .windward else .leeward := by
  simp only [profileOf, h]

/-- The windward status and the profile, by exposure and held direction (R90). -/
theorem windward_served (e : OpeningEntry) (o : Option Nat) (half : Nat) :
    match e.exposure, o with
    | .flat, _ => windwardOf e o half = false ∧ profileOf e o half = .flat
    | .facade, none => windwardOf e o half = false ∧ profileOf e o half = .leeward
    | .facade, some d =>
      if angularDistance e.facing d ≤ half then
        windwardOf e o half = true ∧ profileOf e o half = .windward
      else windwardOf e o half = false ∧ profileOf e o half = .leeward := by
  split
  · next hx => simp only [windwardOf, profileOf, hx, and_self]
  · next hx =>
    rw [profileOf_facade hx]
    simp only [windwardOf, hx, Bool.false_eq_true, if_false, and_self]
  · next d hx =>
    rw [profileOf_facade hx, windwardOf_facade hx]
    split
    · next h => simp only [h, decide_true, if_true, and_self]
    · next h => simp only [h, decide_false, Bool.false_eq_true, if_false, and_self]

theorem boundedBy_cons (a : Nat) (b : CapReason × Nat) (l : List (CapReason × Nat)) :
    boundedBy a (b :: l) = boundedBy (min a b.2) l := rfl

theorem boundedBy_nil (a : Nat) : boundedBy a [] = a := rfl

theorem reasonOf_cons (a x : Nat) (b : CapReason × Nat) (l : List (CapReason × Nat)) :
    reasonOf a x (b :: l) = if x = a then .none else if b.2 = x then b.1 else reasonOf a x l := by
  unfold reasonOf
  split
  · rfl
  · by_cases h : b.2 = x
    · simp [h]
    · simp [h]

theorem reasonOf_nil (a x : Nat) : reasonOf a x [] = .none := by
  unfold reasonOf
  split <;> rfl

/-- The reason among the bounds that always stand: the held cap before the stroke limit. -/
theorem reasonOf_wind_limit {a x held limit : Nat} (h : x = a ∨ x = held ∨ x = limit) :
    reasonOf a x [(.wind, held), (.limit, limit)] =
      if x = a then .none else if x = held then .wind else .limit := by
  rw [reasonOf_cons, reasonOf_cons, reasonOf_nil]
  by_cases ha : x = a
  · rw [if_pos ha, if_pos ha]
  · rw [if_neg ha, if_neg ha, if_neg ha]
    by_cases hh : x = held
    · rw [if_pos hh.symm, if_pos hh]
    · rw [if_neg (Ne.symm hh), if_neg hh, if_pos ((h.resolve_left ha).resolve_left hh).symm]

/-- A bound that stands only while its condition does. -/
def boundIf (c : Bool) (b : CapReason × Nat) : List (CapReason × Nat) := if c then [b] else []

theorem boundedBy_boundIf (a : Nat) (c : Bool) (b : CapReason × Nat) (l : List (CapReason × Nat)) :
    boundedBy a (boundIf c b ++ l) = boundedBy (min a (if c then b.2 else a)) l := by
  cases c
  · simp [boundIf]
  · rfl

theorem reasonOf_boundIf (a x : Nat) (c : Bool) (b : CapReason × Nat) (l : List (CapReason × Nat)) :
    reasonOf a x (boundIf c b ++ l) =
      if x = a then .none else if c = true ∧ x = b.2 then b.1 else reasonOf a x l := by
  cases c
  · by_cases h : x = a
    · simp [h, reasonOf]
    · simp [boundIf, h]
  · change reasonOf a x (b :: l) = _
    rw [reasonOf_cons]
    simp only [true_and, eq_comm (a := x) (b := b.2)]

/-- A frost bound, where there is a previous target, a rain bound, the held cap and the limit. -/
theorem comfortBounds_eq (s : State) (n : Nat) (p : Profile) (previous : Option Nat) :
    s.comfortBounds n p previous =
      boundIf (previous.isSome && s.weather.frost) (.frost, previous.getD 0) ++
        (boundIf s.weather.wet (.rain, (s.store.opening n).rain) ++
          [(.wind, (s.weather.cap p).held), (.limit, (s.store.opening n).limit)]) := by
  cases previous <;> simp [State.comfortBounds, boundIf]

/-- The bounds of a comfort class name the least of them, in their order (R98 to R101). -/
theorem comfort_bounded (s : State) (n a : Nat) (p : Profile) (previous : Option Nat) :
    let e := s.store.opening n
    let frost := match previous with
      | some t => if s.weather.frost then t else a
      | none => a
    let rain := if s.weather.wet then e.rain else a
    let held := (s.weather.cap p).held
    let least := min (min (min a e.limit) held) (min rain frost)
    boundedBy a (s.comfortBounds n p previous) = least ∧
      reasonOf a least (s.comfortBounds n p previous) =
        if least = a then .none
        else if s.weather.frost = true ∧ previous = some least then .frost
        else if s.weather.wet = true ∧ least = e.rain then .rain
        else if least = held then .wind
        else .limit := by
  dsimp only
  have hfrost : (match previous with
      | some t => if s.weather.frost then t else a
      | none => a) = if previous.isSome && s.weather.frost then previous.getD 0 else a := by
    cases previous <;> rfl
  rw [hfrost, comfortBounds_eq]
  obtain ⟨x, hx⟩ : ∃ x, x = min (min (min a (s.store.opening n).limit) (s.weather.cap p).held)
      (min (if s.weather.wet then (s.store.opening n).rain else a)
        (if previous.isSome && s.weather.frost then previous.getD 0 else a)) := ⟨_, rfl⟩
  rw [← hx, boundedBy_boundIf, boundedBy_boundIf, boundedBy_cons, boundedBy_cons, boundedBy_nil,
    reasonOf_boundIf, reasonOf_boundIf]
  have hnamed : (previous.isSome && s.weather.frost) = true ∧ x = previous.getD 0 ↔
      s.weather.frost = true ∧ previous = some x := by
    cases previous with
    | none => simp
    | some t =>
      simp only [Option.isSome_some, Bool.true_and, Option.getD_some, Option.some.injEq]
      exact and_congr_right fun _ => eq_comm
  refine ⟨by grind, ?_⟩
  by_cases ha : x = a
  · rw [if_pos ha, if_pos ha]
  · simp only [ha, if_false, hnamed]
    by_cases hf : s.weather.frost = true ∧ previous = some x
    · rw [if_pos hf, if_pos hf]
    · rw [if_neg hf, if_neg hf]
      by_cases hw : s.weather.wet = true ∧ x = (s.store.opening n).rain
      · rw [if_pos hw, if_pos hw]
      · rw [if_neg hw, if_neg hw]
        rw [← hnamed] at hf
        exact (reasonOf_wind_limit (by grind)).trans (if_neg ha)

/-- The result served under LOCKOUT: the frozen aperture (R59 to R61). -/
theorem computeResult_of_lockout {n : Nat} (h : s.demand.headClass n = some .lockout) :
    s.computeResult n =
      { target := s.frozenFor n, cls := some .lockout, handle := s.demand.head n,
        cap := .none, rounding := .exact, frozen := some (s.frozenFor n),
        windward := windwardOf (s.store.opening n) s.weather.heldDir
          s.store.weather.value.halfSector,
        profile := profileOf (s.store.opening n) s.weather.heldDir
          s.store.weather.value.halfSector } := by
  simp only [State.computeResult, h]

/-- The result served under any other head: the head's aperture bounded and quantised (R98). -/
theorem computeResult_of_other {n : Nat} (h : s.demand.headClass n ≠ some .lockout) :
    let wind := windwardOf (s.store.opening n) s.weather.heldDir s.store.weather.value.halfSector
    let prof := profileOf (s.store.opening n) s.weather.heldDir s.store.weather.value.halfSector
    let x := s.bound n (s.demand.headClass n) (s.requested n) wind prof
      (match s.result n with
        | some old => some old.target
        | none => none)
    s.computeResult n =
      { target := quantise (s.store.opening n) x.1, cls := s.demand.headClass n,
        handle := (match s.demand.headClass n with
          | some _ => s.demand.head n
          | none => none),
        cap := x.2, rounding := roundingOf x.1 (quantise (s.store.opening n) x.1), frozen := none,
        windward := wind, profile := prof } := by
  unfold State.computeResult
  dsimp only
  split
  · next hl => exact absurd hl h
  · rfl

theorem frozenFor_of_afresh {n : Nat}
    (h : n ∈ s.mail.freezes ∨ ∀ old, s.result n = some old → old.frozen = none) :
    s.frozenFor n = s.freeze n ((match s.result n with
      | some old => some old.target
      | none => none : Option Nat).getD (s.store.opening n).rest) := by
  unfold State.frozenFor
  dsimp only
  cases hr : s.result n with
  | none => rfl
  | some old =>
    cases hf : old.frozen with
    | none => simp only [hf, Option.getD_some]
    | some f =>
      have hmem : n ∈ s.mail.freezes := h.resolve_right fun hall => by
        rw [hall old hr] at hf
        cases hf
      simp only [hf, Option.getD_some]
      exact if_pos (List.contains_iff_mem.mpr hmem)

theorem frozenFor_of_kept {n f : Nat} {old : OpeningResult} (hn : n ∉ s.mail.freezes)
    (hr : s.result n = some old) (hf : old.frozen = some f) :
    s.frozenFor n = quantise (s.store.opening n) (min f (s.store.opening n).limit) := by
  have hc : ¬s.mail.freezes.contains n = true := fun h => hn (List.contains_iff_mem.mp h)
  simp only [State.frozenFor, hr, hf, if_neg hc]

theorem freeze_of_position {n previous : Nat} {p : DriveReply} (h : s.lastReply n = some p)
    (hs : s.nodeState n = some .online ∨ s.nodeState n = some .isolated) : s.freeze n previous =
      quantise (s.store.opening n) (min p.position (s.store.opening n).limit) := by
  cases hd : s.node n with
  | none => simp [State.lastReply, hd] at h
  | some d =>
    simp only [State.lastReply, hd] at h
    simp only [State.nodeState, hd, Option.some.injEq] at hs
    rcases hs with hs | hs <;> simp only [State.freeze, hd, hs, h]

theorem freeze_of_away {n previous : Nat}
    (hs : s.nodeState n = some .lost ∨ s.nodeState n = some .unpolled) : s.freeze n previous =
      quantise (s.store.opening n) (min previous (s.store.opening n).limit) := by
  cases hd : s.node n with
  | none => simp [State.nodeState, hd] at hs
  | some d =>
    simp only [State.nodeState, hd, Option.some.injEq] at hs
    rcases hs with hs | hs <;> simp only [State.freeze, hd, hs]

theorem bound_of_fireman {n a : Nat} {wind : Bool} {p : Profile} {previous : Option Nat} :
    s.bound n (some .fireman) a wind p previous =
      (min a (s.store.opening n).limit, if (s.store.opening n).limit < a then .limit else .none) := by
  have hif : (if min a (s.store.opening n).limit = a then CapReason.none else .limit) =
      if (s.store.opening n).limit < a then .limit else .none := by
    by_cases h : (s.store.opening n).limit < a
    · rw [if_pos h, if_neg (by omega)]
    · rw [if_neg h, if_pos (by omega)]
  change (_, _) = _
  rw [hif]

theorem bound_of_smoke {n a : Nat} {wind : Bool} {p : Profile} {previous : Option Nat} :
    s.bound n (some .smoke) a wind p previous =
      if wind = true ∧ s.weather.storm = true then (0, if 0 < a then .storm else .none)
      else s.bound n (some .fireman) a wind p previous := by
  by_cases h : wind = true ∧ s.weather.storm = true
  · have hif : (if a = 0 then CapReason.none else .storm) = if 0 < a then .storm else .none := by
      cases a <;> rfl
    have hand : (wind && s.weather.storm) = true := by simpa using h
    rw [if_pos h, ← hif]
    exact if_pos hand
  · have hand : ¬(wind && s.weather.storm) = true := by simpa using h
    rw [if_neg h]
    exact if_neg hand

theorem bound_of_comfort {n a : Nat} {cls : Option DemandClass} {wind : Bool} {p : Profile}
    {previous : Option Nat} (hf : cls ≠ some .fireman) (hs : cls ≠ some .smoke) :
    s.bound n cls a wind p previous =
      (boundedBy a (s.comfortBounds n p previous),
        reasonOf a (boundedBy a (s.comfortBounds n p previous)) (s.comfortBounds n p previous)) := by
  unfold State.bound
  dsimp only
  split
  · exact absurd rfl hf
  · exact absurd rfl hs
  · rfl

/-- A recomputation serves the head. -/
theorem computeResult_servedAs (s : State) (n : Nat) : servedAs s n (s.computeResult n) := by
  by_cases hl : s.demand.headClass n = some .lockout
  · rw [computeResult_of_lockout hl]
    unfold servedAs
    rw [hl]
    refine ⟨rfl, rfl, windward_served _ _ _, rfl, rfl, rfl, fun hfresh p hp hst => ?_,
      fun hfresh hst => ?_, fun old f hkept hr hf => ?_⟩
    · exact (frozenFor_of_afresh hfresh).trans (freeze_of_position hp hst)
    · exact (frozenFor_of_afresh hfresh).trans (freeze_of_away hst)
    · exact frozenFor_of_kept (fun hn => hkept (.inl hn)) hr hf
  · rw [computeResult_of_other hl]
    unfold servedAs
    refine ⟨rfl, rfl, windward_served _ _ _, ?_⟩
    dsimp only
    split
    · next h => exact absurd h hl
    · next h =>
      rw [h, bound_of_fireman]
      exact ⟨rfl, rfl, rfl, rfl⟩
    · next h =>
      rw [h, bound_of_smoke]
      refine ⟨fun hstorm => ?_, fun hno => ?_⟩
      · rw [if_pos hstorm]
        exact ⟨rfl, rfl, rfl, rfl⟩
      · rw [if_neg hno, bound_of_fireman]
        exact ⟨rfl, rfl, rfl, rfl⟩
    · next _ hf hs =>
      rw [bound_of_comfort hf hs]
      obtain ⟨hleast, hreason⟩ := comfort_bounded s n (s.requested n)
        (profileOf (s.store.opening n) s.weather.heldDir s.store.weather.value.halfSector)
        (match s.result n with
          | some old => some old.target
          | none => none)
      rw [hleast, hreason]
      exact ⟨rfl, rfl, rfl, rfl⟩

/-! ### What a recomputation of other openings leaves of one -/

/-- From `s` to `t` nothing changed that the result of opening `n` rests on, and no told target is lost. -/
structure Served (n : Nat) (s t : State) : Prop where
  store : t.store = s.store
  demand : t.demand = s.demand
  weather : t.weather = s.weather
  bus : t.bus = s.bus
  result : t.result n = s.result n
  freezes : n ∈ t.mail.freezes ↔ n ∈ s.mail.freezes
  targets : ∀ x ∈ s.mail.targets, x ∈ t.mail.targets

theorem Served.refl (n : Nat) (s : State) : Served n s s :=
  ⟨rfl, rfl, rfl, rfl, rfl, Iff.rfl, fun _ h => h⟩

theorem Served.trans {n : Nat} (h : Served n s t) (h' : Served n t u) : Served n s u where
  store := h'.store.trans h.store
  demand := h'.demand.trans h.demand
  weather := h'.weather.trans h.weather
  bus := h'.bus.trans h.bus
  result := h'.result.trans h.result
  freezes := h'.freezes.trans h.freezes
  targets x hx := h'.targets x (h.targets x hx)

theorem Served.contains {n : Nat} (h : Served n s t) :
    t.mail.freezes.contains n = s.mail.freezes.contains n := by
  rw [Bool.eq_iff_iff, List.contains_iff_mem, List.contains_iff_mem]
  exact h.freezes

theorem Served.freeze {n : Nat} (h : Served n s t) (x : Nat) : t.freeze n x = s.freeze n x := by
  have hnode : t.node n = s.node n := by
    rw [State.node, h.bus]
    rfl
  simp only [State.freeze, h.store, hnode]

theorem Served.frozenFor {n : Nat} (h : Served n s t) : t.frozenFor n = s.frozenFor n := by
  simp only [State.frozenFor, h.store, h.result, h.contains, h.freeze]

theorem Served.cap {n : Nat} (h : Served n s t) (p : Profile) : t.weather.cap p = s.weather.cap p := by
  rw [h.weather]

/-- The result of an opening rests on what `Served` keeps alone. -/
theorem Served.computeResult {n : Nat} (h : Served n s t) : t.computeResult n = s.computeResult n := by
  by_cases hl : s.demand.headClass n = some .lockout
  · have hl' : t.demand.headClass n = some .lockout := by rwa [h.demand]
    rw [computeResult_of_lockout hl, computeResult_of_lockout hl', h.frozenFor, h.demand, h.store,
      h.weather]
  · have hl' : t.demand.headClass n ≠ some .lockout := by rwa [h.demand]
    have hreq : t.requested n = s.requested n := by
      simp only [State.requested, h.demand, h.store]
    have hbound : ∀ c a w p q, t.bound n c a w p q = s.bound n c a w p q := fun c a w p q => by
      simp only [State.bound, State.comfortBounds, h.store, h.weather]
    rw [computeResult_of_other hl, computeResult_of_other hl']
    rw [hbound, hreq, h.result, h.demand, h.store, h.weather]

theorem tellResult_freezes (s : State) (n : Nat) (old : Option OpeningResult) (r : OpeningResult) :
    (s.tellResult n old r).mail.freezes = s.mail.freezes := by
  unfold State.tellResult
  split
  · split <;> rfl
  · rfl

theorem tellResult_targets_mono (s : State) (n : Nat) (old : Option OpeningResult) (r : OpeningResult) :
    ∀ x ∈ s.mail.targets, x ∈ (s.tellResult n old r).mail.targets := by
  intro x hx
  unfold State.tellResult
  split
  · split
    · exact hx
    · exact List.mem_append_left _ hx
  · exact List.mem_append_left _ hx

theorem tellResult_changed {old r : OpeningResult} (s : State) (n : Nat) (h : old.target ≠ r.target) :
    { opening := n, target := r.target, cls := r.cls, changed := true } ∈
      (s.tellResult n (some old) r).mail.targets := by
  have hne : (old.target != r.target) = true := bne_iff_ne.mpr h
  simp only [State.tellResult, if_neg fun k : old.target = r.target ∧ _ => h k.1, hne]
  exact List.mem_append_right _ List.mem_cons_self

theorem recomputeOne_of_enabled {n : Nat} (h : s.store.enabled n = true) : s.recomputeOne n =
    ((s.setResult n (s.computeResult n)).tellResult n (s.result n)
      (s.computeResult n)).freezeTaken n := if_pos h

theorem recomputeOne_freezes {n : Nat} (h : s.store.enabled n = true) :
    (s.recomputeOne n).mail.freezes = s.mail.freezes.filter fun k => k != n := by
  rw [recomputeOne_of_enabled h]
  change (State.mail _).freezes.filter _ = _
  rw [tellResult_freezes]
  rfl

theorem recomputeOne_targets_mono (s : State) (n : Nat) :
    ∀ x ∈ s.mail.targets, x ∈ (s.recomputeOne n).mail.targets := by
  intro x hx
  unfold State.recomputeOne
  split
  · exact tellResult_targets_mono _ _ _ _ x hx
  · exact hx

/-- An opening recomputed leaves every other. -/
theorem recomputeOne_served (s : State) {n k : Nat} (h : n ≠ k) : Served n s (s.recomputeOne k) where
  store := recomputeOne_frame s k .store (by simp)
  demand := recomputeOne_frame s k .demand (by simp)
  weather := recomputeOne_frame s k .weather (by simp)
  bus := recomputeOne_frame s k .bus (by simp)
  result := (recomputeOne_result s k n).resolve_right fun hr => h hr.1
  freezes := by
    by_cases hk : s.store.enabled k = true
    · rw [recomputeOne_freezes hk, List.mem_filter]
      simp [h]
    · rw [State.recomputeOne, if_neg hk]
  targets := recomputeOne_targets_mono s k

theorem foldl_recomputeOne_served {n : Nat} (ns : List Nat) (h : n ∉ ns) (s : State) :
    Served n s (ns.foldl State.recomputeOne s) := by
  induction ns generalizing s with
  | nil => exact .refl _ _
  | cons k ns ih =>
    have hk : n ≠ k := fun hk => h (hk ▸ List.mem_cons_self)
    exact (recomputeOne_served s hk).trans (ih (fun hn => h (List.mem_cons_of_mem _ hn)) _)

theorem enabled_pos {n : Nat} (h : s.store.enabled n = true) : 1 ≤ n := by
  cases n with
  | zero => cases h
  | succ n => omega

theorem recomputeOne_result_self {n : Nat} (h : s.store.enabled n = true) (hn : n ≤ s.results.length) :
    (s.recomputeOne n).result n = some (s.computeResult n) := by
  have told : ∀ (u : State) old r, ((u.tellResult n old r).freezeTaken n).results = u.results :=
    fun u old r => (tellResult_frame u n old r) .results (by simp)
  rw [recomputeOne_of_enabled h]
  simp only [State.result, told]
  obtain ⟨o, ho⟩ := nth_isSome s.results n (enabled_pos h) hn
  exact nthSome_setNth_self _ _ _ _ ho

theorem recomputeOne_length (s : State) (n : Nat) :
    (s.recomputeOne n).results.length = s.results.length := by
  unfold State.recomputeOne
  split
  · have told : ∀ (u : State) old r, ((u.tellResult n old r).freezeTaken n).results = u.results :=
      fun u old r => (tellResult_frame u n old r) .results (by simp)
    rw [told]
    exact length_setNth _ _ _
  · rfl

theorem foldl_recomputeOne_length (ns : List Nat) (s : State) :
    (ns.foldl State.recomputeOne s).results.length = s.results.length := by
  induction ns generalizing s with
  | nil => rfl
  | cons n ns ih => exact (ih _).trans (recomputeOne_length s n)

theorem judgeWeatherClose_served (s before : State) (n : Nat) : Served n s (s.judgeWeatherClose before) where
  store := judgeWeatherClose_frame s before .store (by simp)
  demand := judgeWeatherClose_frame s before .demand (by simp)
  weather := judgeWeatherClose_frame s before .weather (by simp)
  bus := judgeWeatherClose_frame s before .bus (by simp)
  result := result_of_frame (judgeWeatherClose_frame s before) (by simp) n
  freezes := by rw [State.judgeWeatherClose, report_mail]
  targets x hx := by
    rw [State.judgeWeatherClose, report_mail]
    exact hx

/-- What a recomputation leaves of an opening it does not name. -/
theorem recompute_result_of_not_mem {n : Nat} {ns : List Nat} (h : n ∉ ns) (s : State) :
    (s.recompute ns).result n = s.result n :=
  ((foldl_recomputeOne_served ns h s).trans (judgeWeatherClose_served _ s n)).result

/-- A recomputation gives each opening it names the result of its head, as the state stood before it. -/
theorem recompute_of_mem {n : Nat} {ns : List Nat} (h : n ∈ ns) (hnd : ns.Nodup)
    (hen : s.store.enabled n = true) (hlen : n ≤ s.results.length) :
    (s.recompute ns).result n = some (s.computeResult n) ∧
      n ∉ (s.recompute ns).mail.freezes ∧
      ∀ old, s.result n = some old → old.target ≠ (s.computeResult n).target →
        { opening := n, target := (s.computeResult n).target, cls := (s.computeResult n).cls,
          changed := true } ∈ (s.recompute ns).mail.targets := by
  obtain ⟨pre, post, rfl⟩ := List.append_of_mem h
  rw [List.nodup_append, List.nodup_cons] at hnd
  obtain ⟨-, ⟨hpost, -⟩, hdisj⟩ := hnd
  have hpre : n ∉ pre := fun hn => hdisj n hn n List.mem_cons_self rfl
  let s1 := pre.foldl State.recomputeOne s
  have h1 : Served n s s1 := foldl_recomputeOne_served pre hpre s
  have hlen1 : s1.results.length = s.results.length := foldl_recomputeOne_length pre s
  have hen1 : s1.store.enabled n = true := by rwa [h1.store]
  have hres := recomputeOne_result_self hen1 (hlen1.symm ▸ hlen)
  have h2 : Served n (s1.recomputeOne n) (s.recompute (pre ++ n :: post)) := by
    rw [State.recompute, List.foldl_append, List.foldl_cons]
    exact (foldl_recomputeOne_served post hpost _).trans (judgeWeatherClose_served _ s n)
  rw [h1.computeResult] at hres
  refine ⟨h2.result.trans hres, fun hfr => ?_, fun old hold hne => h2.targets _ ?_⟩
  · rw [h2.freezes, recomputeOne_freezes hen1, List.mem_filter] at hfr
    simpa using hfr.2
  · rw [recomputeOne_of_enabled hen1, h1.computeResult, h1.result, hold]
    exact tellResult_changed _ n hne

/-- A recomputation tells targets, takes freezes and reports; the rest of the mail stands. -/
theorem recompute_mail (s : State) (ns : List Nat) : (s.recompute ns).mail =
    { s.mail with
      freezes := (s.recompute ns).mail.freezes
      targets := (s.recompute ns).mail.targets
      reports := (s.recompute ns).mail.reports } := by
  have one : ∀ u n, (State.recomputeOne u n).mail =
      { u.mail with
        freezes := (State.recomputeOne u n).mail.freezes
        targets := (State.recomputeOne u n).mail.targets } := fun u n => by
    unfold State.recomputeOne State.tellResult
    split
    · dsimp only
      split
      · split <;> rfl
      · rfl
    · rfl
  have all : ∀ (ns : List Nat) u, (ns.foldl State.recomputeOne u).mail =
      { u.mail with
        freezes := (ns.foldl State.recomputeOne u).mail.freezes
        targets := (ns.foldl State.recomputeOne u).mail.targets } := fun ns => by
    induction ns with
    | nil => exact fun _ => rfl
    | cons n ns ih =>
      intro u
      rw [List.foldl_cons, ih, one]
  unfold State.recompute State.judgeWeatherClose
  rw [report_mail, all]

theorem recompute_heads (s : State) (ns : List Nat) : (s.recompute ns).mail.heads = s.mail.heads := by
  rw [recompute_mail]

theorem recompute_weatherTold (s : State) (ns : List Nat) :
    (s.recompute ns).mail.weather = s.mail.weather := by
  rw [recompute_mail]

theorem mem_enabledOpenings {st : Store} {n : Nat} (hen : st.enabled n = true) :
    n ∈ st.enabledOpenings := by
  rw [Store.enabled, Bool.and_eq_true, isOpening_iff] at hen
  exact List.mem_filter.mpr ⟨(mem_openingNumbers n).mpr hen.1, hen.2⟩

theorem enabledOpenings_nodup (st : Store) : st.enabledOpenings.Nodup :=
  List.Nodup.filter _ List.nodup_range'

theorem mem_namedBy (w : WeatherTold) {n : Nat} (hen : s.store.enabled n = true) :
    n ∈ s.namedBy w ↔ ∀ p, w = .heldCap p → ∃ o, s.result n = some o ∧ o.profile = p := by
  have hmem := mem_enabledOpenings hen
  cases w with
  | heldCap p =>
    simp only [State.namedBy, List.mem_filter, hmem, true_and, WeatherTold.heldCap.injEq,
      forall_eq']
    cases s.result n <;> simp
  | _ => simp [State.namedBy, hmem]

theorem namedBy_nodup (w : WeatherTold) : (s.namedBy w).Nodup := by
  cases w with
  | heldCap p => exact (enabledOpenings_nodup _).filter _
  | _ => exact enabledOpenings_nodup _

end Sys2Proof.Machine

namespace Sys2Proof.Proofs

open Sys2Proof.Machine

/-- Settles O28. -/
theorem quantiseTakesNearestMultiple : Obligations.QuantiseTakesNearestMultiple := by
  intro e x h1 hl hx
  have hq := quantise_eq_rounded h1 hl hx
  have hle := rounded_le_limit h1 hl hx
  have hdown := Nat.mul_div_le (x + e.step / 2) e.step
  have hup := Nat.lt_mul_div_succ (x + e.step / 2) (Nat.lt_of_lt_of_le Nat.zero_lt_one h1)
  rw [Nat.mul_succ] at hup
  rw [← hq] at hle hdown hup
  obtain ⟨hexact, hrup, hrdown⟩ := roundingOf_iff x (quantise e x)
  exact ⟨hq, hle, hdown, by omega, hexact, hrup, hrdown⟩

/-- Settles O29: a recomputation serves the head of every opening it names, each as the state stood
before it. -/
theorem recomputeServesHead : Obligations.RecomputeServesHead := by
  intro s ns rest hheads hnd
  have hexec : exec (.resolverRecompute .demandManager) s =
      .next ((s.setMail { s.mail with heads := rest }).recompute ns) := by
    simp only [exec, execResolverRecompute, hheads]
  have hframe := recompute_frame (s.setMail { s.mail with heads := rest }) ns
  refine ⟨_, hexec, ((setMail_frame s _).mono (by simp)).trans hframe, recompute_heads _ ns,
    fun n hen hlen => ⟨fun hn => recompute_result_of_not_mem hn _, fun hn => ?_⟩⟩
  obtain ⟨hres, hfr, htold⟩ :=
    recompute_of_mem (s := s.setMail { s.mail with heads := rest }) hn hnd hen hlen
  exact ⟨_, hres, computeResult_servedAs (s.setMail { s.mail with heads := rest }) n, hfr, htold⟩

/-- Settles O30: the openings named by a change of the weather, each once. -/
theorem recomputeAfterWeather : Obligations.RecomputeAfterWeather := by
  intro s rest w hw
  have hexec : exec (.resolverRecompute .weatherUnit) s =
      .next ((s.setMail { s.mail with weather := rest }).recompute
        ((s.setMail { s.mail with weather := rest }).namedBy w)) := by
    simp only [exec, execResolverRecompute, hw]
  have hframe := recompute_frame (s.setMail { s.mail with weather := rest })
    ((s.setMail { s.mail with weather := rest }).namedBy w)
  refine ⟨_, hexec, ((setMail_frame s _).mono (by simp)).trans hframe, recompute_weatherTold _ _,
    fun n hen hlen => ⟨fun hnamed => ?_, fun hnot => ?_⟩⟩
  · obtain ⟨hres, -⟩ := recompute_of_mem (s := s.setMail { s.mail with weather := rest })
      ((mem_namedBy w hen).mpr hnamed) (namedBy_nodup w) hen hlen
    exact ⟨_, hres, computeResult_servedAs (s.setMail { s.mail with weather := rest }) n⟩
  · exact recompute_result_of_not_mem (fun hn => hnot ((mem_namedBy w hen).mp hn)) _

end Sys2Proof.Proofs
end

section
/-! PROOFS. The reports an operation adds to the mailbox of the condition unit, by the block that
makes them, and the mail of a weather event (R66, R81). -/
namespace Sys2Proof.Machine
open Sys2Proof
variable {s t u : State}

/-! ### Reports added -/

/-- From `s` to `t` reports were only added, each of them one that `P` names. -/
def AddsReports (P : Report → Prop) (s t : State) : Prop :=
  ∃ later, t.mail.reports = s.mail.reports ++ later ∧ ∀ r ∈ later, P r

/-- The conditions a block other than the weather unit reports as live. -/
def Owner.lives : Owner → List Condition
  | .demandManager => [.tableHigh]
  | .fireUnit => [.zoneAlarm, .zoneLineFault]
  | .movementController => [.openingFault, .startWait]
  | .driveBusController => [.openingLost, .openingIsolated]
  | _ => []

/-- `P` names every report the block `o` makes on conditions of its own. -/
def Names (P : Report → Prop) (o : Owner) : Prop :=
  ∀ l e, (∀ x ∈ l, Prod.fst x ∈ Owner.lives o) → P ⟨o, l, e⟩

theorem fst_of_mem_changedLive {c : Condition} {b a : Bool} {x : Condition × Bool}
    (h : x ∈ changedLive c b a) : x.1 = c := by
  unfold changedLive at h
  split at h
  · cases h
  · rw [List.mem_singleton.mp h]

/-- The lives of a report on two conditions of a block are conditions of that block. -/
theorem fst_mem_changedLive_append {c c' : Condition} {b a b' a' : Bool} {cs : List Condition}
    (hc : c ∈ cs) (hc' : c' ∈ cs) :
    ∀ x ∈ changedLive c b a ++ changedLive c' b' a', x.1 ∈ cs := fun _ hx =>
  (List.mem_append.mp hx).elim (fun h => fst_of_mem_changedLive h ▸ hc)
    fun h => fst_of_mem_changedLive h ▸ hc'

namespace AddsReports
variable {P : Report → Prop}

theorem of_eq (h : t.mail.reports = s.mail.reports) : AddsReports P s t := ⟨[], by simp [h], by simp⟩

theorem of_mail (h : t.mail = s.mail) : AddsReports P s t := of_eq (by rw [h])

theorem refl (s : State) : AddsReports P s s := of_eq rfl

theorem trans (h : AddsReports P s t) (h' : AddsReports P t u) : AddsReports P s u := by
  obtain ⟨xs, hxs, hPx⟩ := h
  obtain ⟨ys, hys, hPy⟩ := h'
  refine ⟨xs ++ ys, by rw [hys, hxs, List.append_assoc], fun r hr => ?_⟩
  exact (List.mem_append.mp hr).elim (hPx r) (hPy r)

theorem mem (h : AddsReports P s t) {r : Report} (hr : r ∈ s.mail.reports) : r ∈ t.mail.reports := by
  obtain ⟨xs, hxs, -⟩ := h
  rw [hxs]
  exact List.mem_append_left _ hr

theorem old (h : AddsReports P s t) {r : Report} (hr : r ∈ t.mail.reports) (hP : ¬ P r) :
    r ∈ s.mail.reports := by
  obtain ⟨xs, hxs, hPx⟩ := h
  rw [hxs] at hr
  exact (List.mem_append.mp hr).resolve_right fun h => hP (hPx r h)

theorem mono {Q : Report → Prop} (h : AddsReports P s t) (hPQ : ∀ r, P r → Q r) :
    AddsReports Q s t := by
  obtain ⟨xs, hxs, hPx⟩ := h
  exact ⟨xs, hxs, fun r hr => hPQ r (hPx r hr)⟩

theorem foldl {α : Type} (f : State → α → State) (h : ∀ u x, AddsReports P u (f u x)) (xs : List α)
    (s : State) : AddsReports P s (xs.foldl f s) := by
  induction xs generalizing s with
  | nil => exact refl s
  | cons x xs ih => exact (h s x).trans (ih (f s x))

theorem of_actsOn {n : Nat} (h : ActsOn n s t) : AddsReports P s t := of_eq (by rw [h.mail])

theorem report {o : Owner} {l : List (Condition × Bool)} {e : List Condition}
    (h : P { owner := o, lives := l, events := e }) (s : State) : AddsReports P s (s.report o l e) := by
  rw [AddsReports, report_mail]
  refine ⟨_, rfl, fun r hr => ?_⟩
  split at hr
  · cases hr
  · rwa [List.mem_singleton.mp hr]

/-- A report after the mail of `s` was kept so far. -/
theorem report_of_mail {o : Owner} {l : List (Condition × Bool)} {e : List Condition}
    (hm : t.mail = s.mail) (h : P { owner := o, lives := l, events := e }) :
    AddsReports P s (t.report o l e) := (of_mail hm).trans (report h t)

theorem evalLampsOf (s : State) (zs : List Nat) : AddsReports P s (s.evalLampsOf zs) :=
  of_mail (evalLampsOf_mail s zs)

theorem announceMoves (h : Names P .movementController) (s before : State) :
    AddsReports P s (s.announceMoves before) :=
  report_of_mail (evalLampsOf_mail _ _)
    (h _ _ (fst_mem_changedLive_append (by simp [Owner.lives]) (by simp [Owner.lives])))

theorem endMoveEvent (h : Names P .movementController) (s before : State) :
    AddsReports P s (s.endMoveEvent before) :=
  ((announceMoves h s before).trans (of_mail (grantUpTo_mail _ _))).trans (announceMoves h _ _)

theorem endBusEvent (h : Names P .driveBusController) (s before : State) :
    AddsReports P s (s.endBusEvent before) :=
  report_of_mail (evalLampsOf_mail _ _)
    (h _ _ (fst_mem_changedLive_append (by simp [Owner.lives]) (by simp [Owner.lives])))

theorem endFireEvent (h : Names P .fireUnit) (s before : State) (zs : List Nat) :
    AddsReports P s (s.endFireEvent before zs) :=
  report_of_mail (evalLampsOf_mail _ _)
    (h _ _ (fst_mem_changedLive_append (by simp [Owner.lives]) (by simp [Owner.lives])))

theorem recomputeOne (s : State) (n : Nat) : AddsReports P s (s.recomputeOne n) := by
  refine of_eq ?_
  unfold State.recomputeOne State.tellResult
  split
  · dsimp only
    split
    · split <;> rfl
    · rfl
  · rfl

theorem judgeWeatherClose (h : ∀ live, P ⟨.weatherUnit, [(.weatherClose, live)], []⟩)
    (s before : State) : AddsReports P s (s.judgeWeatherClose before) := by
  unfold State.judgeWeatherClose changedLive
  split
  · exact refl s
  · exact report (h _) s

theorem recompute (h : ∀ live, P ⟨.weatherUnit, [(.weatherClose, live)], []⟩) (s : State)
    (ns : List Nat) : AddsReports P s (s.recompute ns) :=
  (foldl _ recomputeOne ns s).trans (judgeWeatherClose h _ _)

theorem takeSupply (h : Names P .movementController) (s before : State) :
    AddsReports P s (s.takeSupply before) := by
  unfold State.takeSupply
  split
  · exact refl s
  · exact endMoveEvent h s s

theorem takeDirection (h : ∀ live, P ⟨.weatherUnit, [(.weatherClose, live)], []⟩)
    (s before : State) : AddsReports P s (s.takeDirection before) := by
  unfold State.takeDirection
  split
  · exact refl s
  · exact recompute h s _

theorem stationGone (s : State) (x : DemandRecord × RetireReason) :
    AddsReports P s (s.stationGone x) := by
  refine of_mail ?_
  unfold State.stationGone
  split
  · split <;> rfl
  · rfl

theorem tellHeads (s : State) (ns : List Nat) : AddsReports P s (s.tellHeads ns) := by
  unfold State.tellHeads
  split
  · exact refl s
  · exact of_eq rfl

theorem closeOperation (h : Names P .demandManager) (s : State) (run : DemandRun)
    (ns : List Nat) : AddsReports P s (s.closeOperation run ns) := by
  have gone : AddsReports P s (run.retired.foldl State.stationGone (s.setDemand run.table.restoreWaits)) :=
    AddsReports.trans (t := s.setDemand run.table.restoreWaits) (of_mail rfl) (foldl _ stationGone _ _)
  have told : AddsReports P s (s.endOperation run ns).1 :=
    (gone.trans (report (h _ _ fun x hx =>
      fst_of_mem_changedLive hx ▸ List.mem_singleton_self _) _)).trans (of_eq rfl)
  exact told.trans (tellHeads _ _)

theorem placeRecord (h : Names P .demandManager) (s : State) (r : DemandRecord) :
    AddsReports P s (s.placeRecord r).1 := closeOperation h _ _ _

theorem retireSource (h : Names P .demandManager) (s : State) (src : Source) :
    AddsReports P s (s.retireSource src) := closeOperation h _ _ _

theorem takeSteps (h : Names P .demandManager) (s : State) (z left : Nat) :
    AddsReports P s (s.takeSteps z left) := by
  unfold State.takeSteps
  exact AddsReports.trans (of_eq rfl) (foldl _ (fun u x => placeRecord h u _) _ _)

theorem placeScenario (h : Names P .demandManager) (s : State) (z left : Nat) :
    AddsReports P s (s.placeScenario z left) :=
  AddsReports.trans (of_eq rfl) (takeSteps h _ z left)

theorem zoneTransition (h : Names P .demandManager) (s : State) (z : Nat) (c : LineClass)
    (left : Nat) : AddsReports P s (s.zoneTransition z c left) := by
  unfold State.zoneTransition
  split
  · dsimp only
    split
    · exact AddsReports.trans (of_mail rfl) (placeScenario h _ z left)
    · exact of_mail rfl
  · exact refl s

theorem fireResetMoves (h : Names P .movementController) (s : State) (ns : List Nat) :
    AddsReports P s (s.fireResetMoves ns) := by
  refine (foldl _ (fun u n => ?_) ns s).trans (endMoveEvent h _ _)
  split
  · exact of_actsOn (returnFaulted_actsOn u n)
  · exact refl u

theorem setBus (s : State) (b : Bus) : AddsReports P s (s.setBus b) := of_mail rfl

theorem setMoves (s : State) (x : List (Option MoveRecord)) : AddsReports P s (s.setMoves x) :=
  of_mail rfl

theorem setResults (s : State) (x : List (Option OpeningResult)) : AddsReports P s (s.setResults x) :=
  of_mail rfl

theorem setZone (s : State) (z : Nat) (r : Zone) : AddsReports P s (s.setZone z r) := of_mail rfl

end AddsReports

/-! ### The reports of a completed write -/

/-- A report that leaves SENSOR_INVALID as it is. -/
def Report.sparesSensors (r : Report) : Prop := ∀ live, (.sensorInvalid, live) ∉ r.lives

theorem names_sparesSensors (o : Owner) : Names Report.sparesSensors o := by
  intro l e h live hl
  have hmem := h _ hl
  cases o <;> simp [Owner.lives] at hmem

theorem weatherClose_sparesSensors (live : Bool) :
    Report.sparesSensors ⟨.weatherUnit, [(.weatherClose, live)], []⟩ := fun _ h => by simp at h

theorem zoneWritten_addsReports (s : State) (z : Nat) (enabled : Bool) (left : Nat) :
    AddsReports Report.sparesSensors s (s.zoneWritten z enabled left) := by
  unfold State.zoneWritten
  split
  · split
    · exact (AddsReports.setZone _ _ _).trans (.endFireEvent (names_sparesSensors _) _ _ _)
    · exact (AddsReports.setZone _ _ _).trans (.endFireEvent (names_sparesSensors _) _ _ _)
    · refine AddsReports.trans ?_ (.endFireEvent (names_sparesSensors _) _ _ _)
      split
      · exact (AddsReports.setZone _ _ _).trans (.zoneTransition (names_sparesSensors _) _ _ _ _)
      · exact .setZone _ _ _
    · exact .refl s
  · exact .refl s

theorem cancelStation_mail (s : State) (n : Nat) : (s.cancelStation n).mail = s.mail := by
  unfold State.cancelStation
  split <;> rfl

theorem openingEnabled_addsReports (s : State) (n : Nat) :
    AddsReports Report.sparesSensors s (s.openingEnabled n) :=
  (((AddsReports.setBus s _).trans (.setMoves _ _)).trans
    (.endMoveEvent (names_sparesSensors _) _ _)).trans (.recompute weatherClose_sparesSensors _ _)

theorem openingDisabled_addsReports (s : State) (n : Nat) :
    AddsReports Report.sparesSensors s (s.openingDisabled n) := by
  have without : ∀ u : State, AddsReports Report.sparesSensors u
      ((u.setMoves (setNth u.moves n none)).setMail (u.mail.without n)) := fun _ => .of_eq rfl
  unfold State.openingDisabled
  refine AddsReports.trans ?_ (.endBusEvent (names_sparesSensors _) _ _)
  refine AddsReports.trans ?_ (.setBus _ _)
  refine AddsReports.trans ?_ (.endMoveEvent (names_sparesSensors _) _ _)
  refine AddsReports.trans ?_ (without _)
  exact (AddsReports.setResults s _).trans (.judgeWeatherClose weatherClose_sparesSensors _ s)

theorem entryJudged_addsReports (s : State) (n : Nat) :
    AddsReports Report.sparesSensors s (s.entryJudged n) := by
  unfold State.entryJudged
  refine AddsReports.trans ?_ (.endMoveEvent (names_sparesSensors _) _ _)
  split
  · exact .of_actsOn (evaluateAtRest_actsOn _ _)
  · split
    · exact .of_actsOn (enterAtRest_actsOn _ _)
    · exact .refl _
  · exact .refl _

theorem openingWritten_addsReports (s : State) (n : Nat) (old new : OpeningEntry) :
    AddsReports Report.sparesSensors s (s.openingWritten n old new) := by
  unfold State.openingWritten
  refine AddsReports.trans ?_ (.evalLampsOf _ _)
  split
  · exact openingEnabled_addsReports s n
  · exact openingDisabled_addsReports s n
  · exact (AddsReports.recompute weatherClose_sparesSensors s [n]).trans (entryJudged_addsReports _ n)
  · exact .endMoveEvent (names_sparesSensors _) _ _

/-- What a write of any entry but the weather block reports says nothing of the weather unit's
channels. -/
theorem writeTold_addsReports (s before : State) (left : Nat) {v : EntryValue}
    (hv : ∀ b, v ≠ .weather b) : AddsReports Report.sparesSensors s (s.writeTold before left v) := by
  cases v with
  | opening n v => exact openingWritten_addsReports _ _ _ _
  | group g v => exact .foldl _ (fun u n => .of_mail (cancelStation_mail u n)) _ _
  | zone z v => exact zoneWritten_addsReports _ _ _ _
  | scenario z v => exact .refl _
  | station n v => exact .of_mail (cancelStation_mail s n)
  | supervisor m v => exact .refl _
  | weather b => exact absurd rfl (hv b)
  | movement v => exact .endMoveEvent (names_sparesSensors _) _ _

/-! ### The mail of a weather event -/

/-- The lives the weather unit reports at the end of an event. -/
def weatherLives (before s : State) : List (Condition × Bool) :=
  changedLive .weatherClose before.weatherClose s.weatherClose ++
    changedLive .rain before.weather.wet s.weather.wet ++
    changedLive .frost before.weather.frost s.weather.frost ++
    changedLive .storm before.weather.storm s.weather.storm ++
    changedLive .lowSupply before.weather.lowSupply s.weather.lowSupply ++
    changedLive .sensorInvalid before.sensorInvalid s.sensorInvalid

theorem mem_changedLive {c c' : Condition} {b a live : Bool} :
    (c, live) ∈ changedLive c' b a ↔ c = c' ∧ live = a ∧ b ≠ a := by
  unfold changedLive
  split
  · next h => simp [h]
  · next h => simp [h]

theorem reportWeather_mail (s before : State) : (s.reportWeather before).mail =
    { s.mail with reports := s.mail.reports ++
        if weatherLives before s = [] then [] else [⟨.weatherUnit, weatherLives before s, []⟩] } := by
  rw [State.reportWeather, report_mail]
  simp only [and_true]
  rfl

theorem takeSupply_weatherTold (s before : State) :
    (s.takeSupply before).mail.weather = s.mail.weather := by
  unfold State.takeSupply State.budgetsTaken
  split
  · rfl
  · rw [endMoveEvent_mail]

theorem takeDirection_weatherTold (s before : State) :
    (s.takeDirection before).mail.weather = s.mail.weather := by
  unfold State.takeDirection State.retestWindward
  split
  · rfl
  · rw [recompute_weatherTold]

theorem weatherEvent_weatherTold (s : State) (w : Weather) :
    (s.weatherEvent w).mail.weather = s.mail.weather ++ s.weather.told w := by
  rw [State.weatherEvent, takeDirection_weatherTold, takeSupply_weatherTold, reportWeather_mail]
  rfl

/-- After the weather unit's own report come only those of the blocks told. -/
theorem weatherEvent_reports (s : State) (w : Weather) :
    AddsReports Report.sparesSensors
      (((s.setWeather w).tellWeather (s.weather.told w)).reportWeather s) (s.weatherEvent w) :=
  (AddsReports.takeSupply (names_sparesSensors _) _ _).trans
    (AddsReports.takeDirection weatherClose_sparesSensors _ _)

theorem reportWeather_reported {before : State} {c : Condition} {live : Bool}
    (h : (c, live) ∈ weatherLives before s) : weatherReported (s.reportWeather before) c live := by
  refine ⟨⟨.weatherUnit, weatherLives before s, []⟩, ?_, rfl, h⟩
  rw [reportWeather_mail, if_neg (List.ne_nil_of_mem h)]
  exact List.mem_append_right _ (List.mem_singleton_self _)

theorem AddsReports.weatherReported {P : Report → Prop} (h : AddsReports P s t) {c : Condition}
    {live : Bool} (hs : weatherReported s c live) : weatherReported t c live := by
  obtain ⟨r, hr, hown, hl⟩ := hs
  exact ⟨r, h.mem hr, hown, hl⟩

theorem weatherEvent_reported {w : Weather} {c : Condition} {live : Bool}
    (h : (c, live) ∈ weatherLives s (s.setWeather w)) : weatherReported (s.weatherEvent w) c live :=
  (weatherEvent_reports s w).weatherReported (reportWeather_reported h)

/-- Where SENSOR_INVALID did not change, the weather unit's report spares it. -/
theorem reportWeather_addsReports {before : State} (h : before.sensorInvalid = s.sensorInvalid) :
    AddsReports Report.sparesSensors s (s.reportWeather before) := by
  refine AddsReports.report (fun live hl => ?_) s
  have hne : live = s.sensorInvalid ∧ ¬before.sensorInvalid = s.sensorInvalid := by
    simpa [mem_changedLive] using hl
  exact hne.2 h

theorem weatherEvent_addsReports {w : Weather} (h : s.sensorInvalid = (s.setWeather w).sensorInvalid) :
    AddsReports Report.sparesSensors s (s.weatherEvent w) := by
  have told : AddsReports Report.sparesSensors s ((s.setWeather w).tellWeather (s.weather.told w)) :=
    .of_eq rfl
  exact (told.trans (reportWeather_addsReports h)).trans (weatherEvent_reports s w)

end Sys2Proof.Machine
end

section
/-! PROOFS. The events of the weather unit: anemometers and the gate end (R67 to R72), the vane (R73
to R75), rain (R76), temperature and supply (R77 to R81). -/
namespace Sys2Proof.Machine
open Sys2Proof
variable {s t u : State}

/-! ### What the resolver is told -/

theorem mem_toldIf {x y : WeatherTold} {b : Bool} : x ∈ toldIf y b ↔ x = y ∧ b = true := by
  unfold toldIf
  split <;> simp [*]

theorem mem_told_storm {w w' : Weather} : .storm ∈ w.told w' ↔ w.storm ≠ w'.storm := by
  simp [Weather.told, mem_toldIf]

theorem mem_told_frost {w w' : Weather} : .frost ∈ w.told w' ↔ w.frost ≠ w'.frost := by
  simp [Weather.told, mem_toldIf]

theorem mem_told_rain {w w' : Weather} : .rain ∈ w.told w' ↔ w.wet ≠ w'.wet := by
  simp [Weather.told, mem_toldIf]

theorem mem_told_heldCap {w w' : Weather} {p : Profile} :
    .heldCap p ∈ w.told w' ↔ (w.cap p).held ≠ (w'.cap p).held := by
  have hp : p ∈ profiles := by cases p <;> decide
  simp [Weather.told, mem_toldIf, hp]

theorem weatherEvent_told {w : Weather} {x : WeatherTold} (h : x ∈ s.weather.told w) :
    x ∈ (s.weatherEvent w).mail.weather := by
  rw [weatherEvent_weatherTold]
  exact List.mem_append_right _ h

/-! ### The limit conditions -/

theorem storm_iff (w : Weather) : w.storm = true ↔ w.windState = .high := by simp [Weather.storm]

theorem frost_iff (w : Weather) : w.frost = true ↔ w.tempState = .low := by simp [Weather.frost]

theorem lowSupply_iff (w : Weather) : w.lowSupply = true ↔ w.supplyState = .low := by
  simp [Weather.lowSupply]

/-- The limit conditions of `t` are those of its monitors, and what changed of them from `s` on was
told (R66, R79, R81). -/
def limitsTold (s t : State) : Prop :=
  (t.weather.storm = true ↔ t.weather.windState = .high) ∧
  (t.weather.frost = true ↔ t.weather.tempState = .low) ∧
  (t.weather.lowSupply = true ↔ t.weather.supplyState = .low) ∧
  (t.weather.storm ≠ s.weather.storm →
    .storm ∈ t.mail.weather ∧ weatherReported t .storm t.weather.storm) ∧
  (t.weather.frost ≠ s.weather.frost →
    .frost ∈ t.mail.weather ∧ weatherReported t .frost t.weather.frost) ∧
  (t.weather.lowSupply ≠ s.weather.lowSupply →
    weatherReported t .lowSupply t.weather.lowSupply)

theorem limitsTold_self (s : State) : limitsTold s s :=
  ⟨storm_iff _, frost_iff _, lowSupply_iff _, fun h => absurd rfl h, fun h => absurd rfl h,
    fun h => absurd rfl h⟩

theorem limitsTold_weatherEvent (s : State) (w : Weather) : limitsTold s (s.weatherEvent w) := by
  refine ⟨storm_iff _, frost_iff _, lowSupply_iff _, ?_⟩
  rw [weatherEvent_weather]
  refine ⟨fun h => ⟨weatherEvent_told (mem_told_storm.mpr h.symm), weatherEvent_reported ?_⟩,
    fun h => ⟨weatherEvent_told (mem_told_frost.mpr h.symm), weatherEvent_reported ?_⟩,
    fun h => weatherEvent_reported ?_⟩
  · simp [weatherLives, mem_changedLive, h.symm]
  · simp [weatherLives, mem_changedLive, h.symm]
  · simp [weatherLives, mem_changedLive, h.symm]

/-- The command of a channel that is fitted, or of a timer that runs, is an event; any other leaves the
part as it stands. -/
def eventOrNothing (s : State) (o : Host.Outcome State Fault Refusal) : Prop :=
  o = .next s ∨ ∃ w, o = .next (s.weatherEvent w)

theorem eventOrNothing_ite (p : Prop) [Decidable p] (w : Weather) :
    eventOrNothing s (if p then .next (s.weatherEvent w) else .next s) := by
  by_cases h : p
  · exact .inr ⟨w, if_pos h⟩
  · exact .inl (if_neg h)

theorem limitsTold_of_eventOrNothing {c : Instr} (h : eventOrNothing s (exec c s)) :
    ∃ t, exec c s = .next t ∧ limitsTold s t := by
  obtain h | ⟨w, h⟩ := h
  · exact ⟨s, h, limitsTold_self s⟩
  · exact ⟨_, h, limitsTold_weatherEvent s w⟩

/-! ### Anemometers -/

theorem pulse_eq (a : Anemometer) (present : Bool) : a.pulse present =
    { a with count := if present then min (a.count + 1) 65535 else a.count } := by
  unfold Anemometer.pulse
  split <;> rfl

theorem usable_iff (a : Anemometer) : a.usable = true ↔ a.cls = .valid ∨ a.cls = .over := by
  simp [Anemometer.usable]

theorem Anemometer.atGateEnd_taken (a : Anemometer) (sc : AnemometerScale) :
    gateTaken sc a (a.atGateEnd sc) := by
  unfold gateTaken Anemometer.atGateEnd
  have hmax : Config.speedMax = 600 := rfl
  simp only [hmax]
  split
  · next h => simp [h]
  · next h =>
    split
    · next hf => simp [h, hf]
    · next hf =>
      split
      · next ho => simp [h, hf, Nat.min_eq_right (Nat.le_of_lt ho)]
      · next ho => simp [h, hf, Nat.min_eq_left (Nat.le_of_not_lt ho)]

/-- At the gate end an anemometer that is VALID or OVER has a value. -/
theorem Anemometer.atGateEnd_value {a : Anemometer} {sc : AnemometerScale}
    (h : (a.atGateEnd sc).usable = true) : ∃ v, (a.atGateEnd sc).value = some v := by
  unfold Anemometer.atGateEnd Anemometer.usable at *
  dsimp only at *
  split
  · next hp => simp [hp] at h
  · next hp =>
    split
    · next hf => simp [hp, hf] at h
    · split
      · exact ⟨_, rfl⟩
      · exact ⟨_, rfl⟩

theorem Anemometer.atGateEnd_ne_stale (a : Anemometer) (sc : AnemometerScale) :
    (a.atGateEnd sc).cls ≠ .stale := by
  unfold Anemometer.atGateEnd
  dsimp only
  split
  · simp
  · split
    · simp
    · split <;> simp

/-! ### The wind speed (R69 to R72) -/

/-- The speed class of one usable anemometer is its own. -/
theorem over_or_valid {a : Anemometer} (h : a.usable = true) :
    (if a.cls = .over then ChannelClass.over else .valid) = a.cls := by
  obtain hv | ho := (usable_iff a).mp h
  · simp [hv]
  · simp [ho]

/-- The unit's speed and WIND monitor after the gate end, before the caps and the dwell. -/
def Weather.speedAtGateEnd (w : Weather) (b : WeatherBlock) : Weather :=
  let x := combinedSample b.combine (w.anemA.atGateEnd b.anemA) (w.anemB.atGateEnd b.anemB)
  let cls := speedClassOf (w.anemA.atGateEnd b.anemA) (w.anemB.atGateEnd b.anemB) x
  let f := match x with
    | some x => if w.takeOver then x else filterToward b.filterShift w.filtered x
    | none => w.filtered
  { w with
    anemA := w.anemA.atGateEnd b.anemA, anemB := w.anemB.atGateEnd b.anemB, sample := x, filtered := f
    speedClass := cls, speedSeen := w.speedSeen || cls.ordered, takeOver := w.takeOver && x.isNone
    windState := monitorNext b.windMonitor w.windState (if cls.ordered then some (f : Int) else none) }

theorem atGateEnd_eq (w : Weather) (b : WeatherBlock) : w.atGateEnd b =
    { ((w.speedAtGateEnd b).capsAtGateEnd b).dwellSecond b with
      gates := min (w.gates + 1) Config.sensorReportGate } := rfl

/-- The caps and the dwell leave the speed, its class and the monitors. -/
theorem atGateEnd_keeps (w : Weather) (b : WeatherBlock) : w.atGateEnd b =
    { w.speedAtGateEnd b with
      capWindward := (w.atGateEnd b).capWindward, capLeeward := (w.atGateEnd b).capLeeward
      capFlat := (w.atGateEnd b).capFlat, capTakeOver := (w.atGateEnd b).capTakeOver
      heldDir := (w.atGateEnd b).heldDir, dwell := (w.atGateEnd b).dwell
      gates := (w.atGateEnd b).gates } := by
  rw [atGateEnd_eq, dwellSecond_keeps]
  rfl

theorem atGateEnd_speed (w : Weather) (b : WeatherBlock) :
    (w.atGateEnd b).anemA = (w.speedAtGateEnd b).anemA ∧
    (w.atGateEnd b).anemB = (w.speedAtGateEnd b).anemB ∧
    (w.atGateEnd b).sample = (w.speedAtGateEnd b).sample ∧
    (w.atGateEnd b).speedClass = (w.speedAtGateEnd b).speedClass ∧
    (w.atGateEnd b).filtered = (w.speedAtGateEnd b).filtered ∧
    (w.atGateEnd b).takeOver = (w.speedAtGateEnd b).takeOver ∧
    (w.atGateEnd b).windState = (w.speedAtGateEnd b).windState := by
  rw [atGateEnd_keeps]
  exact ⟨rfl, rfl, rfl, rfl, rfl, rfl, rfl⟩

theorem speedClassOf_ordered (a b : Anemometer) (x : Option Nat) : (speedClassOf a b x).ordered = true ↔
    speedClassOf a b x = .valid ∨ speedClassOf a b x = .over := by
  have hu : speedClassOf a b x ≠ .under := by
    unfold speedClassOf
    split
    · split <;> simp
    · split <;> simp
    · split <;> simp
    · split
      · simp
      · split <;> simp
  generalize speedClassOf a b x = c at hu
  cases c <;> simp_all [ChannelClass.ordered]

/-- The combined sample and the class of the wind speed by the number of usable anemometers (R69,
R70). -/
def speedCombined (mode : CombineMode) (a b : Anemometer) (x : Option Nat) (c : ChannelClass) : Prop :=
  (∀ v v', a.usable = true → b.usable = true → a.value = some v → b.value = some v' →
    x = some (match mode with
      | .average => (v + v') / 2
      | .maximum => max v v') ∧
    c = if x = some 600 ∧ (a.cls = .over ∨ b.cls = .over) then .over else .valid) ∧
  (a.usable = true → ¬b.usable = true → x = a.value ∧ c = a.cls) ∧
  (¬a.usable = true → b.usable = true → x = b.value ∧ c = b.cls) ∧
  (¬a.usable = true → ¬b.usable = true →
    x = none ∧ c = if a.cls = .fault ∨ b.cls = .fault then .fault else .absent)

theorem speedCombined_atGateEnd (mode : CombineMode) (p q : Anemometer) (sp sq : AnemometerScale) :
    let a := p.atGateEnd sp
    let b := q.atGateEnd sq
    speedCombined mode a b (combinedSample mode a b)
      (speedClassOf a b (combinedSample mode a b)) := by
  intro a b
  have hav : a.usable = true → ∃ v, a.value = some v := Anemometer.atGateEnd_value
  have hbv : b.usable = true → ∃ v, b.value = some v := Anemometer.atGateEnd_value
  have has : a.cls ≠ .stale := Anemometer.atGateEnd_ne_stale p sp
  have hbs : b.cls ≠ .stale := Anemometer.atGateEnd_ne_stale q sq
  clear_value a b
  refine ⟨fun v v' ha hb hv hv' => ?_, fun ha hb => ?_, fun ha hb => ?_, fun ha hb => ?_⟩
  · have hx : combinedSample mode a b = some (match mode with
        | .average => (v + v') / 2
        | .maximum => max v v') := by
      simp only [combinedSample, ha, hb, hv, hv', Option.getD_some]
      cases mode <;> rfl
    exact ⟨hx, by simp only [speedClassOf, ha, hb]; rfl⟩
  · obtain ⟨v, hv⟩ := hav ha
    rw [Bool.not_eq_true] at hb
    refine ⟨by simp [combinedSample, ha, hb, hv], ?_⟩
    simp only [speedClassOf, ha, hb]
    exact over_or_valid ha
  · obtain ⟨v, hv⟩ := hbv hb
    rw [Bool.not_eq_true] at ha
    refine ⟨by simp [combinedSample, ha, hb, hv], ?_⟩
    simp only [speedClassOf, ha, hb]
    exact over_or_valid hb
  · rw [Bool.not_eq_true] at ha hb
    refine ⟨by simp [combinedSample, ha, hb], ?_⟩
    simp [speedClassOf, ha, hb, has, hbs]

/-! ### The vane (R73 to R75) -/

theorem vaneReading_next (h : s.store.weather.value.vanePresent = true) (r : Option Nat) :
    exec (.vaneReading r) s = .next (s.weatherEvent (s.weather.vaneReading s.store.weather.value r)) :=
  if_pos h

theorem vaneReading_of_valid (w : Weather) (b : WeatherBlock) {d : Nat} (h : d < 360) :
    w.vaneReading b (some d) = w.validReading b d := if_pos h

theorem vaneReading_of_fault (w : Weather) (b : WeatherBlock) {x : Option Nat}
    (h : x = none ∨ ∃ d, x = some d ∧ 360 ≤ d) :
    w.vaneReading b x = { w with vaneClass := .fault, vaneTimer := some 5000 } := by
  obtain rfl | ⟨d, rfl, hd⟩ := h
  · rfl
  · exact if_neg (Nat.not_lt.mpr hd)

/-- A valid reading is taken by D at once while D is absent, and otherwise starts or ends the dwell. -/
theorem validReading_direction (w : Weather) (b : WeatherBlock) (d : Nat) :
    (w.validReading b d).vaneClass = .valid ∧ (w.validReading b d).vaneValue = some d ∧
    (w.validReading b d).vaneTimer = some 5000 ∧
    (w.heldDir = none → (w.validReading b d).heldDir = some d) ∧
    ∀ old, w.heldDir = some old → (w.validReading b d).heldDir = some old ∧
      (w.validReading b d).dwell =
        if b.dirDeadband ≤ angularDistance d old then some (w.dwell.getD 0) else none := by
  unfold Weather.validReading
  dsimp only
  split
  · next hn => exact ⟨rfl, rfl, rfl, fun _ => rfl, fun old ho => by rw [hn] at ho; cases ho⟩
  · next x hx =>
    refine ⟨?_, ?_, ?_, fun hn => (by rw [hx] at hn; cases hn), fun old ho => ?_⟩
    · split <;> rfl
    · split <;> rfl
    · split <;> rfl
    · simp only [beyondDeadband, ho, decide_eq_true_eq]
      split
      · exact ⟨rfl, rfl⟩
      · exact ⟨rfl, rfl⟩

/-! ### Rain (R76) -/

theorem rainSample_next (h : s.store.weather.value.rainPresent = true) (a : Bool) :
    exec (.rainSample a) s = .next (s.weatherEvent (s.weather.rainSample s.store.weather.value a)) :=
  if_pos h

theorem rainSample_of_counting {w : Weather} (b : WeatherBlock) {k : Nat} (hw : w.wet = false)
    (hh : w.wetHold = some k) (hk : k < 19) :
    w.rainSample b true = { w with rainSampled := some true, wetHold := some (k + 1) } := by
  simp only [Weather.rainSample, hw, hh, Option.getD_some]
  rw [if_neg (by omega)]

theorem rainSample_of_dry {w : Weather} (b : WeatherBlock) (hw : w.wet = false) :
    w.rainSample b false = { w with rainSampled := some false, wetHold := some 0 } := by
  simp only [Weather.rainSample, hw]

theorem rainSample_of_twentieth {w : Weather} (b : WeatherBlock) (hw : w.wet = false)
    (hh : w.wetHold = some 19) : w.rainSample b true =
      { w with rainSampled := some true, wet := true, wetHold := none, dryHold := some 0 } := by
  simp only [Weather.rainSample, hw, hh, Option.getD_some]
  exact if_pos (by decide)

theorem rainSample_of_wet {w : Weather} (b : WeatherBlock) (hw : w.wet = true) :
    w.rainSample b true = { w with rainSampled := some true, dryHold := some 0 } := by
  simp only [Weather.rainSample, hw]

theorem rainSample_of_drying {w : Weather} {b : WeatherBlock} {k : Nat} (hw : w.wet = true)
    (hh : w.dryHold = some k) (hk : k + 1 < 10 * b.dryHold) :
    w.rainSample b false = { w with rainSampled := some false, dryHold := some (k + 1) } := by
  simp only [Weather.rainSample, hw, hh, Option.getD_some]
  rw [if_neg (by omega)]

theorem rainSample_of_dried {w : Weather} {b : WeatherBlock} {k : Nat} (hw : w.wet = true)
    (hh : w.dryHold = some k) (hk : k + 1 = 10 * b.dryHold) : w.rainSample b false =
      { w with rainSampled := some false, wet := false, wetHold := some 0, dryHold := none } := by
  simp only [Weather.rainSample, hw, hh, Option.getD_some]
  rw [if_pos (by omega)]

/-- The twentieth asserted sample in DRY, by either row. -/
theorem wetHold_next {c : Instr} (hr : s.store.weather.value.rainPresent = true)
    (hw : s.weather.wet = false) (hh : s.weather.wetHold = some 19)
    (hc : c = .rainSample true ∨ c = .wetHoldEnd) : exec c s =
      .next (s.weatherEvent (s.weather.rainSample s.store.weather.value true)) := by
  obtain rfl | rfl := hc
  · exact rainSample_next hr true
  · exact if_pos ⟨hr, hw, by rw [hh]; decide⟩

/-- The clear sample that ends the dry hold, by either row. -/
theorem dryHold_next {c : Instr} {k : Nat} (hr : s.store.weather.value.rainPresent = true)
    (hw : s.weather.wet = true) (hh : s.weather.dryHold = some k)
    (hk : k + 1 = 10 * s.store.weather.value.dryHold)
    (hc : c = .rainSample false ∨ c = .dryHoldEnd) : exec c s =
      .next (s.weatherEvent (s.weather.rainSample s.store.weather.value false)) := by
  obtain rfl | rfl := hc
  · exact rainSample_next hr false
  · exact if_pos ⟨hr, hw, by rw [hh, Option.getD_some]; omega⟩

/-- A change of the rain state is told to the resolver and reported. -/
theorem weatherEvent_rain {w : Weather} (h : s.weather.wet ≠ w.wet) :
    .rain ∈ (s.weatherEvent w).mail.weather ∧
      ∃ r ∈ (s.weatherEvent w).mail.reports, (.rain, w.wet) ∈ r.lives := by
  refine ⟨weatherEvent_told (mem_told_rain.mpr h), ?_⟩
  obtain ⟨r, hr, -, hl⟩ := weatherEvent_reported (s := s) (w := w) (c := .rain) (live := w.wet)
    (by simp [weatherLives, mem_changedLive, h])
  exact ⟨r, hr, hl⟩

/-! ### Temperature and supply (R77 to R79) -/

theorem probeReading_next (h : s.store.weather.value.probePresent = true) (r : Option Int) :
    exec (.probeReading r) s =
      .next (s.weatherEvent ((s.weather.probeReading r).evalTemp s.store.weather.value)) := if_pos h

theorem probeReading_of_some (w : Weather) (x : Int) : w.probeReading (some x) =
    { w with
      tempClass := if x < -80 then .under else if 160 < x then .over else .valid
      tempValue := some (max (-80) (min 160 x)), tempTimer := some 10000 } := by
  unfold Weather.probeReading
  dsimp only
  split
  · next h => rw [show max (-80) (min 160 x) = -80 by omega]
  · next h =>
    split
    · next h' => rw [show max (-80) (min 160 x) = 160 by omega]
    · next h' => rw [show max (-80) (min 160 x) = x by omega]

theorem evalTemp_of_ordered {w : Weather} (b : WeatherBlock) (h : w.tempClass.ordered = true) :
    w.evalTemp b = { w with tempState := monitorNext b.tempMonitor w.tempState w.tempValue } := by
  simp only [Weather.evalTemp, Weather.comparedTemp, h, if_true]

theorem evalTemp_of_unordered {w : Weather} (b : WeatherBlock) (h : w.tempClass.ordered = false) :
    w.evalTemp b = w := by
  simp only [Weather.evalTemp, Weather.comparedTemp, h]
  rfl

theorem supplySample_eq (w : Weather) (b : WeatherBlock) (v : Int) : w.supplySample b v =
    { w with
      supplyClass := if v < 0 then .under else if 400 < v then .over else .valid
      supplyValue := max 0 (min 400 v)
      supplyState := monitorNext b.supplyMonitor w.supplyState (some (max 0 (min 400 v))) } := by
  have hx : (if v < 0 then (0 : Int) else if 400 < v then 400 else v) = max 0 (min 400 v) := by omega
  simp only [Weather.supplySample, hx]

/-- An event that changes nothing another block reads is told to no one. -/
theorem weatherEvent_of_untold {w : Weather} (ht : s.weather.told w = [])
    (hl : weatherLives s (s.setWeather w) = []) (hs : s.weather.lowSupply = w.lowSupply)
    (hd : s.weather.heldDir = w.heldDir) : s.weatherEvent w = s.setWeather w := by
  have hreport : (s.setWeather w).reportWeather s = s.setWeather w := if_pos ⟨hl, rfl⟩
  have htell : (s.setWeather w).tellWeather [] = s.setWeather w := by
    simp only [State.tellWeather, List.append_nil]
    rfl
  unfold State.weatherEvent
  rw [ht, htell, hreport, takeSupply_of_eq hs, takeDirection_of_eq hd]

end Sys2Proof.Machine
namespace Sys2Proof.Proofs
open Sys2Proof.Machine

/-- Settles O31: each row writes the one field its rule names. -/
theorem anemometerPins : Obligations.AnemometerPins := by
  intro s
  refine ⟨⟨_, rfl, setWeather_frame _ _, ?_⟩, ⟨_, rfl, setWeather_frame _ _, ?_⟩, fun inBand =>
    ⟨⟨_, rfl, setWeather_frame _ _, rfl⟩, ⟨_, rfl, setWeather_frame _ _, rfl⟩⟩⟩
  · rw [State.setWeather_weather, pulse_eq]
  · rw [State.setWeather_weather, pulse_eq]

/-- Settles O34, by the number of usable anemometers. -/
theorem gateEndTakesSpeed : Obligations.GateEndTakesSpeed := by
  intro s
  refine ⟨_, rfl, ?_⟩
  intro block w usable
  have hw : w = s.weather.atGateEnd block := weatherEvent_weather s _
  obtain ⟨hA, hB, hx, hc, hf, ht, hwind⟩ := hw ▸ atGateEnd_speed s.weather block
  clear_value w block
  have husable : ∀ a : Anemometer, usable a ↔ a.usable = true := fun a => (usable_iff a).symm
  have hcomb := speedCombined_atGateEnd block.combine s.weather.anemA s.weather.anemB block.anemA
    block.anemB
  simp only [husable, hA, hB, hx, hc, hf, ht, hwind]
  obtain ⟨hboth, honlyA, honlyB, hnone⟩ := hcomb
  refine ⟨Anemometer.atGateEnd_taken _ _, Anemometer.atGateEnd_taken _ _, hboth, honlyA, honlyB, hnone,
    fun x hx => ?_, fun hx => ?_, ?_⟩
  · simp only [Weather.speedAtGateEnd] at hx ⊢
    simp [hx]
  · simp only [Weather.speedAtGateEnd] at hx ⊢
    simp [hx]
  · simp only [Weather.speedAtGateEnd, speedClassOf_ordered]

/-- Settles O37, by the reading and by whether D is absent. -/
theorem vaneReadings : Obligations.VaneReadings := by
  intro s hv
  refine ⟨fun d hd => ⟨_, vaneReading_next hv _, ?_⟩, fun x hx => ⟨_, vaneReading_next hv _, ?_⟩,
    fun ht => ⟨_, if_pos ht, ?_⟩, fun k d old hk hcls hval hold hband hdwell => ?_⟩
  · obtain ⟨hcls, hval, htimer, habsent, hheld⟩ :=
      validReading_direction s.weather s.store.weather.value d
    rw [weatherEvent_weather, vaneReading_of_valid _ _ hd]
    refine ⟨hcls, hval, htimer, ?_⟩
    split
    · next hn => exact habsent hn
    · next old ho => exact hheld old ho
  · rw [weatherEvent_weather, vaneReading_of_fault _ _ hx]
    exact ⟨rfl, rfl, rfl, rfl⟩
  · rw [weatherEvent_weather]
    exact ⟨rfl, rfl, rfl⟩
  · have hcounts : s.weather.dwellCounts s.store.weather.value = true := by
      simp only [Weather.dwellCounts, hcls, hval, beyondDeadband, hold, hband, decide_true]
    have hexec : exec .dwellReached s =
        .next (s.weatherEvent { s.weather with heldDir := s.weather.vaneValue, dwell := none }) := by
      change execDwellReached s = _
      unfold execDwellReached
      rw [hk]
      exact if_pos ⟨hcounts, hdwell⟩
    refine ⟨_, hexec, ?_⟩
    rw [weatherEvent_weather]
    exact ⟨hval, rfl⟩

/-- Settles O38, by the rain state and the sample. -/
theorem rainHolds : Obligations.RainHolds := by
  refine ⟨fun s a hr => if_neg (by simp [hr]), fun s hr => ⟨fun k hw hh hk => ?_, fun hw => ?_,
    fun c hc hw hh => ?_, fun hw => ?_, fun k hw hh hk => ?_, fun c k hc hw hh hk => ?_⟩⟩
  · refine ⟨_, rainSample_next hr _, ?_⟩
    rw [weatherEvent_weather, rainSample_of_counting _ hw hh hk]
    exact ⟨hw, rfl, rfl⟩
  · refine ⟨_, rainSample_next hr _, ?_⟩
    rw [weatherEvent_weather, rainSample_of_dry _ hw]
    exact ⟨hw, rfl⟩
  · refine ⟨_, wetHold_next hr hw hh hc, ?_⟩
    rw [weatherEvent_weather, rainSample_of_twentieth _ hw hh]
    exact ⟨rfl, weatherEvent_rain (by simp [hw])⟩
  · refine ⟨_, rainSample_next hr _, ?_⟩
    rw [weatherEvent_weather, rainSample_of_wet _ hw]
    exact ⟨hw, rfl, rfl⟩
  · refine ⟨_, rainSample_next hr _, ?_⟩
    rw [weatherEvent_weather, rainSample_of_drying hw hh hk]
    exact ⟨hw, rfl, rfl⟩
  · refine ⟨_, dryHold_next hr hw hh hk hc, ?_⟩
    rw [weatherEvent_weather, rainSample_of_dried hw hh hk]
    exact ⟨rfl, rfl, weatherEvent_rain (by simp [hw])⟩

/-- Settles O39; the tellings of the last clause are those of any weather event. -/
theorem probeAndSupply : Obligations.ProbeAndSupply := by
  intro s
  refine ⟨fun hp => ⟨fun x => ⟨_, probeReading_next hp _, ?_⟩, _, probeReading_next hp _, ?_⟩,
    fun ht => ⟨_, if_pos ht, ?_⟩, fun v => ⟨_, rfl, ?_⟩, fun c hc => ?_⟩
  · have hord : (s.weather.probeReading (some x)).tempClass.ordered = true := by
      rw [probeReading_of_some]
      dsimp only
      split
      · rfl
      · split <;> rfl
    rw [weatherEvent_weather, evalTemp_of_ordered _ hord, probeReading_of_some]
    exact ⟨rfl, rfl, rfl, rfl⟩
  · rw [weatherEvent_weather, evalTemp_of_unordered _ rfl]
    exact ⟨rfl, rfl, rfl⟩
  · rw [weatherEvent_weather, evalTemp_of_unordered _ rfl]
    exact ⟨rfl, rfl, rfl, rfl⟩
  · rw [weatherEvent_weather, supplySample_eq]
    refine ⟨rfl, rfl, rfl, fun hlow => ?_⟩
    rw [weatherEvent_of_untold ?_ ?_ hlow.symm rfl]
    · exact setWeather_frame _ _
    · simp [Weather.told, toldIf, Weather.storm, Weather.frost, Weather.cap]
    · change changedLive .weatherClose s.weatherClose s.weatherClose ++
        changedLive .rain s.weather.wet s.weather.wet ++
        changedLive .frost s.weather.frost s.weather.frost ++
        changedLive .storm s.weather.storm s.weather.storm ++ changedLive .lowSupply _ _ ++
        changedLive .sensorInvalid s.sensorInvalid s.sensorInvalid = []
      simp [changedLive, hlow]
  · refine limitsTold_of_eventOrNothing ?_
    obtain rfl | ⟨x, rfl⟩ | rfl | ⟨v, rfl⟩ := hc
    · exact .inr ⟨_, rfl⟩
    · exact eventOrNothing_ite _ _
    · exact eventOrNothing_ite _ _
    · exact .inr ⟨_, rfl⟩

end Sys2Proof.Proofs
end

section
/-! PROOFS. The wind caps and their reopen timers (R92 to R95) and the report of invalid sensors (R65,
R82). -/
namespace Sys2Proof.Machine
open Sys2Proof
variable {s t u : State}

/-! ### The held caps (R93 to R95) -/

theorem HeldCap.atGateEnd_computed (h : HeldCap) (c delay : Nat) : (h.atGateEnd c delay).computed = c := by
  unfold HeldCap.atGateEnd
  split
  · rfl
  · split
    · rfl
    · split
      · rfl
      · split <;> rfl

/-- H follows C down at once and up when the timer reaches the reopen delay. -/
theorem HeldCap.atGateEnd_follows (h : HeldCap) (c delay : Nat) :
    let new := h.atGateEnd c delay
    (c < h.held → new.held = c ∧ new.timer = none) ∧
    (c = h.held → new.held = h.held ∧ new.timer = none) ∧
    (h.held < c → h.timer = none → new.held = h.held ∧ new.timer = some 0) ∧
    ∀ k, h.held < c → h.timer = some k →
      if delay ≤ k + 1 then new.held = c ∧ new.timer = none
      else new.held = h.held ∧ new.timer = some (k + 1) := by
  unfold HeldCap.atGateEnd
  refine ⟨fun hlt => ?_, fun heq => ?_, fun hlt ht => ?_, fun k hlt ht => ?_⟩
  · rw [if_pos hlt]
    exact ⟨rfl, rfl⟩
  · rw [if_neg (by omega), if_pos heq]
    exact ⟨rfl, rfl⟩
  · rw [if_neg (by omega), if_neg (by omega), ht]
    exact ⟨rfl, rfl⟩
  · rw [if_neg (by omega : ¬ c < h.held), if_neg (by omega : ¬ c = h.held), ht]
    by_cases hd : delay ≤ k + 1
    · simp only [hd, if_true, and_self]
    · simp only [hd, if_false, and_self]

theorem HeldCap.atWrite_computed (h : HeldCap) (c : Nat) : (h.atWrite c).computed = c := by
  unfold HeldCap.atWrite
  split
  · rfl
  · split <;> rfl

theorem HeldCap.atWrite_follows (h : HeldCap) (c : Nat) :
    let new := h.atWrite c
    (c < h.held → new.held = c ∧ new.timer = none) ∧
    (c = h.held → new.held = h.held ∧ new.timer = none) ∧
    (h.held < c → new.held = h.held ∧ new.timer = some (h.timer.getD 0)) := by
  unfold HeldCap.atWrite
  refine ⟨fun hlt => ?_, fun heq => ?_, fun hlt => ?_⟩
  · rw [if_pos hlt]
    exact ⟨rfl, rfl⟩
  · rw [if_neg (by omega), if_pos heq]
    exact ⟨rfl, rfl⟩
  · rw [if_neg (by omega), if_neg (by omega)]
    exact ⟨rfl, rfl⟩

theorem capsAtGateEnd_cap (w : Weather) (b : WeatherBlock) (p : Profile) :
    (w.capsAtGateEnd b).cap p =
      if w.capTakeOver then (w.cap p).takenOver (computedCap (b.speeds p) w.speedClass w.filtered)
        w.speedClass.ordered
      else (w.cap p).atGateEnd (computedCap (b.speeds p) w.speedClass w.filtered) b.reopenDelay := by
  cases p <;> rfl

theorem capsAtWrite_cap (w : Weather) (b : WeatherBlock) (p : Profile) :
    (w.capsAtWrite b).cap p =
      if w.capTakeOver then
        { w.cap p with computed := computedCap (b.speeds p) w.speedClass w.filtered }
      else (w.cap p).atWrite (computedCap (b.speeds p) w.speedClass w.filtered) := by
  cases p <;> rfl

theorem atGateEnd_cap (w : Weather) (b : WeatherBlock) (p : Profile) :
    (w.atGateEnd b).cap p = ((w.speedAtGateEnd b).capsAtGateEnd b).cap p := by
  rw [atGateEnd_eq, dwellSecond_keeps]
  cases p <;> rfl

theorem atGateEnd_capTakeOver (w : Weather) (b : WeatherBlock) :
    (w.atGateEnd b).capTakeOver = (w.capTakeOver && !(w.atGateEnd b).speedClass.ordered) := by
  rw [atGateEnd_eq, dwellSecond_keeps]
  rfl

/-- The caps of a gate end: C afresh, and H by the take-over or by its timer (R92 to R94). -/
theorem atGateEnd_caps (w : Weather) (b : WeatherBlock) (p : Profile) :
    let w' := w.atGateEnd b
    let c := computedCap (b.speeds p) w'.speedClass w'.filtered
    (w'.cap p).computed = c ∧
    (w.capTakeOver = true → w'.cap p = (w.cap p).takenOver c w'.speedClass.ordered) ∧
    (w.capTakeOver = false → w'.cap p = (w.cap p).atGateEnd c b.reopenDelay) := by
  obtain ⟨-, -, -, hcls, hf, -, -⟩ := atGateEnd_speed w b
  intro w' c
  have hcap : w'.cap p = if w.capTakeOver then (w.cap p).takenOver c w'.speedClass.ordered
      else (w.cap p).atGateEnd c b.reopenDelay := by
    simp only [c, w', hcls, hf]
    rw [atGateEnd_cap, capsAtGateEnd_cap]
    cases p <;> rfl
  rw [hcap]
  refine ⟨?_, fun h => if_pos h, fun h => if_neg (by simp [h])⟩
  split
  · unfold HeldCap.takenOver
    split <;> rfl
  · exact HeldCap.atGateEnd_computed _ _ _

/-! ### A write of the weather block -/

/-- A write changes the class of a channel that it fits or takes away, and what hangs on that class. -/
theorem channelsAfterWrite_keeps (w : Weather) (old new : WeatherBlock) :
    w.channelsAfterWrite old new =
      { w with
        anemA := (w.channelsAfterWrite old new).anemA, anemB := (w.channelsAfterWrite old new).anemB
        speedClass := (w.channelsAfterWrite old new).speedClass
        takeOver := (w.channelsAfterWrite old new).takeOver
        capTakeOver := (w.channelsAfterWrite old new).capTakeOver
        vaneClass := (w.channelsAfterWrite old new).vaneClass
        vaneTimer := (w.channelsAfterWrite old new).vaneTimer
        heldDir := (w.channelsAfterWrite old new).heldDir
        dwell := (w.channelsAfterWrite old new).dwell, wet := (w.channelsAfterWrite old new).wet
        wetHold := (w.channelsAfterWrite old new).wetHold
        dryHold := (w.channelsAfterWrite old new).dryHold
        tempClass := (w.channelsAfterWrite old new).tempClass
        tempTimer := (w.channelsAfterWrite old new).tempTimer } := by
  unfold Weather.channelsAfterWrite
  extract_lets a b first fitted w1 w2 w3 w4
  have h2 : w2 = { w1 with
      vaneClass := w2.vaneClass, vaneTimer := w2.vaneTimer, heldDir := w2.heldDir
      dwell := w2.dwell } := by
    simp only [w2]
    split <;> rfl
  have h3 : w3 = { w2 with dwell := w3.dwell } := by
    simp only [w3]
    split <;> rfl
  have h4 : w4 = { w3 with wet := w4.wet, wetHold := w4.wetHold, dryHold := w4.dryHold } := by
    simp only [w4]
    split <;> rfl
  have h : w4 = { w1 with
      vaneClass := w4.vaneClass, vaneTimer := w4.vaneTimer, heldDir := w4.heldDir
      dwell := w4.dwell, wet := w4.wet, wetHold := w4.wetHold, dryHold := w4.dryHold } := by
    rw [h4, h3, h2]
  clear_value w4
  rw [h]
  split <;> rfl

theorem channelsAfterWrite_cap (w : Weather) (old new : WeatherBlock) (p : Profile) :
    (w.channelsAfterWrite old new).cap p = w.cap p := by
  rw [channelsAfterWrite_keeps]
  cases p <;> rfl

/-- The unit after its channels and monitors have taken a new weather block, before the caps. -/
def Weather.monitorsAfterWrite (w : Weather) (old new : WeatherBlock) : Weather :=
  let w1 := w.channelsAfterWrite old new
  { w1 with
    windState := monitorAfterWrite new.windMonitor w1.windState
      (w.speedClass != .absent && w1.speedClass == .absent) w1.speedValue
    tempState := monitorAfterWrite new.tempMonitor w1.tempState
      (w.tempClass != .absent && w1.tempClass == .absent) w1.comparedTemp
    supplyState := monitorAfterWrite new.supplyMonitor w1.supplyState false (some w1.supplyValue) }

theorem applyBlock_of_ne (w : Weather) {old new : WeatherBlock} (h : old ≠ new) :
    w.applyBlock old new = (w.monitorsAfterWrite old new).capsAtWrite new := if_neg h

theorem monitorsAfterWrite_cap (w : Weather) (old new : WeatherBlock) (p : Profile) :
    (w.monitorsAfterWrite old new).cap p = w.cap p := by
  rw [← channelsAfterWrite_cap w old new p]
  cases p <;> rfl

theorem completeWrite_of_weather {w : EntryWrite} {v : WeatherBlock} (hw : w.entry = .weather v)
    (left : Nat) : s.completeWrite w left =
      ((s.setStore (s.store.commit (.weather v))).weatherWritten s s.store.weather.value v).writeAnswered
        s w .accepted := by
  unfold State.completeWrite
  rw [hw]
  exact if_neg (by simp [State.entryInUse])

theorem weatherWritten_weatherTold (s before : State) (old new : WeatherBlock) :
    (s.weatherWritten before old new).mail.weather =
      s.mail.weather ++ s.weather.told (s.weather.applyBlock old new) := by
  unfold State.weatherWritten
  rw [recompute_weatherTold, takeSupply_weatherTold, reportWeather_mail]
  rfl

theorem completeWrite_told {w : EntryWrite} {v : WeatherBlock} (hw : w.entry = .weather v) {left : Nat}
    {x : WeatherTold} (h : x ∈ s.weather.told (s.completeWrite w left).weather) :
    x ∈ (s.completeWrite w left).mail.weather := by
  rw [completeWrite_of_weather hw] at h ⊢
  change x ∈ s.weather.told (State.weatherWritten _ _ _ _).weather at h
  change x ∈ (State.weatherWritten _ _ _ _).mail.weather
  rw [weatherWritten_weather] at h
  rw [weatherWritten_weatherTold]
  exact List.mem_append_right _ h

theorem completeWrite_of_weather_weather {w : EntryWrite} {v : WeatherBlock} (hw : w.entry = .weather v)
    (left : Nat) :
    (s.completeWrite w left).weather = s.weather.applyBlock s.store.weather.value v := by
  rw [completeWrite_of_weather hw]
  exact weatherWritten_weather _ _ _ _

theorem writeComplete_next {w : EntryWrite} (h : s.store.writing = some w) (left : Nat) :
    exec (.writeComplete left) s = .next (s.completeWrite w left) := by
  change execWriteComplete s left = _
  unfold execWriteComplete
  rw [h]

/-! ### The reopen timer -/

theorem setCap_cap (w : Weather) (p q : Profile) (c : HeldCap) :
    (w.setCap p c).cap q = if q = p then c else w.cap q := by
  cases p <;> cases q <;> rfl

theorem setCap_filtered (w : Weather) (p : Profile) (c : HeldCap) :
    (w.setCap p c).filtered = w.filtered := by
  cases p <;> rfl

theorem reopenTimerExpiry_next {p : Profile} {k : Nat} (hto : s.weather.capTakeOver = false)
    (ht : (s.weather.cap p).timer = some k) (hd : s.store.weather.value.reopenDelay ≤ k + 1)
    (hlt : (s.weather.cap p).held < (s.weather.cap p).computed) : exec (.reopenTimerExpiry p) s =
      .next (s.weatherEvent (s.weather.setCap p
        { computed := (s.weather.cap p).computed, held := (s.weather.cap p).computed, timer := none })) := by
  have hdue : s.weather.reopenDue s.store.weather.value p = true := by
    simp [Weather.reopenDue, ht, hto, hd, hlt]
  exact if_pos hdue

/-! ### SENSOR_INVALID (R65, R82) -/

theorem ordered_eq_false_iff (c : ChannelClass) :
    c.ordered = false ↔ c = .stale ∨ c = .fault ∨ c = .absent := by
  cases c <;> simp [ChannelClass.ordered]

theorem sensorInvalid_iff (s : State) :
    s.sensorInvalid = true ↔ 10 ≤ s.weather.gates ∧ channelUnordered s := by
  simp only [State.sensorInvalid, channelUnordered, Bool.and_eq_true, Bool.or_eq_true,
    decide_eq_true_eq, Bool.not_eq_true', ordered_eq_false_iff, or_assoc]
  rfl

/-- From `s` to `t` a change of SENSOR_INVALID was reported, and where it did not change nothing was
reported of it. -/
def sensorsReported (s t : State) : Prop :=
  (s.sensorInvalid ≠ t.sensorInvalid → weatherReported t .sensorInvalid t.sensorInvalid) ∧
  (s.sensorInvalid = t.sensorInvalid → AddsReports Report.sparesSensors s t)

theorem sensorsReported_self (s : State) : sensorsReported s s := ⟨fun h => absurd rfl h, fun _ => .refl s⟩

theorem sensorInvalid_congr (hs : t.store.weather = s.store.weather) (hw : t.weather = s.weather) :
    t.sensorInvalid = s.sensorInvalid := by
  rw [State.sensorInvalid, hs, hw]
  rfl

theorem sensorsReported_weatherEvent (s : State) (w : Weather) : sensorsReported s (s.weatherEvent w) := by
  have hstore : (s.weatherEvent w).store = s.store := weatherEvent_frame s w .store (by simp)
  have hinv : (s.weatherEvent w).sensorInvalid = (s.setWeather w).sensorInvalid :=
    sensorInvalid_congr (by rw [hstore]; rfl) (weatherEvent_weather s w)
  rw [sensorsReported, hinv]
  refine ⟨fun h => weatherEvent_reported ?_, weatherEvent_addsReports⟩
  simp [weatherLives, mem_changedLive, h]

/-- The last clause of the report, in the words of R82. -/
theorem sensorsReported.told (h : sensorsReported s t) :
    let before := 10 ≤ s.weather.gates ∧ channelUnordered s
    let after := 10 ≤ t.weather.gates ∧ channelUnordered t
    (¬before → after → weatherReported t .sensorInvalid true) ∧
    (before → ¬after → weatherReported t .sensorInvalid false) ∧
    ((before ↔ after) →
      ∀ r ∈ t.mail.reports, (∃ live, (.sensorInvalid, live) ∈ r.lives) → r ∈ s.mail.reports) := by
  intro before after
  have hb : s.sensorInvalid = true ↔ before := sensorInvalid_iff s
  have ha : t.sensorInvalid = true ↔ after := sensorInvalid_iff t
  obtain ⟨hchanged, hkept⟩ := h
  refine ⟨fun hnb hat => ?_, fun hbt hna => ?_, fun hiff r hr hl => ?_⟩
  · rw [ha.mpr hat] at hchanged
    exact hchanged fun h => hnb (hb.mp h)
  · have hf : t.sensorInvalid = false := Bool.eq_false_iff.mpr fun h => hna (ha.mp h)
    rw [hf, hb.mpr hbt] at hchanged
    exact hchanged (by decide)
  · have heq : s.sensorInvalid = t.sensorInvalid := Bool.eq_iff_iff.mpr (hb.trans (hiff.trans ha.symm))
    exact (hkept heq).old hr fun hspares => hl.elim hspares

theorem sensorsReported_of_eventOrNothing {c : Instr} (h : eventOrNothing s (exec c s)) :
    ∃ t, exec c s = .next t ∧ sensorsReported s t := by
  obtain h | ⟨w, h⟩ := h
  · exact ⟨s, h, sensorsReported_self s⟩
  · exact ⟨_, h, sensorsReported_weatherEvent s w⟩

/-- A write of any entry but the weather block leaves the weather unit. -/
theorem writeTold_weather_of_other (s before : State) (left : Nat) {v : EntryValue}
    (hv : ∀ b, v ≠ .weather b) : (s.writeTold before left v).weather = s.weather := by
  have of_frame : ∀ {bs : List Block} {u : State}, sameOutside bs s u → Block.weather ∉ bs →
      u.weather = s.weather := fun h hb => h .weather hb
  cases v with
  | opening n v => exact of_frame (openingWritten_frame s n _ v) (by simp)
  | group g l => exact of_frame (sameOutside.foldl _ cancelStation_frame _ s) (by simp)
  | zone z v => exact of_frame (zoneWritten_frame s z v left) (by simp)
  | scenario z l => rfl
  | station n v => exact of_frame (cancelStation_frame s n) (by simp)
  | supervisor m v => rfl
  | weather b => exact absurd rfl (hv b)
  | movement v => exact of_frame (endMoveEvent_frame s s) (by simp)

theorem writeTold_store (s before : State) (left : Nat) (v : EntryValue) :
    (s.writeTold before left v).store = s.store := writeTold_frame s before left v .store (by simp)

theorem commit_weather_of_other (st : Store) {v : EntryValue} (hv : ∀ b, v ≠ .weather b) :
    (st.commit v).weather = st.weather := by
  cases v with
  | weather b => exact absurd rfl (hv b)
  | _ => rfl

theorem writeAnswered_addsReports {P : Report → Prop} (s before : State) (w : EntryWrite) (st : Status) :
    AddsReports P s (s.writeAnswered before w st) := .of_mail rfl

theorem setStore_addsReports {P : Report → Prop} (s : State) (st : Store) :
    AddsReports P s (s.setStore st) := .of_mail rfl

theorem completeWrite_sensorInvalid {w : EntryWrite} (hw : ∀ b, w.entry ≠ .weather b) (left : Nat) :
    (s.completeWrite w left).sensorInvalid = s.sensorInvalid := by
  unfold State.completeWrite
  split
  · rfl
  · refine sensorInvalid_congr ?_ (writeTold_weather_of_other _ s left hw)
    change (State.writeTold _ s left w.entry).store.weather = _
    rw [writeTold_store]
    exact commit_weather_of_other _ hw

/-- The weather block's write: the unit reports on the block it now has. -/
theorem sensorsReported_weatherWritten (s : State) (v : WeatherBlock) :
    let s1 := s.setStore (s.store.commit (.weather v))
    sensorsReported s (s1.weatherWritten s s.store.weather.value v) := by
  intro s1
  set w := s1.weather.applyBlock s.store.weather.value v with hwdef
  set told := (s1.setWeather w).tellWeather (s1.weather.told w) with htold
  have hafter : AddsReports Report.sparesSensors (told.reportWeather s)
      (s1.weatherWritten s s.store.weather.value v) :=
    (AddsReports.takeSupply (names_sparesSensors _) _ _).trans (.recompute weatherClose_sparesSensors _ _)
  have hinv : (s1.weatherWritten s s.store.weather.value v).sensorInvalid = told.sensorInvalid := by
    have hstore : (s1.weatherWritten s s.store.weather.value v).store = s1.store :=
      weatherWritten_frame s1 s _ _ .store (by simp)
    exact sensorInvalid_congr (by rw [hstore]; rfl) (weatherWritten_weather _ _ _ _)
  rw [sensorsReported, hinv]
  refine ⟨fun h => hafter.weatherReported (reportWeather_reported ?_), fun h => ?_⟩
  · simp [weatherLives, mem_changedLive, h]
  · have hstart : AddsReports Report.sparesSensors s told := .of_eq rfl
    exact (hstart.trans (reportWeather_addsReports h)).trans hafter

theorem sensorsReported_completeWrite (s : State) (w : EntryWrite) (left : Nat) :
    sensorsReported s (s.completeWrite w left) := by
  by_cases hv : ∃ b, w.entry = .weather b
  · obtain ⟨b, hb⟩ := hv
    rw [completeWrite_of_weather hb]
    exact sensorsReported_weatherWritten s b
  · have hne : ∀ b, w.entry ≠ .weather b := fun b h => hv ⟨b, h⟩
    have hadds : AddsReports Report.sparesSensors s (s.completeWrite w left) := by
      unfold State.completeWrite
      split
      · exact (setStore_addsReports _ _).trans (writeAnswered_addsReports _ _ _ _)
      · exact ((setStore_addsReports _ _).trans (writeTold_addsReports _ s left hne)).trans
          (writeAnswered_addsReports _ _ _ _)
    exact ⟨fun h => absurd (completeWrite_sensorInvalid hne left).symm h, fun _ => hadds⟩

end Sys2Proof.Machine
namespace Sys2Proof.Proofs
open Sys2Proof.Machine

/-- Settles O35: the caps of the gate end and of the write are those of the held cap's two rules. -/
theorem heldCapsFollow : Obligations.HeldCapsFollow := by
  refine ⟨fun s p => ⟨_, rfl, ?_⟩, fun s w v left p hwr hent hne =>
    ⟨_, writeComplete_next hwr left, ?_⟩⟩
  · have hw := weatherEvent_weather s (s.weather.atGateEnd s.store.weather.value)
    obtain ⟨hc, htaken, hheld⟩ := atGateEnd_caps s.weather s.store.weather.value p
    have hover := atGateEnd_capTakeOver s.weather s.store.weather.value
    rw [← hw] at hc htaken hheld hover
    refine ⟨hc, fun h => weatherEvent_told (mem_told_heldCap.mpr ?_), fun hto => ⟨fun hord => ?_,
      fun hord => ?_⟩, fun hto => ?_⟩
    · rw [hw] at h
      exact h.symm
    · rw [htaken hto, hover, hto, hord]
      exact ⟨rfl, rfl, rfl⟩
    · rw [hc, htaken hto, hover, hto, hord]
      exact ⟨rfl, rfl, rfl⟩
    · rw [hc, hheld hto, hover, hto]
      exact ⟨rfl, HeldCap.atGateEnd_follows _ _ _⟩
  · have hw : (s.completeWrite w left).weather = _ := completeWrite_of_weather_weather hent left
    rw [applyBlock_of_ne _ hne.symm] at hw
    have hcap := capsAtWrite_cap (s.weather.monitorsAfterWrite s.store.weather.value v) v p
    rw [← hw, monitorsAfterWrite_cap] at hcap
    have htold := fun h => completeWrite_told (s := s) hent (left := left)
      (mem_told_heldCap (p := p).mpr h)
    have hover : (s.completeWrite w left).weather.capTakeOver =
      (s.weather.monitorsAfterWrite s.store.weather.value v).capTakeOver := by rw [hw]; rfl
    have htable : computedCap (v.speeds p) (s.completeWrite w left).weather.speedClass
        (s.completeWrite w left).weather.filtered =
      computedCap (v.speeds p) (s.weather.monitorsAfterWrite s.store.weather.value v).speedClass
        (s.weather.monitorsAfterWrite s.store.weather.value v).filtered := by rw [hw]; rfl
    rw [← htable, ← hover] at hcap
    have hc : ((s.completeWrite w left).weather.cap p).computed =
        computedCap (v.speeds p) (s.completeWrite w left).weather.speedClass
          (s.completeWrite w left).weather.filtered := by
      rw [hcap]
      split
      · rfl
      · exact HeldCap.atWrite_computed _ _
    refine ⟨hc, fun h => htold h.symm, fun hto => ?_, fun hto => ?_⟩
    · rw [hcap, if_pos hto]
      exact ⟨rfl, rfl⟩
    · rw [hc, hcap, if_neg (by simp [hto])]
      exact HeldCap.atWrite_follows _ _

/-- Settles O36, by whether the event changes SENSOR_INVALID. -/
theorem reopenAndSensorReport : Obligations.ReopenAndSensorReport := by
  refine ⟨fun s p k hto ht hd hlt => ⟨_, reopenTimerExpiry_next hto ht hd hlt, ?_⟩, fun s hg => ?_,
    fun s hg => if_neg fun h => hg (Nat.succ.inj h), fun c s hc => ?_⟩
  · rw [weatherEvent_weather]
    refine ⟨?_, ?_, ?_, fun q hq => ?_, setCap_filtered _ _ _,
      weatherEvent_told (mem_told_heldCap.mpr ?_)⟩
    · rw [setCap_cap, if_pos rfl]
    · rw [setCap_cap, if_pos rfl]
    · rw [setCap_cap, if_pos rfl]
    · rw [setCap_cap, if_neg hq]
    · rw [setCap_cap, if_pos rfl]
      exact Nat.ne_of_lt hlt
  · have hfalse : s.sensorInvalid = false :=
      Bool.eq_false_iff.mpr fun h => by have := ((sensorInvalid_iff s).mp h).1; omega
    refine ⟨_, if_pos (by rw [hg]; rfl), weatherEvent_frame_of_quiet rfl rfl, weatherEvent_weather _ _,
      fun hun => ?_, fun hun => ?_⟩
    · refine weatherEvent_reported ?_
      have htrue : (s.setWeather { s.weather with gates := Config.sensorReportGate }).sensorInvalid =
          true := (sensorInvalid_iff _).mpr ⟨Nat.le_refl 10, hun⟩
      simp [weatherLives, mem_changedLive, hfalse, htrue]
    · have hkept : (s.setWeather { s.weather with gates := Config.sensorReportGate }).sensorInvalid =
          false := Bool.eq_false_iff.mpr fun h => hun ((sensorInvalid_iff _).mp h).2
      refine (congrArg State.mail <| weatherEvent_of_untold (s := s)
        (w := { s.weather with gates := Config.sensorReportGate }) ?_ ?_ rfl rfl).trans rfl
      · simp [Weather.told, toldIf, Weather.storm, Weather.frost, Weather.cap, hg]
      · have hclose : (s.setWeather { s.weather with gates := Config.sensorReportGate }).weatherClose =
            s.weatherClose := by
          simp only [State.weatherClose, State.setWeather_weather, hg]
          rfl
        simp [weatherLives, changedLive, hfalse, hkept, hclose, Weather.storm, Weather.frost,
          Weather.lowSupply]
  · suffices h : ∃ t, exec c s = .next t ∧ sensorsReported s t from
      h.imp fun t ht => ⟨ht.1, ht.2.told⟩
    obtain rfl | rfl | ⟨x, rfl⟩ | rfl | ⟨x, rfl⟩ | rfl | ⟨left, rfl⟩ := hc
    · exact sensorsReported_of_eventOrNothing (eventOrNothing_ite _ _)
    · exact ⟨_, rfl, sensorsReported_weatherEvent _ _⟩
    · exact sensorsReported_of_eventOrNothing (eventOrNothing_ite _ _)
    · exact sensorsReported_of_eventOrNothing (eventOrNothing_ite _ _)
    · exact sensorsReported_of_eventOrNothing (eventOrNothing_ite _ _)
    · exact sensorsReported_of_eventOrNothing (eventOrNothing_ite _ _)
    · cases hw : s.store.writing with
      | none =>
        refine ⟨s, ?_, sensorsReported_self s⟩
        change execWriteComplete s left = _
        unfold execWriteComplete
        rw [hw]
      | some w => exact ⟨_, writeComplete_next hw left, sensorsReported_completeWrite s w left⟩

end Sys2Proof.Proofs
end

section
/-! PROOFS. The panel inputs (R114, R116, R122), the debounce of a zone line (R105, R107), and the turns
of the drive bus (R155, R156). -/
namespace Sys2Proof.Machine
open Sys2Proof
variable {s t u : State}

/-! ### Zones -/

theorem zone_setZone_self {z : Nat} {r : Zone} (h : s.zone z = some r) (r' : Zone) :
    (s.setZone z r').zone z = some r' := by
  have hset : (s.setZone z r').zone z = (s.zone z).map fun _ => r' := by
    change nth (setNth s.fire.zones z r') z = _
    rw [nth_setNth, if_pos rfl]
    rfl
  rw [hset, h]
  rfl

theorem zone_setZone_ne {z k : Nat} (h : k ≠ z) (r : Zone) : (s.setZone z r).zone k = s.zone k := by
  change nth (setNth s.fire.zones z r) k = _
  rw [nth_setNth, if_neg h]
  rfl

theorem zone_of_frame {bs : List Block} (h : sameOutside bs s t) (hb : Block.fire ∉ bs) (z : Nat) :
    t.zone z = s.zone z := congrArg (fun f : FireUnit => nth f.zones z) (h .fire hb)

/-- Evaluating lamps leaves everything of a zone but its lamps. -/
theorem evalLamps_zone {z : Nat} {r : Zone} (h : s.zone z = some r) (k : Nat) :
    ∃ a b, (s.evalLamps k).zone z = some { r with alarmLamp := a, statusLamp := b } := by
  unfold State.evalLamps
  split
  · next r' hr' =>
    split
    · by_cases hk : z = k
      · subst hk
        rw [h] at hr'
        cases hr'
        exact ⟨_, _, zone_setZone_self h _⟩
      · exact ⟨_, _, (zone_setZone_ne hk _).trans h⟩
    · exact ⟨_, _, h⟩
  · exact ⟨_, _, h⟩

/-- The lamps of a zone that has accepted a class show its state. -/
theorem evalLampsOf_self {z : Nat} {r : Zone} {c : LineClass} (h : s.zone z = some r)
    (ha : r.accepted = some c) : (s.evalLampsOf [z]).zone z =
      some { r with alarmLamp := alarmPattern r.state, statusLamp := s.statusPattern z r } := by
  simp only [State.evalLampsOf, List.foldl_cons, List.foldl_nil]
  unfold State.evalLamps
  rw [h]
  dsimp only
  rw [ha]
  exact zone_setZone_self h _

theorem endFireEvent_zone (s before : State) (zs : List Nat) (z : Nat) :
    (s.endFireEvent before zs).zone z = (s.evalLampsOf zs).zone z :=
  zone_of_frame (report_frame _ _ _ _) (by simp) z

theorem takeSteps_zone (s : State) (z left k : Nat) : (s.takeSteps z left).zone k = s.zone k :=
  zone_of_frame (takeSteps_frame s z left) (by simp) k

theorem placeScenario_zone (s : State) (z left k : Nat) : (s.placeScenario z left).zone k = s.zone k :=
  zone_of_frame (placeScenario_frame s z left) (by simp) k

theorem zoneTransition_zone {z : Nat} {r : Zone} (h : s.zone z = some r) (c : LineClass) (left : Nat) :
    (s.zoneTransition z c left).zone z = some (r.afterAcceptance c) := by
  unfold State.zoneTransition
  rw [h]
  dsimp only
  split
  · rw [placeScenario_zone, zone_setZone_self h]
  · exact zone_setZone_self h _

/-- An acceptance moves the state and the line-fault flag, and nothing else of the zone. -/
theorem afterAcceptance_keeps (r : Zone) (c : LineClass) : r.afterAcceptance c =
    { r with state := (r.afterAcceptance c).state, lineFault := (r.afterAcceptance c).lineFault } := by
  unfold Zone.afterAcceptance
  split
  · split <;> rfl
  · split <;> rfl
  · split <;> rfl
  · split <;> rfl
  · rfl

/-- The zone an acceptance leaves: moved, its debounce over, its lamps evaluated. -/
theorem acceptLine_zone {z : Nat} {r : Zone} (h : s.zone z = some r) (c : LineClass) (left : Nat) :
    ∃ a b, (s.acceptLine z c left).zone z = some
      { Zone.afterAcceptance { r with accepted := some c, candidate := none, agreement := 0 } c with
        alarmLamp := a, statusLamp := b } := by
  unfold State.acceptLine
  rw [h]
  dsimp only
  rw [endFireEvent_zone, evalLampsOf_self (zoneTransition_zone (zone_setZone_self h _) c left)
    (c := c) (by rw [afterAcceptance_keeps])]
  exact ⟨_, _, rfl⟩

section
variable {z : Nat} {r : Zone} (h : s.zone z = some r) (count : BitVec 10)
include h

theorem sampleLine_of_accepted (ha : r.accepted = some (sampleClass r.accepted count.toNat)) :
    s.sampleLine z count =
      s.setZone z { r with count := count, candidate := none, agreement := 0 } := by
  unfold State.sampleLine
  rw [h]
  exact if_pos ha

theorem sampleLine_of_other (ha : r.accepted ≠ some (sampleClass r.accepted count.toNat))
    (hc : r.candidate ≠ some (sampleClass r.accepted count.toNat)) : s.sampleLine z count =
      s.setZone z { r with
        count := count, candidate := some (sampleClass r.accepted count.toNat), agreement := 1 } := by
  unfold State.sampleLine
  rw [h]
  exact (if_neg ha).trans (if_neg hc)

theorem sampleLine_of_agreeing (ha : r.accepted ≠ some (sampleClass r.accepted count.toNat))
    (hc : r.candidate = some (sampleClass r.accepted count.toNat)) (hk : r.agreement < 2) :
    s.sampleLine z count = s.setZone z { r with count := count, agreement := r.agreement + 1 } := by
  unfold State.sampleLine
  rw [h]
  exact (if_neg ha).trans ((if_pos hc).trans (if_neg (by omega)))

theorem sampleLine_of_third (ha : r.accepted ≠ some (sampleClass r.accepted count.toNat))
    (hc : r.candidate = some (sampleClass r.accepted count.toNat)) (hk : ¬r.agreement < 2) :
    s.sampleLine z count = (s.setZone z { r with count := count }).acceptLine z
      (sampleClass r.accepted count.toNat) 0 := by
  unfold State.sampleLine
  rw [h]
  exact (if_neg ha).trans ((if_pos hc).trans (if_pos (by omega)))

end

/-! ### The rotation of the bus (R156) -/

theorem enabledOpenings_sorted (st : Store) : st.enabledOpenings.Pairwise (· < ·) :=
  (List.pairwise_lt_range' (step := 1)).filter _

theorem mem_enabledOpenings_iff {st : Store} {n : Nat} : n ∈ st.enabledOpenings ↔ st.enabled n = true := by
  refine ⟨fun h => ?_, mem_enabledOpenings⟩
  obtain ⟨hn, he⟩ := List.mem_filter.mp h
  rw [Store.enabled, Bool.and_eq_true, isOpening_iff]
  exact ⟨(mem_openingNumbers n).mp hn, he⟩

/-- In an ascending list the first number above `n` is the least above `n`. -/
theorem find?_sorted_le {l : List Nat} (hl : l.Pairwise (· < ·)) {n a : Nat}
    (h : l.find? (fun k => n < k) = some a) {k : Nat} (hk : k ∈ l) (hnk : n < k) : a ≤ k := by
  obtain ⟨-, as, bs, rfl, has⟩ := List.find?_eq_some_iff_append.mp h
  obtain hk | hk := List.mem_append.mp hk
  · exact absurd hnk (by simpa using has k hk)
  · obtain rfl | hk := List.mem_cons.mp hk
    · exact Nat.le_refl _
    · exact Nat.le_of_lt ((List.pairwise_cons.mp (List.pairwise_append.mp hl).2.1).1 k hk)

theorem head?_sorted_le {l : List Nat} (hl : l.Pairwise (· < ·)) {k : Nat} (hk : k ∈ l) :
    l.head?.getD 0 ∈ l ∧ l.head?.getD 0 ≤ k := by
  cases l with
  | nil => cases hk
  | cons a l =>
    refine ⟨List.mem_cons_self, ?_⟩
    obtain rfl | hk := List.mem_cons.mp hk
    · exact Nat.le_refl _
    · exact Nat.le_of_lt ((List.pairwise_cons.mp hl).1 k hk)

/-- The rotation moves on to the next enabled opening above `n`, or to the lowest. -/
theorem nextEnabled_moves_on {st : Store} (hne : st.enabledOpenings ≠ []) (n : Nat) :
    st.enabled (st.nextEnabled n) = true ∧
    (∀ k, st.enabled k = true → n < k → n < st.nextEnabled n ∧ st.nextEnabled n ≤ k) ∧
    ((∀ k, st.enabled k = true → k ≤ n) → ∀ k, st.enabled k = true → st.nextEnabled n ≤ k) := by
  have hsorted := enabledOpenings_sorted st
  unfold Store.nextEnabled
  split
  · next a ha =>
    have hmem := mem_enabledOpenings_iff.mp (List.mem_of_find?_eq_some ha)
    have hlt : n < a := by simpa using List.find?_some ha
    exact ⟨hmem, fun k hk hnk => ⟨hlt, find?_sorted_le hsorted ha (mem_enabledOpenings hk) hnk⟩,
      fun hall => absurd (hall a hmem) (by omega)⟩
  · next hnone =>
    obtain ⟨k0, hk0⟩ := List.exists_mem_of_ne_nil _ hne
    refine ⟨mem_enabledOpenings_iff.mp (head?_sorted_le hsorted hk0).1, fun k hk hnk => ?_,
      fun _ k hk => (head?_sorted_le hsorted (mem_enabledOpenings hk)).2⟩
    exact absurd hnk (by simpa using List.find?_eq_none.mp hnone k (mem_enabledOpenings hk))

/-! ### Transactions leave the turn as it is -/

/-- From `s` to `t` the rotation and the last turn stand. -/
def sameTurn (s t : State) : Prop :=
  t.bus.rotation = s.bus.rotation ∧ t.bus.lastTurn = s.bus.lastTurn

theorem sameTurn.trans (h : sameTurn s t) (h' : sameTurn t u) : sameTurn s u :=
  ⟨h'.1.trans h.1, h'.2.trans h.2⟩

theorem sameTurn_of_bus (h : t.bus = s.bus) : sameTurn s t := by rw [sameTurn, h]; exact ⟨rfl, rfl⟩

theorem endBusEvent_bus (s before : State) : (s.endBusEvent before).bus = s.bus :=
  endBusEvent_frame s before .bus (by simp)

theorem withdrawOrder_sameTurn (s : State) (n : Nat) (e : OrderEnd) :
    sameTurn s (s.withdrawOrder n e) := by
  unfold State.withdrawOrder
  split <;> exact ⟨rfl, rfl⟩

theorem takeReply_sameTurn (s : State) (n : Nat) (r : DriveReply) : sameTurn s (s.takeReply n r) := by
  unfold State.takeReply
  split
  · dsimp only
    split
    · exact sameTurn.trans ⟨rfl, rfl⟩ (withdrawOrder_sameTurn _ _ _)
    · exact ⟨rfl, rfl⟩
  · exact ⟨rfl, rfl⟩

theorem countFailure_sameTurn (s : State) (n : Nat) (o : TransactionOutcome) :
    sameTurn s (s.countFailure n o) := by
  unfold State.countFailure
  split
  · split
    · exact sameTurn.trans ⟨rfl, rfl⟩ (withdrawOrder_sameTurn (s.setNode n _) n .dropped)
    · exact ⟨rfl, rfl⟩
  · exact ⟨rfl, rfl⟩

theorem endOrder_sameTurn (s : State) (f : InFlight) (e : OrderEnd) : sameTurn s (s.endOrder f e) := by
  unfold State.endOrder
  dsimp only
  split <;> exact ⟨rfl, rfl⟩

theorem requeueOrder_sameTurn (s : State) (f : InFlight) : sameTurn s (s.requeueOrder f) := by
  unfold State.requeueOrder
  dsimp only
  split <;> exact ⟨rfl, rfl⟩

theorem takeNextOrder_sameTurn (s : State) : sameTurn s s.takeNextOrder := by
  unfold State.takeNextOrder
  dsimp only
  split <;> exact ⟨rfl, rfl⟩

theorem orderReplied_sameTurn (s : State) (o : TransactionOutcome) : sameTurn s (s.orderReplied o) := by
  unfold State.orderReplied
  split
  · split
    · exact endOrder_sameTurn _ _ _
    · exact endOrder_sameTurn _ _ _
    · exact requeueOrder_sameTurn _ _
    · exact endOrder_sameTurn _ _ _
    · exact ⟨rfl, rfl⟩
    · exact ⟨rfl, rfl⟩
  · exact ⟨rfl, rfl⟩

theorem orderFailed_sameTurn (s : State) : sameTurn s s.orderFailed := by
  unfold State.orderFailed
  split
  · split
    · exact endOrder_sameTurn _ _ _
    · split
      · exact (endOrder_sameTurn _ _ _).trans (takeNextOrder_sameTurn _)
      · split
        · exact endOrder_sameTurn _ _ _
        · exact ⟨rfl, rfl⟩
  · exact ⟨rfl, rfl⟩

/-- The end of a transaction of node `n` moves the rotation on after a poll alone. -/
def rotated (s t : State) (n : Nat) : Prop :=
  t.bus.rotation = if s.bus.lastTurn = .poll then s.store.nextEnabled n else s.bus.rotation

theorem rotated_of_sameTurn {n : Nat} (h : sameTurn (s.setBus (s.bus.endTransaction s.store n)) t) :
    rotated s t n := h.1

theorem transactionReplied_rotated (s : State) (n : Nat) (r : DriveReply) :
    rotated s (s.transactionReplied n r) n :=
  rotated_of_sameTurn (((takeReply_sameTurn _ _ _).trans (orderReplied_sameTurn _ _)).trans
    (sameTurn_of_bus (endBusEvent_bus _ _)))

theorem transactionFailed_rotated (s : State) (n : Nat) (o : TransactionOutcome) :
    rotated s (s.transactionFailed n o) n :=
  rotated_of_sameTurn (((countFailure_sameTurn _ _ _).trans (orderFailed_sameTurn _)).trans
    (sameTurn_of_bus (endBusEvent_bus _ _)))

theorem transactionDiscarded_rotated (s : State) (n : Nat) : rotated s (s.transactionDiscarded n) n := rfl

/-- What ends a transaction: bytes, or their absence. -/
theorem transaction_rotated {x : Transaction} {c : Instr} (hx : s.bus.transaction = some x)
    (hc : c = .noReply ∨ ∃ bytes, c = .replyReceived bytes ∧ bytes ≠ []) :
    ∃ t, exec c s = .next t ∧ rotated s t x.node := by
  obtain rfl | ⟨bytes, rfl, hb⟩ := hc
  · have hexec : exec .noReply s = if x.discard then .next (s.transactionDiscarded x.node)
        else .next (s.transactionFailed x.node .noReply) := by
      change execNoReply s = _
      unfold execNoReply
      rw [hx]
    rw [hexec]
    split
    · exact ⟨_, rfl, transactionDiscarded_rotated _ _⟩
    · exact ⟨_, rfl, transactionFailed_rotated _ _ _⟩
  · have hexec : exec (.replyReceived bytes) s = if x.discard then .next (s.transactionDiscarded x.node)
        else match validReply x.node (bytes.take 6) with
          | some r => .next (s.transactionReplied x.node r)
          | none => .next (s.transactionFailed x.node .corrupt) := by
      change execReplyReceived bytes s = _
      unfold execReplyReceived
      rw [hx]
      exact if_neg hb
    rw [hexec]
    split
    · exact ⟨_, rfl, transactionDiscarded_rotated _ _⟩
    · split
      · exact ⟨_, rfl, transactionReplied_rotated _ _ _⟩
      · exact ⟨_, rfl, transactionFailed_rotated _ _ _⟩

/-! ### The turns -/

theorem turnOpen_iff : s.turnOpen = true ↔ s.bus.transaction = none ∧ s.store.enabledOpenings ≠ [] := by
  simp [State.turnOpen]

theorem orderTurn_next (hx : s.bus.transaction = none) (hen : s.store.enabledOpenings ≠ [])
    (hq : s.bus.queue ≠ []) (hl : s.bus.lastTurn = .poll) : exec .orderTurn s = .next s.orderTurn :=
  if_pos ⟨turnOpen_iff.mpr ⟨hx, hen⟩, hq, hl⟩

theorem orderTurn_idle (h : s.bus.transaction ≠ none ∨ s.bus.lastTurn = .order) :
    exec .orderTurn s = .next s := by
  refine if_neg fun ⟨ho, _, hl⟩ => ?_
  obtain hx | hlast := h
  · exact hx (turnOpen_iff.mp ho).1
  · rw [hlast] at hl
    cases hl

theorem pollTurn_idle (h : s.bus.transaction ≠ none ∨ s.bus.queue ≠ [] ∧ s.bus.lastTurn = .poll) :
    exec .pollTurn s = .next s := by
  refine if_neg fun ⟨ho, hq⟩ => ?_
  obtain hx | ⟨hne, hlast⟩ := h
  · exact hx (turnOpen_iff.mp ho).1
  · refine hq.elim hne fun hl => ?_
    rw [hlast] at hl
    cases hl

end Sys2Proof.Machine
namespace Sys2Proof.Proofs
open Sys2Proof.Machine

/-- Settles O42, by the class sampled: accepted, candidate or neither. -/
theorem lineSampleDebounced : Obligations.LineSampleDebounced := by
  intro z count s r hz hr
  have hexec : exec (.zoneLineSample z count) s = .next (s.sampleLine z count) := if_pos hz
  rw [hexec]
  by_cases ha : r.accepted = some (sampleClass r.accepted count.toNat)
  · rw [sampleLine_of_accepted hr count ha]
    refine ⟨_, _, rfl, zone_setZone_self hr _, rfl, ?_⟩
    dsimp only
    rw [if_pos ha]
    exact ⟨rfl, rfl, rfl, rfl⟩
  · by_cases hc : r.candidate = some (sampleClass r.accepted count.toNat)
    · by_cases hk : r.agreement < 2
      · rw [sampleLine_of_agreeing hr count ha hc hk]
        refine ⟨_, _, rfl, zone_setZone_self hr _, rfl, ?_⟩
        dsimp only
        rw [if_neg ha, if_pos hc, if_pos hk]
        exact ⟨rfl, hc, rfl, rfl⟩
      · rw [sampleLine_of_third hr count ha hc hk]
        obtain ⟨a, b, hzone⟩ := acceptLine_zone
          (zone_setZone_self hr { r with count := count }) (sampleClass r.accepted count.toNat) 0
        rw [afterAcceptance_keeps] at hzone
        refine ⟨_, _, rfl, hzone, rfl, ?_⟩
        dsimp only
        rw [if_neg ha, if_pos hc, if_neg hk]
        exact ⟨rfl, rfl, rfl⟩
    · rw [sampleLine_of_other hr count ha hc]
      refine ⟨_, _, rfl, zone_setZone_self hr _, rfl, ?_⟩
      dsimp only
      rw [if_neg ha, if_neg hc]
      exact ⟨rfl, rfl, rfl, rfl⟩

/-- Settles O44: each row writes the fields its rule names. -/
theorem panelInputs : Obligations.PanelInputs := by
  refine ⟨fun s hs => ⟨_, rfl, setFire_frame _ _, rfl, Nat.mod_lt _ (by decide), ?_⟩,
    fun z a b s r hz hr => ?_, fun made s hm => ⟨_, if_neg (Ne.symm hm), setFire_frame _ _, rfl⟩⟩
  · change (s.fire.phase + 1) % 8 = _ ∨ _ ∧ (s.fire.phase + 1) % 8 = 0
    omega
  · have hexec : exec (.firemanSwitchChange z a b) s =
        if r.openMade = a ∧ r.closeMade = b then .next s
        else .next (s.setZone z { r with openMade := a, closeMade := b, switchTimer := some 200 }) := by
      change execFiremanSwitchChange z a b s = _
      unfold execFiremanSwitchChange
      rw [if_pos hz, hr]
    rw [hexec]
    by_cases h : r.openMade = a ∧ r.closeMade = b
    · rw [if_pos h, if_pos h]
      exact ⟨s, rfl, .refl _ _, hr⟩
    · rw [if_neg h, if_neg h]
      exact ⟨_, rfl, setZone_frame _ _ _, zone_setZone_self hr _⟩

/-- Settles O54, by the row and by the check of R155. -/
theorem turnsAlternate : Obligations.TurnsAlternate := by
  refine ⟨fun s o rest hx hen hq hl => ⟨fun hok => ?_, fun hbad hrest => ?_⟩, fun s hx hen hq => ?_,
    fun s x c hx hen hc => ?_, fun s hx => ⟨orderTurn_idle (.inl hx), pollTurn_idle (.inl hx)⟩,
    fun s hq => ⟨fun h => orderTurn_idle (.inr h), fun h => pollTurn_idle (.inr ⟨hq, h⟩)⟩⟩
  · refine ⟨_, orderTurn_next hx hen (by simp [hq]) hl, orderTurn_frame s, ?_⟩
    have hturn : s.orderTurn = _ :=
      takeNextOrder_of_allowed (s.setBus { s.bus with lastTurn := .order }) [] o rest hq
        (fun e he => nomatch he) hok
    rw [hturn]
    exact ⟨rfl, rfl, rfl, rfl⟩
  · subst hrest
    refine ⟨_, orderTurn_next hx hen (by simp [hq]) hl, ?_⟩
    have hnone : ∀ e ∈ s.bus.queue, s.orderAllowed e.opening = false := fun e he => by
      rw [hq] at he
      rw [List.mem_singleton.mp he]
      exact hbad
    have hturn : s.orderTurn = _ :=
      takeNextOrder_of_none_allowed (s.setBus { s.bus with lastTurn := .order }) hnone
    rw [hturn]
    refine ⟨rfl, hx, rfl, ?_⟩
    change _ ++ s.bus.queue.map _ = _
    rw [hq]
    rfl
  · exact ⟨_, if_pos ⟨turnOpen_iff.mpr ⟨hx, hen⟩, hq⟩, setBus_frame _ _, rfl, rfl, rfl, rfl, rfl⟩
  · obtain ⟨t, ht, hrot⟩ := transaction_rotated hx hc
    refine ⟨t, ht, fun hl => hrot.trans (if_neg (by simp [hl])), fun hl => ?_⟩
    rw [hrot.trans (if_pos hl)]
    exact nextEnabled_moves_on hen x.node

end Sys2Proof.Proofs
end

section
/-! PROOFS. What an operation of the demand manager leaves: a record retired, adjusted or placed (R30 to
R42), and what is reported of the records retired (R48). -/
namespace Sys2Proof.Machine
open Sys2Proof
variable {s t u : State}

/-! ### The end of an operation -/

/-- Each record an operation retires is reported as its source and the reason have it (R48). -/
theorem closeOperation_dropped {run : DemandRun} {adjusted : List Nat} {x : DemandRecord × RetireReason}
    {c : Condition} (hx : x ∈ run.retired) (hc : droppedEvent x = some c) :
    ∃ r ∈ (s.closeOperation run adjusted).mail.reports, r.owner = .demandManager ∧ c ∈ r.events := by
  have hmem : c ∈ run.retired.filterMap droppedEvent := List.mem_filterMap.mpr ⟨x, hx, hc⟩
  refine ⟨⟨.demandManager, changedLive .tableHigh s.demand.high run.table.restoreWaits.high,
    run.retired.filterMap droppedEvent⟩, ?_, rfl, hmem⟩
  refine (AddsReports.tellHeads (P := fun _ => True) _ _).mem ?_
  change _ ∈ (State.report _ _ _ _).mail.reports
  rw [report_mail, if_neg fun h => List.ne_nil_of_mem hmem h.2]
  exact List.mem_append_right _ (List.mem_singleton_self _)

theorem droppedEvent_of_supervisor {y : DemandRecord} {m : Nat} {c : Condition} {reason : RetireReason}
    (hsrc : y.source = .supervisor m) (hm : demandDropped m = some c) (hr : reason.drops = true) :
    droppedEvent (y, reason) = some c := by
  simp [droppedEvent, hsrc, hr, hm]

theorem retireSlot_demand (s : State) (k : Nat) (reason : RetireReason) :
    (s.retireSlot k reason).demand = (s.demand.run.retire k reason).table.restoreWaits :=
  closeOperation_demand _ _ _

section
variable {k : Nat} {r : DemandRecord} (h : s.demand.inSlot k = some r) (reason : RetireReason)
include h

/-- A retired record's slot is free, its generation counted up, and its handle nowhere. -/
theorem retireSlot_frees : (s.retireSlot k reason).demand.inSlot k = none ∧
    (s.retireSlot k reason).demand.handleOf k =
      { slot := k, gen := (s.demand.handleOf k).gen + 1 } ∧
    s.demand.handleOf k ∉ (s.retireSlot k reason).demand.ages ∧
    ∀ n, s.demand.handleOf k ∉ (s.retireSlot k reason).demand.list n := by
  rw [retireSlot_demand, DemandRun.retire_of_some _ _ _ h]
  refine ⟨?_, ?_, ?_, fun n => ?_⟩
  · simp [DemandTable.free_inSlot]
  · rw [DemandTable.restoreWaits_handleOf]
    exact s.demand.free_handleOf_self (s.demand.lt_of_inSlot h)
  · simp [DemandTable.run]
  · simp [DemandTable.free_list, DemandTable.run]

theorem retireSlot_dropped {m : Nat} {c : Condition} (hsrc : r.source = .supervisor m)
    (hm : demandDropped m = some c) (hr : reason.drops = true) :
    ∃ x ∈ (s.retireSlot k reason).mail.reports, x.owner = .demandManager ∧ c ∈ x.events := by
  refine closeOperation_dropped (x := (r, reason)) ?_ (droppedEvent_of_supervisor hsrc hm hr)
  rw [DemandRun.retire_of_some _ _ _ h]
  exact List.mem_append_right _ (List.mem_singleton_self _)

end

/-! ### A record rewritten -/

theorem rewrite_find_self {d : DemandTable} {h : Handle} {r : DemandRecord} (hf : d.find h ≠ none)
    (r' : DemandRecord) (hr : d.find h = some r) : (d.rewrite h.slot r').find h = some r' := by
  have hin := d.inSlot_of_find hr
  have hself : (d.rewrite h.slot r').handleOf h.slot = h := by
    rw [DemandTable.rewrite_handleOf, d.handleOf_of_find hf]
  have hfind := (d.rewrite h.slot r').find_handleOf h.slot
  rw [hself, d.rewrite_inSlot (d.lt_of_inSlot hin), if_pos rfl] at hfind
  exact hfind

/-- A head's wait restored leaves every other field. -/
theorem waitKept_keeps (d : DemandTable) (h : Handle) (r : DemandRecord) :
    d.waitKept h r = { r with waitRemaining := (d.waitKept h r).waitRemaining } := by
  unfold DemandTable.waitKept
  split <;> rfl

theorem waitKept_of_full (d : DemandTable) (h : Handle) {r : DemandRecord}
    (hw : r.waitRemaining = r.waitLimit) : d.waitKept h r = r := by
  cases r
  cases hw
  unfold DemandTable.waitKept
  split <;> rfl

theorem waitKept_eq_or (d : DemandTable) (h : Handle) (r : DemandRecord) :
    d.waitKept h r = r ∨ d.waitKept h r = { r with waitRemaining := r.waitLimit } := by
  unfold DemandTable.waitKept
  split
  · exact .inr rfl
  · exact .inl rfl

theorem adjustedAperture_eq (a : Nat) (delta : Int) : adjustedAperture a delta =
    if (a : Int) + delta < 0 then 0
    else if 1000 < (a : Int) + delta then 1000
    else ((a : Int) + delta).toNat := by
  have hfull : (Config.fullAperture : Int) = 1000 := rfl
  rw [adjustedAperture, hfull]
  split
  · omega
  · split <;> omega

theorem adjustmentClamped_iff (a : Nat) (delta : Int) : adjustmentClamped a delta = true ↔
    (a : Int) + delta < 0 ∨ 1000 < (a : Int) + delta := by
  simp only [adjustmentClamped, Bool.or_eq_true, decide_eq_true_eq]
  rfl

theorem recompute_demand (s : State) (ns : List Nat) : (s.recompute ns).demand = s.demand :=
  recompute_frame s ns .demand (by simp)

theorem respond_demand (s : State) (m : Nat) (code : Byte) (a : Answer) :
    (s.respond m code a).demand = s.demand := respond_frame s m code a .demand (by simp)

theorem carryOutAdjust_demand (s : State) (h : Handle) (r : DemandRecord) (delta : Int) :
    (s.carryOutAdjust h r delta).1.demand = (s.demand.rewrite h.slot
      { r with aperture := some (adjustedAperture (r.aperture.getD 0) delta) }).restoreWaits := by
  change (State.recompute _ _).demand = _
  rw [recompute_demand, endOperation_demand]
  rfl

/-- The adjusted record: its aperture moved, its wait perhaps restored, all else as it was. -/
theorem carryOutAdjust_find {h : Handle} {r : DemandRecord} (hf : s.demand.find h = some r)
    (delta : Int) : ∃ w, (s.carryOutAdjust h r delta).1.demand.find h = some
      { r with aperture := some (adjustedAperture (r.aperture.getD 0) delta), waitRemaining := w } := by
  rw [carryOutAdjust_demand, DemandTable.restoreWaits_find, rewrite_find_self (by rw [hf]; simp) _ hf,
    Option.map_some, waitKept_keeps]
  exact ⟨_, rfl⟩

end Sys2Proof.Machine
namespace Sys2Proof.Proofs
open Sys2Proof.Machine

/-- Settles O12: the record rewritten, its wait restored at a head. -/
theorem adjustMovesAperture : Obligations.AdjustMovesAperture := by
  intro m slot gen delta s r a hm hfind hsrc hcls ha hlo hhi
  have hexec : exec (.adjust m slot gen delta) s =
      .next ((s.requestAdjust m slot gen delta).respond m 0x02#8) := if_pos hm
  have hadjust : s.requestAdjust m slot gen delta =
      s.carryOutAdjust (handleOfBytes slot gen) r delta.toInt := by
    rw [requestAdjust_of_living hlo hhi hfind hcls, if_pos hsrc]
  rw [hadjust] at hexec
  have hdemand := (respond_demand (s.carryOutAdjust (handleOfBytes slot gen) r delta.toInt).1 m 0x02#8
    (s.carryOutAdjust (handleOfBytes slot gen) r delta.toInt).2).trans (carryOutAdjust_demand _ _ _ _)
  obtain ⟨w, hnew⟩ := carryOutAdjust_find hfind delta.toInt
  rw [← respond_demand _ m 0x02#8] at hnew
  refine ⟨_, _, _, hexec, hnew, ?_, rfl, rfl, rfl, rfl, rfl, rfl, ?_, ?_, respond_held _ _ _ _, rfl, rfl,
    ?_, rfl, rfl, rfl⟩
  · change some (adjustedAperture (r.aperture.getD 0) delta.toInt) = _
    rw [ha, Option.getD_some, adjustedAperture_eq]
  · exact (congrArg DemandTable.ages hdemand).trans rfl
  · exact (congrArg DemandTable.lists hdemand).trans rfl
  · change adjustmentClamped (r.aperture.getD 0) delta.toInt = true ↔ _
    rw [ha, Option.getD_some, adjustmentClamped_iff]

/-- Settles O13, by the rule of a retired slot. -/
theorem retireFreesSlot : Obligations.RetireFreesSlot := by
  intro m slot gen s r hm hfind hsrc
  have hexec : exec (.retire m slot gen) s = .next ((s.requestRetire m slot gen).respond m 0x03#8) :=
    if_pos hm
  rw [requestRetire_of_own hfind hsrc] at hexec
  have hin : s.demand.inSlot slot.toNat = some r := s.demand.inSlot_of_find hfind
  have hself : s.demand.handleOf slot.toNat = { slot := slot.toNat, gen := gen } :=
    s.demand.handleOf_of_find (h := { slot := slot.toNat, gen := gen }) (by rw [hfind]; simp)
  obtain ⟨hfree, hgen, hages, hlists⟩ := retireSlot_frees hin .retired
  rw [hself] at hgen hages hlists
  refine ⟨_, _, hexec, ?_, ?_, ?_, fun n => ?_, respond_held _ _ _ _, rfl, rfl, rfl⟩
  · rw [Answered.respond, respond_demand]
    exact hfree
  · rw [Answered.respond, respond_demand]
    exact hgen
  · rw [Answered.respond, respond_demand]
    exact hages
  · rw [Answered.respond, respond_demand]
    exact hlists n

end Sys2Proof.Proofs
end

section
/-! PROOFS. Lifetimes and waits (R43 to R48): the one-second event of the demand manager and the rows of
its two timers. -/
namespace Sys2Proof.Machine
open Sys2Proof
variable {s t u : State}

/-! ### Retirements and the generations -/

namespace DemandRun
variable (run : DemandRun) (xs : List (Nat × RetireReason))

theorem retire_handleOf_self {k : Nat} {r : DemandRecord} (h : run.table.inSlot k = some r)
    (reason : RetireReason) : (run.retire k reason).table.handleOf k =
      { slot := k, gen := (run.table.handleOf k).gen + 1 } := by
  rw [retire_of_some _ _ _ h]
  exact run.table.free_handleOf_self (run.table.lt_of_inSlot h)

/-- A slot that holds nothing keeps its handle through any retirements. -/
theorem retireEach_handleOf_of_free {k : Nat} (h : run.table.inSlot k = none) :
    (run.retireEach xs).table.handleOf k = run.table.handleOf k := by
  induction xs generalizing run with
  | nil => rfl
  | cons x xs ih =>
    have hfree : (run.retire x.1 x.2).table.inSlot k = none := by
      rw [retire_inSlot, h]
      split <;> rfl
    refine (ih (run.retire x.1 x.2) hfree).trans ?_
    by_cases hx : k = x.1
    · rw [retire_of_none _ _ _ (hx ▸ h)]
    · rw [retire_handleOf_ne _ _ _ hx]

/-- A record retired counts the generation of its slot up once. -/
theorem retireEach_handleOf_self {k : Nat} {r : DemandRecord} (h : run.table.inSlot k = some r)
    (hk : k ∈ xs.map Prod.fst) : (run.retireEach xs).table.handleOf k =
      { slot := k, gen := (run.table.handleOf k).gen + 1 } := by
  induction xs generalizing run with
  | nil => cases hk
  | cons x xs ih =>
    by_cases hx : k = x.1
    · subst hx
      refine (retireEach_handleOf_of_free _ xs ?_).trans (run.retire_handleOf_self h x.2)
      rw [retire_inSlot, if_pos rfl]
    · have hmem : k ∈ xs.map Prod.fst := (List.mem_cons.mp hk).resolve_left hx
      have hin : (run.retire x.1 x.2).table.inSlot k = some r := by rw [retire_inSlot, if_neg hx, h]
      have hstep := ih (run.retire x.1 x.2) hin hmem
      rwa [retire_handleOf_ne _ _ _ hx] at hstep

end DemandRun

/-! ### Heads -/

theorem nth_bounds {α : Type} {l : List α} {n : Nat} {a : α} (h : nth l n = some a) :
    1 ≤ n ∧ n ≤ l.length := by
  cases n with
  | zero => cases h
  | succ k => exact ⟨Nat.succ_pos k, (List.getElem?_eq_some_iff.mp h).1⟩

theorem DemandTable.heads_contains_iff {d : DemandTable} (hlen : d.lists.length = 48) (h : Handle) :
    d.heads.contains h = true ↔ d.headedBy h ≠ [] := by
  rw [List.contains_iff_mem, DemandTable.heads, List.mem_filterMap]
  constructor
  · rintro ⟨l, hl, hh⟩
    obtain ⟨n, hn⟩ := nth_of_mem hl
    refine List.ne_nil_of_mem (a := n)
      (List.mem_filter.mpr ⟨(mem_openingNumbers n).mpr ?_, ?_⟩)
    · have hb := nth_bounds hn
      omega
    · rw [DemandTable.head, d.list_eq, hn]
      simpa using hh
  · intro hne
    obtain ⟨n, hn⟩ := List.exists_mem_of_ne_nil _ hne
    have hhead := (List.mem_filter.mp hn).2
    rw [DemandTable.head, d.list_eq] at hhead
    cases hl : nth d.lists n with
    | none => simp [hl] at hhead
    | some l => exact ⟨l, nth_mem hl, by simpa [hl] using hhead⟩

theorem DemandTable.headedBy_congr {d d' : DemandTable} (h : d.lists = d'.lists) (x : Handle) :
    d.headedBy x = d'.headedBy x := by
  simp only [DemandTable.headedBy, DemandTable.head, DemandTable.list_eq, h]

theorem outranked_iff (d : DemandTable) (h : Handle) : d.status h = .outranked ↔ d.headedBy h = [] := by
  unfold DemandTable.status
  split
  · next he => simp [he]
  · next he =>
    split <;> simp [he]

/-! ### The second of the demand manager (R43 to R46) -/

theorem mem_doomed {d : DemandTable} {k : Nat} {reason : RetireReason} :
    (k, reason) ∈ d.doomed ↔ ∃ r, d.inSlot k = some r ∧ doomOf r = some reason := by
  simp only [DemandTable.doomed, List.mem_filterMap, d.mem_usedSlots]
  constructor
  · rintro ⟨j, -, hj⟩
    split at hj
    · next r hr =>
      split at hj
      · next rs hrs =>
        cases hj
        exact ⟨r, hr, hrs⟩
      · cases hj
    · cases hj
  · rintro ⟨r, hr, hrs⟩
    refine ⟨k, by simp [hr], ?_⟩
    simp only [hr, hrs]

theorem mem_doomed_slots {d : DemandTable} {k : Nat} {r : DemandRecord} (h : d.inSlot k = some r) :
    k ∈ d.doomed.map Prod.fst ↔ doomOf r ≠ none := by
  rw [List.mem_map]
  constructor
  · rintro ⟨⟨j, reason⟩, hj, rfl⟩
    obtain ⟨r', hr', hdoom⟩ := mem_doomed.mp hj
    rw [h] at hr'
    cases hr'
    simp [hdoom]
  · intro hne
    obtain ⟨reason, hreason⟩ := Option.ne_none_iff_exists'.mp hne
    exact ⟨(k, reason), mem_doomed.mpr ⟨r, h, hreason⟩, rfl⟩

theorem doomOf_drops {r : DemandRecord} {reason : RetireReason} (h : doomOf r = some reason) :
    reason.drops = true := by
  unfold doomOf at h
  split at h
  · cases h
    rfl
  · split at h
    · cases h
      rfl
    · cases h

theorem doomOf_eq_none {r : DemandRecord} (hl : r.lifetime ≠ some 0) (hw : r.waitRemaining ≠ some 0) :
    doomOf r = none := by
  rw [doomOf, if_neg hl, if_neg hw]

theorem doomOf_ne_none {r : DemandRecord} (h : r.lifetime = some 0 ∨ r.waitRemaining = some 0) :
    doomOf r ≠ none := by
  unfold doomOf
  split
  · simp
  · next hl => simp [h.resolve_left hl]

/-- The table after the second's count and retirements, before the waits are restored. -/
def secondRun (d : DemandTable) : DemandRun := d.countDown.run.retireEach d.countDown.doomed

theorem demandSecond_demand (s : State) : s.demandSecond.demand = (secondRun s.demand).table.restoreWaits :=
  closeOperation_demand _ _ _

section
variable {k : Nat} {r : DemandRecord} (h : s.demand.inSlot k = some r)
include h

theorem countDown_inSlot_of : s.demand.countDown.inSlot k =
    some (s.demand.secondOn (s.demand.handleOf k) r) := by
  rw [DemandTable.countDown_inSlot, h]
  rfl

/-- A record whose last second has passed is retired, and reported. -/
theorem demandSecond_of_doomed (hd : doomOf (s.demand.secondOn (s.demand.handleOf k) r) ≠ none) :
    s.demandSecond.demand.inSlot k = none ∧
    (s.demandSecond.demand.handleOf k).gen = (s.demand.handleOf k).gen + 1 ∧
    ∀ m c, r.source = .supervisor m → demandDropped m = some c →
      ∃ x ∈ s.demandSecond.mail.reports, x.owner = .demandManager ∧ c ∈ x.events := by
  have hin := countDown_inSlot_of h
  have hmem := (mem_doomed_slots hin).mpr hd
  rw [demandSecond_demand]
  refine ⟨?_, ?_, fun m c hsrc hm => ?_⟩
  · rw [DemandTable.restoreWaits_inSlot, secondRun, DemandRun.retireEach_inSlot, if_pos hmem]
    rfl
  · rw [DemandTable.restoreWaits_handleOf, secondRun,
      DemandRun.retireEach_handleOf_self _ _ hin hmem]
    change (s.demand.countDown.handleOf k).gen + 1 = _
    rw [DemandTable.countDown_handleOf]
  · obtain ⟨x, hx, rfl⟩ := List.mem_map.mp hmem
    obtain ⟨reason, hdoomed, hretired⟩ :=
      DemandRun.mem_retireEach_retired s.demand.countDown.run _ hx hin
    obtain ⟨r', hr', hreason⟩ := mem_doomed.mp hdoomed
    exact closeOperation_dropped hretired
      (droppedEvent_of_supervisor hsrc hm (doomOf_drops hreason))

/-- A record with time left is counted down, and has its wait restored where it heads a list by then. -/
theorem demandSecond_of_spared (hd : doomOf (s.demand.secondOn (s.demand.handleOf k) r) = none) :
    s.demandSecond.demand.inSlot k = some ((secondRun s.demand).table.waitKept (s.demand.handleOf k)
      (s.demand.secondOn (s.demand.handleOf k) r)) := by
  have hin := countDown_inSlot_of h
  have hmem : k ∉ s.demand.countDown.doomed.map Prod.fst := fun hm =>
    (mem_doomed_slots hin).mp hm hd
  rw [demandSecond_demand, DemandTable.restoreWaits_inSlot]
  rw [show (secondRun s.demand).table.inSlot k = _ from DemandRun.retireEach_inSlot _ _ _, if_neg hmem,
    show (secondRun s.demand).table.handleOf k = _ from DemandRun.retireEach_handleOf _ _ hmem]
  change (s.demand.countDown.inSlot k).map
    ((secondRun s.demand).table.waitKept (s.demand.countDown.handleOf k)) = _
  rw [hin, DemandTable.countDown_handleOf]
  rfl

/-- A head that is not retired still heads its list after the second. -/
theorem demandSecond_headedBy (hd : doomOf (s.demand.secondOn (s.demand.handleOf k) r) = none)
    (hh : s.demand.headedBy (s.demand.handleOf k) ≠ []) :
    (secondRun s.demand).table.headedBy (s.demand.handleOf k) ≠ [] := by
  have hmem : k ∉ s.demand.countDown.doomed.map Prod.fst := fun hm =>
    (mem_doomed_slots (countDown_inSlot_of h)).mp hm hd
  obtain ⟨n, hn⟩ := List.exists_mem_of_ne_nil _ hh
  obtain ⟨hnum, hhead⟩ := List.mem_filter.mp hn
  refine List.ne_nil_of_mem (a := n) (List.mem_filter.mpr ⟨hnum, ?_⟩)
  obtain ⟨rest, hrest⟩ := List.head?_eq_some_iff.mp (beq_iff_eq.mp hhead)
  rw [DemandTable.head, secondRun, DemandRun.retireEach_list]
  change ((s.demand.list n).filter _).head? == _
  rw [hrest, List.filter_cons_of_pos (by simp [hmem])]
  simp

end

theorem secondRun_lists_length (d : DemandTable) :
    (secondRun d).table.lists.length = d.lists.length :=
  DemandRun.retireEach_lists_length _ _

theorem secondOn_wait_of_head {d : DemandTable} (hlen : d.lists.length = 48) {h : Handle}
    (hh : d.headedBy h ≠ []) (r : DemandRecord) :
    d.secondOn h r = { r with lifetime := r.lifetime.map fun l => l - 1 } := by
  rw [DemandTable.secondOn, if_pos ((d.heads_contains_iff hlen h).mpr hh)]

theorem secondOn_wait_of_outranked {d : DemandTable} (hlen : d.lists.length = 48) {h : Handle}
    (hh : d.headedBy h = []) (r : DemandRecord) : d.secondOn h r =
      { r with
        lifetime := r.lifetime.map fun l => l - 1, waitRemaining := r.waitRemaining.map fun w => w - 1 } := by
  rw [DemandTable.secondOn, if_neg fun hc => (d.heads_contains_iff hlen h).mp hc hh]

theorem secondOn_lifetime_ne {d : DemandTable} {h : Handle} {r : DemandRecord}
    (hl : r.lifetime = none ∨ ∃ l, r.lifetime = some (l + 2)) :
    (d.secondOn h r).lifetime ≠ some 0 := by
  obtain hl | ⟨l, hl⟩ := hl
  · simp [DemandTable.secondOn, hl]
  · simp [DemandTable.secondOn, hl]

theorem waitKept_iff {d : DemandTable} (hlen : d.lists.length = 48) (h : Handle) (r : DemandRecord) :
    d.waitKept h r =
      { r with waitRemaining := if d.headedBy h = [] then r.waitRemaining else r.waitLimit } := by
  unfold DemandTable.waitKept
  by_cases hh : d.headedBy h = []
  · rw [if_neg fun hc => (d.heads_contains_iff hlen h).mp hc hh, if_pos hh]
  · rw [if_pos ((d.heads_contains_iff hlen h).mpr hh), if_neg hh]

/-! ### The rows of the two timers -/

theorem recordExpired_eq {k : Nat} {r : DemandRecord} (hk : isSlot k = true)
    (hr : s.demand.inSlot k = some r) : exec (.recordExpired k) s =
      if r.lifetime = some 1 then .next (s.retireSlot k .expired) else .next s := by
  change execRecordExpired k s = _
  unfold execRecordExpired
  rw [if_pos hk, hr]

theorem recordStarved_eq {k : Nat} {r : DemandRecord} (hk : isSlot k = true)
    (hr : s.demand.inSlot k = some r) : exec (.recordStarved k) s =
      if s.demand.status (s.demand.handleOf k) = .outranked ∧ r.waitRemaining = some 1 then
        .next (s.retireSlot k .starved) else .next s := by
  change execRecordStarved k s = _
  unfold execRecordStarved
  rw [if_pos hk, hr]

end Sys2Proof.Machine
namespace Sys2Proof.Proofs
open Sys2Proof.Machine

/-- Settles O27: at the second by whether the record is doomed, and by the rule of a retired slot at the
two rows. -/
theorem timersRetireRecords : Obligations.TimersRetireRecords := by
  refine ⟨fun s => ⟨_, rfl, fun k r hr => ⟨fun hlast => ?_, fun l hl hlim hrem => ?_,
    fun hl hlen => ⟨fun w hw hh => ?_, fun hh hw => ?_⟩⟩⟩, fun k s r hk hr => ⟨fun c hc => ?_,
    fun hl => ?_, fun hw => ?_⟩⟩
  · refine demandSecond_of_doomed hr (doomOf_ne_none ?_)
    obtain hl | ⟨hlen, hw, hh⟩ := hlast
    · exact .inl (by simp [DemandTable.secondOn, hl])
    · exact .inr (by simp [secondOn_wait_of_outranked hlen hh, hw])
  · have hspared : doomOf (s.demand.secondOn (s.demand.handleOf k) r) = none :=
      doomOf_eq_none (secondOn_lifetime_ne (.inr ⟨l, hl⟩)) (by simp [DemandTable.secondOn, hrem])
    rw [demandSecond_of_spared hr hspared, waitKept_of_full]
    · simp [DemandTable.secondOn, hl, hrem]
    · simp [DemandTable.secondOn, hrem, hlim]
  · have hsec := secondOn_wait_of_outranked hlen hh r
    have hspared : doomOf (s.demand.secondOn (s.demand.handleOf k) r) = none :=
      doomOf_eq_none (secondOn_lifetime_ne hl) (by simp [hsec, hw])
    have hheaded : s.demandSecond.demand.headedBy (s.demand.handleOf k) =
        (secondRun s.demand).table.headedBy (s.demand.handleOf k) := by
      rw [demandSecond_demand]
      rfl
    rw [demandSecond_of_spared hr hspared, waitKept_iff (by rw [secondRun_lists_length, hlen]), hheaded,
      hsec, hw]
    rfl
  · have hsec := secondOn_wait_of_head hlen hh r
    have hspared : doomOf (s.demand.secondOn (s.demand.handleOf k) r) = none :=
      doomOf_eq_none (secondOn_lifetime_ne hl) (by simp [hsec, hw])
    rw [demandSecond_of_spared hr hspared, waitKept_iff (by rw [secondRun_lists_length, hlen]),
      if_neg (demandSecond_headedBy hr hspared hh), hsec]
  · suffices h : ∀ reason, reason.drops = true → exec c s = .next (s.retireSlot k reason) →
        ∃ t, exec c s = .next t ∧ t.demand.inSlot k = none ∧
          (t.demand.handleOf k).gen = (s.demand.handleOf k).gen + 1 ∧
          s.demand.handleOf k ∉ t.demand.ages ∧
          ∀ m d, r.source = .supervisor m → demandDropped m = some d →
            ∃ x ∈ t.mail.reports, x.owner = .demandManager ∧ d ∈ x.events by
      obtain ⟨rfl, hl⟩ | ⟨rfl, hw, hh⟩ := hc
      · exact h .expired rfl ((recordExpired_eq hk hr).trans (if_pos hl))
      · exact h .starved rfl ((recordStarved_eq hk hr).trans
          (if_pos ⟨(outranked_iff _ _).mpr hh, hw⟩))
    intro reason hdrops hexec
    obtain ⟨hfree, hgen, hages, -⟩ := retireSlot_frees hr reason
    exact ⟨_, hexec, hfree, congrArg Handle.gen hgen, hages,
      fun m d hsrc hm => retireSlot_dropped hr reason hsrc hm hdrops⟩
  · exact (recordExpired_eq hk hr).trans (if_neg hl)
  · refine (recordStarved_eq hk hr).trans (if_neg fun ⟨ho, hw1⟩ => ?_)
    exact hw.elim (fun hne => hne ((outranked_iff _ _).mp ho)) fun hne => hne hw1

end Sys2Proof.Proofs
end

section
/-! PROOFS. A placement (R30 to R36): the record named by its handle and standing in its lists, the
records that yield, and the others as they stood. -/
namespace Sys2Proof.Machine
open Sys2Proof
variable {s t u : State}

theorem nth_isSome_iff {α : Type} (l : List α) (n : Nat) :
    (nth l n).isSome = true ↔ 1 ≤ n ∧ n ≤ l.length := by
  cases n with
  | zero => simp [nth]
  | succ k => simp [nth]

theorem takeWhile_congr {α : Type} {p q : α → Bool} {l : List α} (h : ∀ x ∈ l, p x = q x) :
    l.takeWhile p = l.takeWhile q := by
  induction l with
  | nil => rfl
  | cons a l ih =>
    rw [List.takeWhile_cons, List.takeWhile_cons, h a List.mem_cons_self,
      ih fun x hx => h x (List.mem_cons_of_mem _ hx)]

theorem dropWhile_congr {α : Type} {p q : α → Bool} {l : List α} (h : ∀ x ∈ l, p x = q x) :
    l.dropWhile p = l.dropWhile q := by
  induction l with
  | nil => rfl
  | cons a l ih =>
    rw [List.dropWhile_cons, List.dropWhile_cons, h a List.mem_cons_self,
      ih fun x hx => h x (List.mem_cons_of_mem _ hx)]

namespace DemandTable

variable (d : DemandTable)

/-- The table of a placement once room is made (R32, steps 1 to 3). -/
def roomFor (r : DemandRecord) (ns : List Nat) : DemandTable := (d.run.makeRoom r ns).table

/-- The record of handle `x` yields to a placement of rank `rank` on the openings `ns` (R36). -/
def yieldsAt (rank : Nat) (ns : List Nat) (x : Handle) : Bool :=
  (match d.find x with
    | some y => y.mode == .yield && decide (y.cls.rank < rank)
    | none => false) && ns.any fun n => (d.list n).contains x

theorem yieldsAt_iff {rank : Nat} {ns : List Nat} {x : Handle} : d.yieldsAt rank ns x = true ↔
    (∃ y, d.find x = some y ∧ y.mode = .yield ∧ y.cls.rank < rank) ∧ ∃ n ∈ ns, x ∈ d.list n := by
  unfold yieldsAt
  cases d.find x <;> simp

theorem mem_yielding {rank : Nat} {ns : List Nat} {k : Nat} : k ∈ d.yielding rank ns ↔
    (∃ y, d.inSlot k = some y ∧ y.mode = .yield ∧ y.cls.rank < rank) ∧
      ∃ n ∈ ns, d.handleOf k ∈ d.list n := by
  simp only [yielding, List.mem_filter, d.mem_usedSlots]
  cases hk : d.inSlot k with
  | none => simp
  | some y => simp [and_assoc]

/-- The handle of a slot yields exactly where the slot does. -/
theorem yieldsAt_eq (rank : Nat) (ns : List Nat) (x : Handle) : d.yieldsAt rank ns x =
    ((d.find x).isSome && decide (x.slot ∈ d.yielding rank ns)) := by
  rw [Bool.eq_iff_iff, Bool.and_eq_true, decide_eq_true_eq, mem_yielding, yieldsAt_iff]
  constructor
  · rintro ⟨⟨y, hy, hm, hr⟩, hlist⟩
    have hself := d.handleOf_of_find (h := x) (by rw [hy]; simp)
    exact ⟨by rw [hy]; rfl, ⟨y, d.inSlot_of_find hy, hm, hr⟩, by rwa [hself]⟩
  · rintro ⟨hsome, ⟨y, hy, hm, hr⟩, hlist⟩
    obtain ⟨z, hz⟩ := Option.isSome_iff_exists.mp hsome
    have hself := d.handleOf_of_find (h := x) (by rw [hz]; simp)
    have hin := d.inSlot_of_find hz
    rw [hin] at hy
    cases hy
    rw [hself] at hlist
    exact ⟨⟨_, hz, hm, hr⟩, hlist⟩

theorem roomFor_lists_length (r : DemandRecord) (ns : List Nat) :
    (d.roomFor r ns).lists.length = d.lists.length := by
  obtain ⟨xs, hxs, -⟩ := d.run.makeRoom_eq r ns
  rw [roomFor, hxs, DemandRun.retireEach_lists_length]
  rfl

section
variable {d} {r : DemandRecord} {ns : List Nat} {k : Nat} (hk : d.placeSlot r ns = some k)
include hk

theorem roomFor_free : k < (d.roomFor r ns).slots.length ∧ (d.roomFor r ns).inSlot k = none :=
  d.placeSlot_free hk

theorem place_handle : (d.place r ns).2 = some ((d.roomFor r ns).handleOf k) := by
  rw [d.place_of_slot hk]
  rfl

theorem placedIn_find (x : Handle) : (d.placedIn r ns k).find x =
    if x = (d.roomFor r ns).handleOf k then some r else (d.roomFor r ns).find x :=
  install_find _ (roomFor_free hk).1 (roomFor_free hk).2 r ns x

omit hk in
theorem placedIn_list (n : Nat) : (d.placedIn r ns k).list n =
    if n ∈ ns ∧ (nth (d.roomFor r ns).lists n).isSome then
      (d.roomFor r ns).insertIn r.cls ((d.roomFor r ns).handleOf k) ((d.roomFor r ns).list n)
    else (d.roomFor r ns).list n := install_list _ k r ns n

/-- In the table with the record installed, it does not yield and the others yield as before. -/
theorem placedIn_yieldsAt (x : Handle) : (d.placedIn r ns k).yieldsAt r.cls.rank ns x = true ↔
    x ≠ (d.roomFor r ns).handleOf k ∧ (d.roomFor r ns).yieldsAt r.cls.rank ns x = true := by
  simp only [yieldsAt_iff, placedIn_find hk]
  by_cases hx : x = (d.roomFor r ns).handleOf k
  · subst hx
    simp only [if_true, ne_eq, not_true_eq_false, false_and, iff_false]
    rintro ⟨⟨y, hy, -, hr⟩, -⟩
    cases hy
    exact Nat.lt_irrefl _ hr
  · simp only [ne_eq, hx, not_false_eq_true, true_and, if_false]
    refine and_congr_right fun _ => exists_congr fun n => and_congr_right fun _ => ?_
    rw [placedIn_list]
    split
    · rw [mem_insertIn]
      exact or_iff_right hx
    · exact Iff.rfl

theorem not_placedIn_yieldsAt_self :
    (d.placedIn r ns k).yieldsAt r.cls.rank ns ((d.roomFor r ns).handleOf k) = false :=
  Bool.eq_false_iff.mpr fun h => ((placedIn_yieldsAt hk _).mp h).1 rfl

theorem place_eq : (d.place r ns).1 = { d.run.makeRoom r ns with table := d.placedIn r ns k }.retireEach
    (((d.placedIn r ns k).yielding r.cls.rank ns).map fun j => (j, .yielded)) := by
  rw [d.place_of_slot hk]

omit hk in
theorem mem_yielded_slots {j : Nat} : j ∈ (((d.placedIn r ns k).yielding r.cls.rank ns).map fun j =>
    (j, RetireReason.yielded)).map Prod.fst ↔ j ∈ (d.placedIn r ns k).yielding r.cls.rank ns := by
  simp [Function.comp_def]

omit hk in
/-- The filter of the retirements keeps what does not yield. -/
theorem yielded_filter (x : Handle) :
    (((d.placedIn r ns k).find x).isSome && decide (x.slot ∈ (((d.placedIn r ns k).yielding r.cls.rank
      ns).map fun j => (j, RetireReason.yielded)).map Prod.fst)) =
      (d.placedIn r ns k).yieldsAt r.cls.rank ns x := by
  simp only [mem_yielded_slots, yieldsAt_eq]

theorem place_find (x : Handle) : (d.place r ns).1.table.find x =
    if (d.placedIn r ns k).yieldsAt r.cls.rank ns x = true then none
    else (d.placedIn r ns k).find x := by
  rw [place_eq hk, DemandRun.retireEach_find, ← yielded_filter]
  change (if _ then none else (d.placedIn r ns k).find x) = _
  by_cases hs : ((d.placedIn r ns k).find x).isSome = true
  · simp [hs]
  · simp [Option.not_isSome_iff_eq_none.mp hs]

/-- What a handle names after a placement: the new record, nothing where its record yielded, and
otherwise what it named with the room made. -/
theorem place_find_self :
    (d.place r ns).1.table.find ((d.roomFor r ns).handleOf k) = some r := by
  rw [place_find hk, not_placedIn_yieldsAt_self hk, placedIn_find hk, if_pos rfl]
  exact if_neg (by decide)

theorem place_find_of_yields {x : Handle} (hx : x ≠ (d.roomFor r ns).handleOf k)
    (hy : (d.roomFor r ns).yieldsAt r.cls.rank ns x = true) : (d.place r ns).1.table.find x = none := by
  rw [place_find hk, if_pos ((placedIn_yieldsAt hk x).mpr ⟨hx, hy⟩)]

theorem place_find_of_stays {x : Handle} (hx : x ≠ (d.roomFor r ns).handleOf k)
    (hy : (d.roomFor r ns).yieldsAt r.cls.rank ns x = false) :
    (d.place r ns).1.table.find x = (d.roomFor r ns).find x := by
  rw [place_find hk, if_neg, placedIn_find hk, if_neg hx]
  intro h
  rw [((placedIn_yieldsAt hk x).mp h).2] at hy
  cases hy

theorem place_list (n : Nat) : (d.place r ns).1.table.list n =
    ((d.placedIn r ns k).list n).filter fun x => !(d.placedIn r ns k).yieldsAt r.cls.rank ns x := by
  rw [place_eq hk, DemandRun.retireEach_list]
  exact List.filter_congr fun x _ => congrArg not (yielded_filter x)

/-- The new record stands in the list of every opening it covers. -/
theorem mem_place_list_self {n : Nat} (hn : n ∈ ns) (hlist : (nth d.lists n).isSome = true) :
    (d.roomFor r ns).handleOf k ∈ (d.place r ns).1.table.list n := by
  have hroom : (nth (d.roomFor r ns).lists n).isSome = true := by
    rw [nth_isSome_iff, roomFor_lists_length, ← nth_isSome_iff]
    exact hlist
  rw [place_list hk, List.mem_filter, not_placedIn_yieldsAt_self hk, placedIn_list, if_pos ⟨hn, hroom⟩,
    mem_insertIn]
  exact ⟨.inl rfl, rfl⟩

theorem place_ages : (d.place r ns).1.table.ages =
    (d.roomFor r ns).ages.filter (fun x => !(d.placedIn r ns k).yieldsAt r.cls.rank ns x) ++
      [(d.roomFor r ns).handleOf k] := by
  have hages : (d.place r ns).1.table.ages = ((d.roomFor r ns).ages ++
      [(d.roomFor r ns).handleOf k]).filter
        fun x => !(d.placedIn r ns k).yieldsAt r.cls.rank ns x := by
    rw [place_eq hk, DemandRun.retireEach_ages]
    exact List.filter_congr fun x _ => congrArg not (yielded_filter x)
  rw [hages, List.filter_append]
  congr 1
  exact List.filter_cons_of_pos (by rw [not_placedIn_yieldsAt_self hk]; rfl)

/-- A record that yields is retired as YIELDED. -/
theorem place_retired {x : Handle} {y : DemandRecord} (hx : x ≠ (d.roomFor r ns).handleOf k)
    (hf : (d.roomFor r ns).find x = some y) (hy : (d.roomFor r ns).yieldsAt r.cls.rank ns x = true) :
    (y, RetireReason.yielded) ∈ (d.place r ns).1.retired := by
  have hfind : (d.placedIn r ns k).find x = some y := by rw [placedIn_find hk, if_neg hx, hf]
  have hplaced := (placedIn_yieldsAt hk x).mpr ⟨hx, hy⟩
  rw [yieldsAt_eq, Bool.and_eq_true, decide_eq_true_eq] at hplaced
  have hmem := hplaced.2
  have hin : (x.slot, RetireReason.yielded) ∈ ((d.placedIn r ns k).yielding r.cls.rank ns).map fun j =>
      (j, RetireReason.yielded) := List.mem_map.mpr ⟨_, hmem, rfl⟩
  rw [place_eq hk]
  obtain ⟨reason, hreason, hret⟩ := DemandRun.mem_retireEach_retired
    { d.run.makeRoom r ns with table := d.placedIn r ns k } _ hin ((d.placedIn r ns k).inSlot_of_find hfind)
  obtain ⟨j, -, hj⟩ := List.mem_map.mp hreason
  cases hj
  exact hret

end

/-! ### The room of a placement that evicts nothing -/

section
variable {d} {r : DemandRecord} {ns : List Nat} (he : r.source.evicts = false)
include he

theorem makeRoom_of_unevicting : d.run.makeRoom r ns =
    match d.matching r with
    | some k => d.run.retire k .replaced
    | none => d.run := by
  unfold DemandRun.makeRoom
  rw [he]
  simp only [Bool.false_and, Bool.false_eq_true, if_false]
  rfl

theorem roomFor_of_matching {k : Nat} (hm : d.matching r = some k) : d.roomFor r ns = d.free k := by
  obtain ⟨x, hx, -⟩ := d.matching_eq_some hm
  rw [roomFor, makeRoom_of_unevicting he, hm]
  dsimp only
  rw [DemandRun.retire_of_some _ _ _ hx]
  rfl

theorem roomFor_of_new (hm : d.matching r = none) : d.roomFor r ns = d := by
  rw [roomFor, makeRoom_of_unevicting he, hm]
  rfl

theorem roomFor_find (x : Handle) :
    (d.roomFor r ns).find x = if d.matching r = some x.slot then none else d.find x := by
  cases hm : d.matching r with
  | none => rw [roomFor_of_new he hm, if_neg (by simp)]
  | some k =>
    rw [roomFor_of_matching he hm, free_find]
    by_cases hx : x.slot = k
    · rw [if_pos hx, if_pos (by rw [hx])]
    · rw [if_neg hx, if_neg fun h => hx (Option.some.inj h).symm]

end

/-- The handle a placement gives named nothing before. -/
theorem find_new_handle {d : DemandTable} {r : DemandRecord} {ns : List Nat} {k : Nat}
    (he : r.source.evicts = false) (hk : d.placeSlot r ns = some k) :
    d.find ((d.roomFor r ns).handleOf k) = none := by
  cases hm : d.matching r with
  | none =>
    have hfree := (roomFor_free hk).2
    rw [roomFor_of_new he hm] at hfree ⊢
    rw [find_handleOf, hfree]
  | some j =>
    have hslot : some j = some k := by
      rw [← hk, placeSlot, hm]
    cases hslot
    obtain ⟨x, hx, -⟩ := d.matching_eq_some hm
    rw [roomFor_of_matching he hm, d.free_handleOf_self (d.lt_of_inSlot hx)]
    by_contra hne
    have hself := congrArg Handle.gen (d.handleOf_of_find hne)
    exact (by bv_omega : ∀ g : Byte, g ≠ g + 1) _ hself

/-- The list of an opening once room is made: the replaced record is out of it. -/
theorem roomFor_list {d : DemandTable} {r : DemandRecord} {ns : List Nat}
    (he : r.source.evicts = false) (n : Nat) : (d.roomFor r ns).list n =
      match d.matching r with
      | some k => (d.list n).filter fun x => x != d.handleOf k
      | none => d.list n := by
  cases hm : d.matching r with
  | none => rw [roomFor_of_new he hm]
  | some k => rw [roomFor_of_matching he hm, free_list]

/-- A record still listed once room is made is named as before. -/
theorem roomFor_find_of_listed {d : DemandTable} {r : DemandRecord} {ns : List Nat}
    (he : r.source.evicts = false) {n : Nat} {x : Handle} (hx : x ∈ (d.roomFor r ns).list n) :
    (d.roomFor r ns).find x = d.find x := by
  rw [roomFor_find he]
  split
  · next hm =>
    rw [roomFor_list he, hm] at hx
    have hne : x ≠ d.handleOf x.slot := by simpa using (List.mem_filter.mp hx).2
    by_contra hf
    exact hne (d.handleOf_of_find fun h => hf h.symm).symm
  · rfl

theorem insertIn_eq {d : DemandTable} {c : DemandClass} (hc : c ≠ .smoke) {f : Handle → Nat}
    {l : List Handle} (hf : ∀ x ∈ l, d.rankAt x = f x) (h : Handle) : d.insertIn c h l =
      (l.takeWhile fun x => decide (c.rank < f x)) ++ h :: l.dropWhile fun x => decide (c.rank < f x) := by
  have hahead : ∀ n, aheadOfNew c n = decide (c.rank < n) := fun n => by
    cases c with
    | smoke => exact absurd rfl hc
    | _ => rfl
  simp only [insertIn, hahead]
  congr 1
  · exact takeWhile_congr fun x hx => by rw [hf x hx]
  · exact congrArg (h :: ·) (dropWhile_congr fun x hx => by rw [hf x hx])

section
variable {d : DemandTable} {r : DemandRecord} {ns : List Nat} {k : Nat}
  (he : r.source.evicts = false) (hk : d.placeSlot r ns = some k)
include he

theorem roomFor_ages_sublist : (d.roomFor r ns).ages.Sublist d.ages := by
  cases hm : d.matching r with
  | none => rw [roomFor_of_new he hm]
  | some j =>
    rw [roomFor_of_matching he hm, free_ages]
    exact List.filter_sublist

theorem roomFor_list_subset {n : Nat} {x : Handle} (hx : x ∈ (d.roomFor r ns).list n) :
    x ∈ d.list n := by
  rw [roomFor_list he] at hx
  split at hx
  · exact List.mem_of_mem_filter hx
  · exact hx

omit he in
/-- A handle of lower rank than the placement is not the one the placement replaces. -/
theorem not_matching_of_rank {x : Handle} {y : DemandRecord} (hy : d.find x = some y)
    (hrank : y.cls.rank < r.cls.rank) : d.matching r ≠ some x.slot := by
  intro hm
  obtain ⟨z, hz, -, hcls, -⟩ := d.matching_eq_some hm
  rw [d.inSlot_of_find hy] at hz
  cases hz
  rw [hcls] at hrank
  exact Nat.lt_irrefl _ hrank

/-- A record that yields stands in its lists still when room is made. -/
theorem mem_roomFor_list {n : Nat} {x : Handle} {y : DemandRecord} (hx : x ∈ d.list n)
    (hy : d.find x = some y) (hrank : y.cls.rank < r.cls.rank) : x ∈ (d.roomFor r ns).list n := by
  have hne := not_matching_of_rank hy hrank
  rw [roomFor_list he]
  split
  · next j hm =>
    refine List.mem_filter.mpr ⟨hx, ?_⟩
    rw [bne_iff_ne]
    rintro rfl
    exact hne (by rw [hm, handleOf_slot])
  · exact hx

include hk

/-- A placement that replaces a record takes its slot with the next generation. -/
theorem new_handle_of_matching {j : Nat} (hm : d.matching r = some j) :
    (d.roomFor r ns).handleOf k = { slot := j, gen := (d.handleOf j).gen + 1 } := by
  have hslot : some j = some k := by rw [← hk, placeSlot, hm]
  cases hslot
  obtain ⟨x, hx, -⟩ := d.matching_eq_some hm
  rw [roomFor_of_matching he hm, d.free_handleOf_self (d.lt_of_inSlot hx)]

/-- The replaced record's handle names nothing more. -/
theorem place_find_replaced {j : Nat} (hm : d.matching r = some j) :
    (d.place r ns).1.table.find (d.handleOf j) = none := by
  have hne : d.handleOf j ≠ (d.roomFor r ns).handleOf k := fun h => by
    obtain ⟨x, hx, -⟩ := d.matching_eq_some hm
    have hnew := find_new_handle he hk
    rw [← h, find_handleOf, hx] at hnew
    cases hnew
  rw [place_find hk]
  split
  · rfl
  · rw [placedIn_find hk, if_neg hne, roomFor_find he, if_pos (by rw [hm, handleOf_slot])]

/-- The age order after a placement: the new record last, of the others some retired. -/
theorem place_ages_older : ∃ older, (d.place r ns).1.table.ages =
    older ++ [(d.roomFor r ns).handleOf k] ∧ older.Sublist d.ages :=
  ⟨_, place_ages hk, List.filter_sublist.trans (roomFor_ages_sublist he)⟩

theorem ne_new_handle {x : Handle} {y : DemandRecord} (hy : d.find x = some y) :
    x ≠ (d.roomFor r ns).handleOf k := by
  rintro rfl
  rw [find_new_handle he hk] at hy
  cases hy

/-- Among the handles of a list once room is made, those that yield do so by their records (R36). -/
theorem placedIn_yieldsAt_listed {n : Nat} (hn : n ∈ ns) {x : Handle}
    (hx : x ∈ (d.roomFor r ns).list n) : (d.placedIn r ns k).yieldsAt r.cls.rank ns x =
      match d.find x with
      | some y => y.mode == .yield && decide (y.cls.rank < r.cls.rank)
      | none => false := by
  have hfind := roomFor_find_of_listed he hx
  rw [Bool.eq_iff_iff, placedIn_yieldsAt hk, yieldsAt_iff, hfind]
  cases hd : d.find x with
  | none => simp
  | some y =>
    have hne := ne_new_handle he hk hd
    simp only [ne_eq, hne, not_false_eq_true, true_and, Option.some.injEq, exists_eq_left',
      Bool.and_eq_true, beq_iff_eq, decide_eq_true_eq]
    exact and_iff_left ⟨n, hn, hx⟩

/-- The list of an opening the placement covers: the record behind those of higher rank and ahead of
the others, and those of lower rank that yield gone. -/
theorem place_list_covered (hc : r.cls ≠ .smoke) {n : Nat} (hn : n ∈ ns)
    (hlist : (nth d.lists n).isSome = true) :
    let stood := match d.matching r with
      | some j => (d.list n).filter fun x => x != d.handleOf j
      | none => d.list n
    (d.place r ns).1.table.list n =
      ((stood.takeWhile fun x => decide (r.cls.rank < d.rankAt x)) ++
        (d.roomFor r ns).handleOf k :: stood.dropWhile fun x => decide (r.cls.rank < d.rankAt x)).filter
          fun x => !match d.find x with
            | some y => y.mode == .yield && decide (y.cls.rank < r.cls.rank)
            | none => false := by
  have hroom : (nth (d.roomFor r ns).lists n).isSome = true := by
    rw [nth_isSome_iff, roomFor_lists_length, ← nth_isSome_iff]
    exact hlist
  have hrank : ∀ x ∈ (d.roomFor r ns).list n, (d.roomFor r ns).rankAt x = d.rankAt x := fun x hx => by
    rw [rankAt, rankAt, roomFor_find_of_listed he hx]
  intro stood
  have hstood : (d.roomFor r ns).list n = stood := roomFor_list he n
  rw [place_list hk, placedIn_list, if_pos ⟨hn, hroom⟩, ← hstood, ← insertIn_eq hc hrank]
  refine List.filter_congr fun x hx => congrArg not ?_
  obtain rfl | hx := (mem_insertIn _).mp hx
  · rw [not_placedIn_yieldsAt_self hk, find_new_handle he hk]
  · exact placedIn_yieldsAt_listed he hk hn hx

end

end DemandTable

/-! ### PLACE -/

theorem placedRecord_fields {m : Nat} {f : PlaceFields} {r : DemandRecord}
    (h : s.placedRecord m f = some r) : r.source = .supervisor m ∧ classOfCode f.cls = some r.cls ∧
      apertureOf r.cls f.aperture = some r.aperture ∧ r.lifetime = secondsOf f.lifetime ∧
      r.waitRemaining = r.waitLimit := by
  unfold State.placedRecord at h
  split at h
  · next c t mode hc _ _ =>
    split at h
    · next a ha =>
      cases h
      exact ⟨rfl, hc, ha, rfl, rfl⟩
    · cases h
  · cases h

theorem apertureOf_lockout {a : Word16} {x : Option Nat} (h : apertureOf .lockout a = some x) :
    x = none := by
  unfold apertureOf at h
  cases hw : a == 0xFFFF#16 with
  | true =>
    rw [hw] at h
    exact (Option.some.inj h).symm
  | false =>
    rw [hw] at h
    cases h

theorem apertureOf_other {c : DemandClass} {a : Word16} {x : Option Nat} (h : apertureOf c a = some x)
    (hc : c ≠ .lockout) : x = some (min a.toNat 1000) := by
  unfold apertureOf at h
  cases hw : a == 0xFFFF#16 with
  | true =>
    rw [hw] at h
    cases c <;> simp_all
  | false =>
    rw [hw] at h
    cases c with
    | lockout => exact absurd rfl hc
    | _ => exact (Option.some.inj h).symm

theorem secondsOf_cases (w : Word16) :
    (w = 0 → secondsOf w = none) ∧ (w ≠ 0 → secondsOf w = some w.toNat) :=
  ⟨fun h => if_pos h, fun h => if_neg h⟩

theorem class_ne_smoke {m : Nat} {b : Byte} {c : DemandClass} (hp : s.classPermitted m b = true)
    (hc : classOfCode b = some c) : c ≠ .smoke := by
  rintro rfl
  simp [State.classPermitted, hc, SupervisorEntry.mayPlace] at hp

/-- The part after a PLACE that is taken: the table of the placement with its waits restored. -/
theorem requestPlace_placed {m : Nat} {f : PlaceFields} {r : DemandRecord}
    (hp : s.classPermitted m f.cls = true) (hr : s.placedRecord m f = some r)
    (href : s.demand.refusal r (s.store.covered r.target) = none) :
    ∃ k flags body, s.demand.placeSlot r (s.store.covered r.target) = some k ∧
      (s.requestPlace m f).2 = ⟨.accepted, flags, body⟩ ∧
      (s.requestPlace m f).1.demand =
        (s.demand.place r (s.store.covered r.target)).1.table.restoreWaits ∧
      flags.new = (s.demand.matching r).isNone ∧ flags.replaced = (s.demand.matching r).isSome ∧
      flags.clamped = apertureClamped f.aperture ∧
      flags.retiredOthers = retiredOthers (s.demand.place r (s.store.covered r.target)).1 := by
  obtain ⟨k, hk, hx⟩ := carryOutPlace_of_accepted (apertureClamped f.aperture) href
  refine ⟨k, _, _, hk, congrArg Prod.snd (requestPlace_of_taken hp hr href hx), ?_, ?_, rfl, rfl, rfl⟩
  · rw [requestPlace_of_taken hp hr href hx]
    exact (recompute_demand _ _).trans (endOperation_demand _ _ _)
  · exact Option.not_isSome _

end Sys2Proof.Machine
namespace Sys2Proof.Proofs
open Sys2Proof.Machine Sys2Proof.Machine.DemandTable

/-- Settles O9, by the rules of a placement that evicts nothing. -/
theorem placeInstallsRecord : Obligations.PlaceInstallsRecord := by
  intro m f s r hm hp hr href hlen yields stood
  have hexec : exec (.place m f) s = .next ((s.requestPlace m f).respond m 0x01#8) := if_pos hm
  obtain ⟨hsrc, hcls, hap, hlife, hwait⟩ := placedRecord_fields hr
  obtain ⟨k, flags, body, hk, hans, hdem, hnew, hrep, hclamp, hothers⟩ := requestPlace_placed hp hr href
  set ns := s.store.covered r.target with hns
  have he : r.source.evicts = false := by rw [hsrc]; rfl
  have hfresh := find_new_handle he hk
  set h := (s.demand.roomFor r ns).handleOf k with hh
  have hself : (s.demand.place r ns).1.table.find h = some r := place_find_self hk
  have hdemand : ((s.requestPlace m f).respond m 0x01#8).demand =
      (s.demand.place r ns).1.table.restoreWaits := (respond_demand _ _ _ _).trans hdem
  have hresp : ((s.requestPlace m f).respond m 0x01#8).link.held = _ := respond_held _ _ _ _
  rw [hans] at hresp
  have hlists : ∀ n, ((s.requestPlace m f).respond m 0x01#8).demand.list n =
      (s.demand.place r ns).1.table.list n := fun n => by rw [hdemand, restoreWaits_list]
  have yields_iff : ∀ {x}, yields x = true ↔
      ∃ y, s.demand.find x = some y ∧ y.mode = .yield ∧ y.cls.rank < r.cls.rank := fun {x} => by
    simp only [yields]
    cases s.demand.find x <;> simp
  refine ⟨_, h, _, hexec, hsrc, hcls, fun hlo => apertureOf_lockout (hlo ▸ hap), apertureOf_other hap,
    fun h0 => hlife.trans ((secondsOf_cases _).1 h0), fun h0 => hlife.trans ((secondsOf_cases _).2 h0),
    ?_, hfresh, fun n hn hop => ?_, hresp, rfl, rfl, rfl, hnew, hrep, ?_, fun j hj => ?_,
    fun _ n hn hop => ?_, ?_, fun n hn x hx hy => ?_, fun x y hx hmx hstay => ?_⟩
  · rw [hdemand, restoreWaits_find, hself, Option.map_some, waitKept_of_full _ _ hwait]
  · rw [hlists]
    refine mem_place_list_self hk hn ((nth_isSome_iff _ _).mpr ?_)
    rw [hlen]
    exact (isOpening_iff n).mp hop
  · rw [← apertureClamped_iff, ← hclamp]
    exact Iff.rfl
  · rw [hdemand, restoreWaits_find, place_find_replaced he hk hj]
    exact ⟨new_handle_of_matching he hk hj, rfl⟩
  · rw [hlists]
    exact place_list_covered he hk (class_ne_smoke hp hcls) hn
      ((nth_isSome_iff _ _).mpr (by rw [hlen]; exact (isOpening_iff n).mp hop))
  · rw [hdemand]
    exact place_ages_older he hk
  · obtain ⟨y, hfind, hmode, hrank⟩ := yields_iff.mp hy
    have hroom := mem_roomFor_list (ns := ns) he hx hfind hrank
    have hfind' := (roomFor_find_of_listed he hroom).trans hfind
    have hyields := (yieldsAt_iff _).mpr ⟨⟨y, hfind', hmode, hrank⟩, n, hn, hroom⟩
    have hne := ne_new_handle he hk hfind
    rw [hdemand, restoreWaits_find, place_find_of_yields hk hne hyields]
    refine ⟨rfl, hothers.trans ?_⟩
    exact List.any_eq_true.mpr ⟨_, place_retired hk hne hfind' hyields, rfl⟩
  · have hroom : (s.demand.roomFor r ns).find x = some y := by rw [roomFor_find he, if_neg hmx, hx]
    have hnot : (s.demand.roomFor r ns).yieldsAt r.cls.rank ns x = false := by
      refine Bool.eq_false_iff.mpr fun hyes => ?_
      obtain ⟨⟨z, hz, hmode, hrank⟩, n, hn, hlist⟩ := (yieldsAt_iff _).mp hyes
      rw [hroom] at hz
      cases hz
      refine hstay.elim (fun hno => ?_) fun hno => hno n hn (roomFor_list_subset he hlist)
      rw [yields_iff.mpr ⟨y, hx, hmode, hrank⟩] at hno
      cases hno
    rw [hdemand, restoreWaits_find, place_find_of_stays hk (ne_new_handle he hk hx) hnot, hroom]
    exact (waitKept_eq_or _ x y).imp (congrArg some) (congrArg some)

end Sys2Proof.Proofs
end

section
/-! PROOFS. The station unit (R124 to R130): the debounce of its buttons, its gestures, and what each
gesture asks of the demand manager. -/
namespace Sys2Proof.Machine
open Sys2Proof
variable {s t u : State}

/-! ### Stations -/

theorem stationOf_setStation_self {n : Nat} {st : Station} (h : s.stationOf n = some st) (st' : Station) :
    (s.setStation n st').stationOf n = some st' := by
  have hset : (s.setStation n st').stationOf n = (s.stationOf n).map fun _ => st' := by
    change nth (setNth s.stations n st') n = _
    rw [nth_setNth, if_pos rfl]
    rfl
  rw [hset, h]
  rfl

theorem stationOf_setStation_ne {n k : Nat} (h : k ≠ n) (st : Station) :
    (s.setStation n st).stationOf k = s.stationOf k := by
  change nth (setNth s.stations n st) k = _
  rw [nth_setNth, if_neg h]
  rfl

theorem stationOf_of_frame {bs : List Block} (h : sameOutside bs s t) (hb : Block.stations ∉ bs)
    (n : Nat) : t.stationOf n = s.stationOf n :=
  congrArg (fun l : List Station => nth l n) (h .stations hb)

/-- What the retirement of records does to a station: it loses its handle where a record of it left the
table (R129). -/
def handleKept (st st' : Station) (gone : Prop) : Prop :=
  ∃ h, st' = { st with handle := h } ∧ (h = st.handle ∨ h = none ∧ gone)

theorem stationGone_stationOf {n : Nat} {st : Station} (h : s.stationOf n = some st)
    (x : DemandRecord × RetireReason) : ∃ st', (s.stationGone x).stationOf n = some st' ∧
      handleKept st st' (x.1.source = .station n) := by
  unfold State.stationGone
  split
  · next k hk =>
    split
    · next stk hstk =>
      by_cases hn : n = k
      · subst hn
        rw [h] at hstk
        cases hstk
        exact ⟨_, stationOf_setStation_self h _, none, rfl, .inr ⟨rfl, hk⟩⟩
      · exact ⟨st, (stationOf_setStation_ne hn _).trans h, st.handle, rfl, .inl rfl⟩
    · exact ⟨st, h, st.handle, rfl, .inl rfl⟩
  · exact ⟨st, h, st.handle, rfl, .inl rfl⟩

theorem foldl_stationGone_stationOf {n : Nat} (xs : List (DemandRecord × RetireReason)) {s : State}
    {st : Station} (h : s.stationOf n = some st) :
    ∃ st', (xs.foldl State.stationGone s).stationOf n = some st' ∧
      handleKept st st' (∃ x ∈ xs, x.1.source = .station n) := by
  induction xs generalizing s st with
  | nil => exact ⟨st, h, st.handle, rfl, .inl rfl⟩
  | cons x xs ih =>
    obtain ⟨st1, h1, hnd1, rfl, hc1⟩ := stationGone_stationOf h x
    obtain ⟨st2, h2, hnd2, rfl, hc2⟩ := ih h1
    refine ⟨_, h2, hnd2, rfl, ?_⟩
    obtain rfl | ⟨rfl, y, hy, hsrc⟩ := hc2
    · exact hc1.imp_right fun ⟨hn, hsrc⟩ => ⟨hn, x, List.mem_cons_self, hsrc⟩
    · exact .inr ⟨rfl, y, List.mem_cons_of_mem _ hy, hsrc⟩

theorem closeOperation_stationOf {n : Nat} {st : Station} (h : s.stationOf n = some st)
    (run : DemandRun) (adjusted : List Nat) :
    ∃ st', (s.closeOperation run adjusted).stationOf n = some st' ∧
      handleKept st st' (∃ x ∈ run.retired, x.1.source = .station n) := by
  obtain ⟨st', hst', hkept⟩ := foldl_stationGone_stationOf run.retired
    (s := s.setDemand run.table.restoreWaits) (n := n) (st := st) h
  refine ⟨st', ?_, hkept⟩
  unfold State.closeOperation State.endOperation
  rw [stationOf_of_frame (tellHeads_frame _ _) (by simp),
    stationOf_of_frame (tellFreezes_frame _ _) (by simp),
    stationOf_of_frame (report_frame _ _ _ _) (by simp), hst']

theorem setStationHandle_stationOf {n : Nat} {st : Station} (h : s.stationOf n = some st)
    (x : Option Handle) : (s.setStationHandle n x).stationOf n = some { st with handle := x } := by
  unfold State.setStationHandle
  rw [h]
  exact stationOf_setStation_self h _

/-! ### A placement that is not refused -/

theorem placeRecord_demand (s : State) (r : DemandRecord) :
    (s.placeRecord r).1.demand = (s.demand.place r (s.store.covered r.target)).1.table.restoreWaits :=
  closeOperation_demand _ _ _

/-- A record placed is named by the handle the placement gives. -/
theorem placeRecord_placed {r : DemandRecord} (hwait : r.waitRemaining = r.waitLimit) {k : Nat}
    (hk : s.demand.placeSlot r (s.store.covered r.target) = some k) :
    ∃ h, (s.placeRecord r).2 = some h ∧ (s.placeRecord r).1.demand.find h = some r := by
  refine ⟨_, DemandTable.place_handle hk, ?_⟩
  rw [placeRecord_demand, DemandTable.restoreWaits_find, DemandTable.place_find_self hk,
    Option.map_some, waitKept_of_full _ _ hwait]

/-- A station's placement that is not refused: its record lives, and the station keeps the handle. -/
theorem stationPlace_of_accepted {n a : Nat} {st : Station} (hst : s.stationOf n = some st)
    (href : s.demand.refusal (stationRecord n (s.store.station n) a)
      (s.store.group (s.store.station n).group) = none) :
    ∃ h, (s.stationPlace n a).stationOf n = some { st with handle := some h } ∧
      (s.stationPlace n a).demand.find h = some (stationRecord n (s.store.station n) a) := by
  set r := stationRecord n (s.store.station n) a with hr
  have hplace : s.stationPlace n a = (s.placeRecord r).1.setStationHandle n (s.placeRecord r).2 := by
    have href' : s.demand.refusal r (s.store.covered r.target) = none := href
    unfold State.stationPlace
    dsimp only
    rw [← hr, href']
  obtain ⟨k, hk⟩ := DemandTable.placeSlot_of_accepted href
  obtain ⟨h, hh, hfind⟩ := placeRecord_placed (s := s) (r := r) rfl hk
  obtain ⟨st1, hst1, hnd, rfl, -⟩ := closeOperation_stationOf hst
    (s.demand.place r (s.store.covered r.target)).1 []
  refine ⟨h, ?_, ?_⟩
  · rw [hplace, hh]
    exact setStationHandle_stationOf (s := (s.placeRecord r).1) hst1 _
  · rw [hplace]
    exact (congrArg (DemandTable.find · h)
      (setStationHandle_frame (s.placeRecord r).1 n _ .demand (by simp))).trans hfind

theorem stationPlace_of_refused {n a : Nat} {why : Status}
    (href : s.demand.refusal (stationRecord n (s.store.station n) a)
      (s.store.group (s.store.station n).group) = some why) :
    s.stationPlace n a = s.report .stationUnit [] [.stationRefused] := by
  have href' : s.demand.refusal (stationRecord n (s.store.station n) a)
      (s.store.covered (stationRecord n (s.store.station n) a).target) = some why := href
  unfold State.stationPlace
  dsimp only
  rw [href']

theorem stationMayAct_iff (s : State) (n : Nat) : s.stationMayAct n = true ↔
    (s.store.station n).enabled = true ∧ s.store.group (s.store.station n).group ≠ [] := by
  simp [State.stationMayAct]

/-! ### Long presses (R127, R128) -/

theorem holdTimerExpiry_eq {n : Nat} {st : Station} (hn : isStation n = true)
    (hst : s.stationOf n = some st) (ht : st.holdTimer.isSome = true) : exec (.holdTimerExpiry n) s =
      let s1 := s.setStation n { st with gesture := .spent, holdTimer := none }
      match st.gesture with
      | .heldOpen => .next (s1.longPress n 1000)
      | .heldClose => .next (s1.longPress n 0)
      | .heldBoth => .next (s1.bothHeld n)
      | .idle => .next s
      | .spent => .next s := by
  change execHoldTimerExpiry n s = _
  unfold execHoldTimerExpiry
  rw [if_pos hn, hst]
  exact if_pos ht

/-- A long press by a station that may act places its record. -/
theorem longPress_of_mayAct {n a : Nat} (h : s.stationMayAct n = true) :
    s.longPress n a = s.stationPlace n a := if_pos h

theorem bothHeld_retires {n : Nat} {st : Station} {h : Handle} {r : DemandRecord}
    (hact : s.stationMayAct n = true) (hst : s.stationOf n = some st) (hh : st.handle = some h)
    (hr : s.demand.find h = some r) : s.bothHeld n = s.retireSlot h.slot .retired := by
  unfold State.bothHeld
  rw [if_pos hact, hst]
  dsimp only
  rw [hh]
  dsimp only
  rw [hr]

/-! ### Buttons and gestures (R124, R125) -/

theorem button_setButton_self (st : Station) (b : ButtonId) (x : Button) :
    (st.setButton b x).button b = x := by
  cases b <;> rfl

theorem button_setButton_ne (st : Station) {b c : ButtonId} (h : c ≠ b) (x : Button) :
    (st.setButton b x).button c = st.button c := by
  cases b with
  | openButton =>
    cases c with
    | openButton => exact absurd rfl h
    | closeButton => rfl
  | closeButton =>
    cases c with
    | openButton => rfl
    | closeButton => exact absurd rfl h

/-- Both buttons are released exactly where the one and the other are. -/
theorem released_iff (st : Station) {b other : ButtonId} (h : other ≠ b) :
    st.openButton.pressed = false ∧ st.closeButton.pressed = false ↔
      (st.button b).pressed = false ∧ (st.button other).pressed = false := by
  cases b with
  | openButton =>
    cases other with
    | openButton => exact absurd rfl h
    | closeButton => exact Iff.rfl
  | closeButton =>
    cases other with
    | openButton => exact and_comm
    | closeButton => exact absurd rfl h

theorem heldBy_ne {b other : ButtonId} (h : other ≠ b) : heldBy other ≠ heldBy b := by
  cases b <;> cases other <;> simp_all [heldBy]

theorem setButton_keeps (st : Station) (b : ButtonId) (x : Button) :
    (st.setButton b x).gesture = st.gesture ∧ (st.setButton b x).holdTimer = st.holdTimer ∧
      (st.setButton b x).handle = st.handle := by
  cases b <;> exact ⟨rfl, rfl, rfl⟩

/-- A gesture moves the machine and its timer and leaves the buttons and the handle. -/
theorem gestureStep_keeps (st : Station) (b : ButtonId) (pressed : Bool) :
    (st.gestureStep b pressed).1 = { st with
      gesture := (st.gestureStep b pressed).1.gesture
      holdTimer := (st.gestureStep b pressed).1.holdTimer } := by
  unfold Station.gestureStep
  split
  · rfl
  · split <;> rfl
  · split <;> rfl
  · split <;> rfl
  · split <;> rfl
  · rfl
  · split <;> rfl
  · rfl
  · rfl
  · rfl

theorem gestureStep_press (st : Station) (b : ButtonId) : (st.gestureStep b true).2 = none := by
  unfold Station.gestureStep
  cases st.gesture with
  | heldOpen => dsimp only; split <;> rfl
  | heldClose => dsimp only; split <;> rfl
  | _ => rfl

theorem gestureStep_press_idle {st : Station} (h : st.gesture = .idle) (b : ButtonId) :
    (st.gestureStep b true).1 = { st with gesture := heldBy b, holdTimer := some 2000 } := by
  unfold Station.gestureStep
  rw [h]

theorem gestureStep_press_other {st : Station} {b other : ButtonId} (ho : other ≠ b)
    (h : st.gesture = heldBy other) :
    (st.gestureStep b true).1 = { st with gesture := .heldBoth, holdTimer := some 2000 } := by
  unfold Station.gestureStep
  rw [h]
  cases other with
  | openButton =>
    cases b with
    | openButton => exact absurd rfl ho
    | closeButton => rfl
  | closeButton =>
    cases b with
    | openButton => rfl
    | closeButton => exact absurd rfl ho

theorem gestureStep_release_held {st : Station} {b : ButtonId} (h : st.gesture = heldBy b) :
    st.gestureStep b false = ({ st with gesture := .idle, holdTimer := none }, some b) := by
  unfold Station.gestureStep
  rw [h]
  cases b <;> rfl

/-- A release other than of the one button held asks nothing of the demand manager. -/
theorem gestureStep_release_none {st : Station} {b : ButtonId} (h : st.gesture ≠ heldBy b) :
    (st.gestureStep b false).2 = none := by
  unfold Station.gestureStep
  cases hg : st.gesture with
  | heldOpen =>
    have hb : b ≠ .openButton := fun hb => h (by rw [hg, hb]; rfl)
    simp only [if_neg hb]
  | heldClose =>
    have hb : b ≠ .closeButton := fun hb => h (by rw [hg, hb]; rfl)
    simp only [if_neg hb]
  | spent => dsimp only; split <;> rfl
  | idle => rfl
  | heldBoth => rfl

theorem gestureStep_release_both {st : Station} (h : st.gesture = .heldBoth) (b : ButtonId) :
    (st.gestureStep b false).1 = { st with gesture := .spent, holdTimer := none } := by
  unfold Station.gestureStep
  rw [h]

theorem gestureStep_release_spent {st : Station} (h : st.gesture = .spent) (b : ButtonId) :
    (st.gestureStep b false).1.gesture =
      if st.openButton.pressed = false ∧ st.closeButton.pressed = false then .idle else .spent := by
  unfold Station.gestureStep
  rw [h]
  dsimp only
  split
  · rfl
  · exact h

theorem gestureStep_release_of_other {st : Station} {b other : ButtonId} (ho : other ≠ b)
    (h : st.gesture = heldBy other) : (st.gestureStep b false).1 = st := by
  unfold Station.gestureStep
  rw [h]
  cases other with
  | openButton => exact congrArg Prod.fst (if_neg (Ne.symm ho))
  | closeButton => exact congrArg Prod.fst (if_neg (Ne.symm ho))

/-! ### A button accepted -/

/-- The station with button `b` accepted in the state its contact has. -/
def Station.accepted (st : Station) (b : ButtonId) : Station :=
  st.setButton b { st.button b with timer := none, pressed := (st.button b).made }

theorem acceptButton_of_changed (s : State) (n : Nat) {b : ButtonId} {st : Station}
    (h : (st.button b).made ≠ (st.button b).pressed) : s.acceptButton n b st =
      match ((st.accepted b).gestureStep b (st.button b).made).2 with
      | some p =>
        (s.setStation n ((st.accepted b).gestureStep b (st.button b).made).1).shortPress n p
      | none => s.setStation n ((st.accepted b).gestureStep b (st.button b).made).1 :=
  (if_neg h).trans rfl

section
variable {n : Nat} {b : ButtonId} {st : Station} (hn : isStation n = true)
  (hst : s.stationOf n = some st) (ht : (st.button b).timer.isSome = true)
include hn hst ht

theorem buttonAcceptance_eq : exec (.buttonAcceptance n b) s = .next (s.acceptButton n b st) := by
  change execButtonAcceptance n b s = _
  unfold execButtonAcceptance
  rw [if_pos hn, hst]
  exact if_pos ht

theorem buttonAcceptance_of_same (h : (st.button b).made = (st.button b).pressed) :
    exec (.buttonAcceptance n b) s =
      .next (s.setStation n (st.setButton b { st.button b with timer := none })) := by
  rw [buttonAcceptance_eq hn hst ht]
  exact congrArg _ (if_pos h)

theorem buttonAcceptance_of_none (h : (st.button b).made ≠ (st.button b).pressed)
    (hg : ((st.accepted b).gestureStep b (st.button b).made).2 = none) :
    exec (.buttonAcceptance n b) s =
      .next (s.setStation n ((st.accepted b).gestureStep b (st.button b).made).1) := by
  rw [buttonAcceptance_eq hn hst ht, acceptButton_of_changed s n h, hg]

theorem buttonAcceptance_of_short {p : ButtonId} (h : (st.button b).made ≠ (st.button b).pressed)
    (hg : ((st.accepted b).gestureStep b (st.button b).made).2 = some p) :
    exec (.buttonAcceptance n b) s =
      .next ((s.setStation n ((st.accepted b).gestureStep b (st.button b).made).1).shortPress n p) := by
  rw [buttonAcceptance_eq hn hst ht, acceptButton_of_changed s n h, hg]

end

theorem accepted_button_self (st : Station) (b : ButtonId) : (st.accepted b).button b =
    { st.button b with timer := none, pressed := (st.button b).made } := button_setButton_self _ _ _

theorem accepted_button_ne (st : Station) {b c : ButtonId} (h : c ≠ b) :
    (st.accepted b).button c = st.button c := button_setButton_ne _ h _

theorem accepted_gesture (st : Station) (b : ButtonId) : (st.accepted b).gesture = st.gesture :=
  (setButton_keeps _ _ _).1

theorem accepted_handle (st : Station) (b : ButtonId) : (st.accepted b).handle = st.handle :=
  (setButton_keeps _ _ _).2.2

theorem gestureStep_button (st : Station) (b c : ButtonId) (pressed : Bool) :
    (st.gestureStep b pressed).1.button c = st.button c := by
  rw [gestureStep_keeps]
  cases c <;> rfl

theorem gestureStep_handle (st : Station) (b : ButtonId) (pressed : Bool) :
    (st.gestureStep b pressed).1.handle = st.handle := by
  rw [gestureStep_keeps]

/-! ### Short presses (R126, R39) -/

/-- The aperture moved by a short press (R126). -/
theorem adjustedAperture_pressDelta (b : ButtonId) (a step : Nat) :
    adjustedAperture a (pressDelta b step) = match b with
      | .openButton => min 1000 (a + step)
      | .closeButton => min 1000 (a - step) := by
  have hfull : (Config.fullAperture : Int) = 1000 := rfl
  rw [adjustedAperture, hfull]
  cases b with
  | openButton =>
    simp only [pressDelta]
    omega
  | closeButton =>
    simp only [pressDelta]
    omega

section
variable {n : Nat} {b : ButtonId} {st : Station} (hst : s.stationOf n = some st)

/-- The aperture a short press places where the station has no record (R126). -/
def State.fallbackAperture (s : State) (n : Nat) (b : ButtonId) : Nat :=
  adjustedAperture ((s.target ((s.store.group (s.store.station n).group).head?.getD 0)).getD 0)
    (pressDelta b (s.store.station n).step)

theorem shortPress_of_idle (h : s.stationMayAct n = false) : s.shortPress n b = s :=
  if_neg (by rw [h]; decide)

theorem shortPress_of_mayAct (h : s.stationMayAct n = true) : s.shortPress n b =
    s.adjustOrPlace n (pressDelta b (s.store.station n).step) (s.fallbackAperture n b) := if_pos h

theorem shortPress_places (h : s.stationMayAct n = true)
    (hm : s.demand.matching (stationRecord n (s.store.station n) 0) = none) :
    s.shortPress n b = s.stationPlace n (s.fallbackAperture n b) := by
  have hm' : s.demand.matching
      (stationRecord n (s.store.station n) (s.fallbackAperture n b)) = none := hm
  rw [shortPress_of_mayAct h]
  unfold State.adjustOrPlace
  dsimp only
  rw [hm']

theorem shortPress_adjusts (h : s.stationMayAct n = true) {k : Nat} {r : DemandRecord}
    (hm : s.demand.matching (stationRecord n (s.store.station n) 0) = some k)
    (hr : s.demand.inSlot k = some r) : s.shortPress n b =
      (s.closeOperation (s.demand.rewrite k { r with
        aperture := r.aperture.map fun a =>
          adjustedAperture a (pressDelta b (s.store.station n).step)
        lifetime := some (s.store.station n).lifetime }).run
        (s.demand.headedBy (s.demand.handleOf k))).setStationHandle n (some (s.demand.handleOf k)) := by
  have hm' : s.demand.matching
      (stationRecord n (s.store.station n) (s.fallbackAperture n b)) = some k := hm
  rw [shortPress_of_mayAct h]
  unfold State.adjustOrPlace
  dsimp only
  rw [hm']
  dsimp only
  rw [hr]

end

/-- A short press changes nothing of the station but its handle. -/
theorem shortPress_stationOf {n : Nat} {st : Station} (hst : s.stationOf n = some st) (b : ButtonId) :
    ∃ h, (s.shortPress n b).stationOf n = some { st with handle := h } := by
  by_cases hact : s.stationMayAct n = true
  · cases hm : s.demand.matching (stationRecord n (s.store.station n) 0) with
    | some k =>
      obtain ⟨r, hr, -⟩ := s.demand.matching_eq_some hm
      rw [shortPress_adjusts hact hm hr]
      obtain ⟨st', hst', h, rfl, -⟩ := closeOperation_stationOf hst (DemandTable.run _) _
      exact ⟨_, setStationHandle_stationOf hst' _⟩
    | none =>
      rw [shortPress_places hact hm]
      cases href : s.demand.refusal (stationRecord n (s.store.station n) (s.fallbackAperture n b))
          (s.store.group (s.store.station n).group) with
      | none =>
        obtain ⟨h, hst', -⟩ := stationPlace_of_accepted hst href
        exact ⟨_, hst'⟩
      | some why =>
        rw [stationPlace_of_refused href]
        exact ⟨st.handle, (stationOf_of_frame (report_frame _ _ _ _) (by simp) n).trans hst⟩
  · rw [shortPress_of_idle (Bool.eq_false_iff.mpr hact)]
    exact ⟨st.handle, hst⟩

/-- What a short press on a living record of the station leaves (R39). -/
theorem shortPress_adjusted {n : Nat} {b : ButtonId} {st : Station} (hst : s.stationOf n = some st)
    (hact : s.stationMayAct n = true) {k : Nat} {r : DemandRecord}
    (hm : s.demand.matching (stationRecord n (s.store.station n) 0) = some k)
    (hr : s.demand.inSlot k = some r) :
    ∃ w, (s.shortPress n b).stationOf n = some { st with handle := some (s.demand.handleOf k) } ∧
      (s.shortPress n b).demand.ages = s.demand.ages ∧
      (s.shortPress n b).demand.lists = s.demand.lists ∧
      (s.shortPress n b).demand.handleOf k = s.demand.handleOf k ∧
      (s.shortPress n b).demand.inSlot k = some { r with
        aperture := r.aperture.map fun a =>
          adjustedAperture a (pressDelta b (s.store.station n).step)
        lifetime := some (s.store.station n).lifetime, waitRemaining := w } := by
  rw [shortPress_adjusts hact hm hr]
  generalize hr' : { r with
    aperture := r.aperture.map fun a => adjustedAperture a (pressDelta b (s.store.station n).step)
    lifetime := some (s.store.station n).lifetime } = r'
  obtain ⟨st', hst', h, rfl, -⟩ := closeOperation_stationOf hst (s.demand.rewrite k r').run
    (s.demand.headedBy (s.demand.handleOf k))
  have hdem : ∀ u : State, ∀ x, (u.setStationHandle n x).demand = u.demand := fun u x =>
    setStationHandle_frame u n x .demand (by simp)
  rw [hdem, closeOperation_demand]
  have hin : (s.demand.rewrite k r').run.table.restoreWaits.inSlot k = some { r' with
      waitRemaining := ((s.demand.rewrite k r').waitKept ((s.demand.rewrite k r').handleOf k)
        r').waitRemaining } := by
    rw [DemandTable.restoreWaits_inSlot, show (s.demand.rewrite k r').run.table.inSlot k = some r' from
      (s.demand.rewrite_inSlot (s.demand.lt_of_inSlot hr) r' k).trans (if_pos rfl), Option.map_some,
      waitKept_keeps]
    rfl
  have hhandle : (s.demand.rewrite k r').run.table.restoreWaits.handleOf k = s.demand.handleOf k :=
    (DemandTable.restoreWaits_handleOf _ _).trans (DemandTable.rewrite_handleOf _ _ _ _)
  subst hr'
  exact ⟨_, setStationHandle_stationOf hst' _, rfl, rfl, hhandle, hin⟩

end Sys2Proof.Machine
namespace Sys2Proof.Proofs
open Sys2Proof.Machine

/-- Settles O47: by the button held, or both. -/
theorem holdTimerActs : Obligations.HoldTimerActs := by
  intro n s st hn hst ht hen hmem
  have hexec := holdTimerExpiry_eq hn hst ht
  set s1 := s.setStation n { st with gesture := .spent, holdTimer := none } with hs1
  have hst1 : s1.stationOf n = _ := stationOf_setStation_self hst _
  have hact : s1.stationMayAct n = true := (stationMayAct_iff s1 n).mpr ⟨hen, hmem⟩
  refine ⟨fun g a hg hgest href => ?_, fun h r hgest hh hr => ?_⟩
  · have hpress : exec (.holdTimerExpiry n) s = .next (s1.stationPlace n a) := by
      rw [hexec, hgest, ← longPress_of_mayAct hact]
      obtain ⟨rfl, rfl⟩ | ⟨rfl, rfl⟩ := hg
      · rfl
      · rfl
    obtain ⟨h, hhandle, hfind⟩ := stationPlace_of_accepted hst1 href
    exact ⟨_, _, h, _, hpress, hhandle, rfl, rfl, rfl, hfind, rfl, rfl, rfl, rfl, rfl⟩
  · have hboth : exec (.holdTimerExpiry n) s = .next (s1.retireSlot h.slot .retired) := by
      rw [hexec, hgest, ← bothHeld_retires hact hst1 hh hr]
    have hself : s.demand.handleOf h.slot = h := s.demand.handleOf_of_find (by rw [hr]; simp)
    obtain ⟨hfree, -, hages, -⟩ := retireSlot_frees (s := s1) (s.demand.inSlot_of_find hr) .retired
    obtain ⟨st', hst', x, rfl, -⟩ := closeOperation_stationOf hst1
      (s1.demand.run.retire h.slot .retired) []
    refine ⟨_, _, hboth, hfree, ?_, hst', rfl⟩
    exact fun hmem => hages ((congrArg (· ∈ _) hself).mpr hmem)

/-- Settles O46: by the contact, and by the gesture the accepted button makes. -/
theorem buttonsDebounced : Obligations.ButtonsDebounced := by
  intro n b other s st hn hst ho
  refine ⟨fun made hm => ?_, fun ht hsame => ?_, fun ht hmade hp => ?_, fun ht hmade hp =>
    ⟨fun hg => ?_, fun hg => ?_⟩⟩
  · have hexec : exec (.buttonContactChange n b made) s = .next (s.setStation n
        (st.setButton b { st.button b with made := made, timer := some 50 })) := by
      change execButtonContactChange n b made s = _
      unfold execButtonContactChange
      rw [if_pos hn, hst]
      exact if_neg (Ne.symm hm)
    exact ⟨_, _, hexec, setStation_frame _ _ _, stationOf_setStation_self hst _,
      button_setButton_self _ _ _, button_setButton_ne _ ho _, (setButton_keeps _ _ _).1⟩
  · exact ⟨_, _, buttonAcceptance_of_same hn hst ht hsame, setStation_frame _ _ _,
      stationOf_setStation_self hst _, button_setButton_self _ _ _, button_setButton_ne _ ho _,
      (setButton_keeps _ _ _).1, (setButton_keeps _ _ _).2.1⟩
  · have hne : (st.button b).made ≠ (st.button b).pressed := by rw [hmade, hp]; decide
    refine ⟨_, _, buttonAcceptance_of_none hn hst ht hne (by rw [hmade]; exact gestureStep_press _ _),
      setStation_frame _ _ _, stationOf_setStation_self hst _, ?_, ?_, ?_, fun hg => ?_, fun hg => ?_⟩
    · rw [gestureStep_button, accepted_button_self]
      exact hmade
    · rw [gestureStep_button, accepted_button_self]
    · rw [gestureStep_button, accepted_button_ne _ ho]
    · rw [hmade, gestureStep_press_idle ((accepted_gesture st b).trans hg)]
      exact ⟨rfl, rfl⟩
    · rw [hmade, gestureStep_press_other ho ((accepted_gesture st b).trans hg)]
      exact ⟨rfl, rfl⟩
  · have hne : (st.button b).made ≠ (st.button b).pressed := by rw [hmade, hp]; decide
    have hg' : (st.accepted b).gesture ≠ heldBy b := by rwa [accepted_gesture]
    have hself := accepted_button_self st b
    have hother := accepted_button_ne st ho
    have hnone : ((st.accepted b).gestureStep b (st.button b).made).2 = none := by
      rw [hmade]
      exact gestureStep_release_none hg'
    refine ⟨_, _, buttonAcceptance_of_none hn hst ht hne hnone, setStation_frame _ _ _,
      stationOf_setStation_self hst _, ?_, ?_, ?_, ?_⟩
    · rw [gestureStep_button, hself]
      exact hmade
    · rw [gestureStep_button, hself]
    · rw [gestureStep_button, hother]
    · rw [hmade]
      refine ⟨fun h => ?_, fun h hrel => ?_, fun h hpr => ?_, fun h => ?_⟩
      · rw [gestureStep_release_both ((accepted_gesture st b).trans h)]
        exact ⟨rfl, rfl⟩
      · rw [gestureStep_release_spent ((accepted_gesture st b).trans h), if_pos]
        rw [released_iff _ ho, hself, hother]
        exact ⟨hmade, hrel⟩
      · rw [gestureStep_release_spent ((accepted_gesture st b).trans h), if_neg]
        rw [released_iff _ ho, hother, hpr]
        simp
      · rw [gestureStep_release_of_other ho ((accepted_gesture st b).trans h), accepted_gesture, h]
  · have hne : (st.button b).made ≠ (st.button b).pressed := by rw [hmade, hp]; decide
    have hstep := gestureStep_release_held ((accepted_gesture st b).trans hg)
    have hexec := buttonAcceptance_of_short (p := b) hn hst ht hne (by rw [hmade, hstep])
    rw [hmade, hstep] at hexec
    intro e members mayAct moved fallback own refused
    set st1 : Station := { st.accepted b with gesture := .idle, holdTimer := none } with hst1def
    set s1 := s.setStation n st1 with hs1
    have hst1 : s1.stationOf n = some st1 := stationOf_setStation_self hst _
    have hbutton : ∀ c, st1.button c = (st.accepted b).button c := fun c => by cases c <;> rfl
    have hmay : s1.stationMayAct n = true ↔ mayAct := stationMayAct_iff s1 n
    have hfallback : s1.fallbackAperture n b = fallback := adjustedAperture_pressDelta _ _ _
    obtain ⟨h, hst'⟩ := shortPress_stationOf hst1 b
    have hbutton' : ∀ c, ({ st1 with handle := h } : Station).button c = st1.button c :=
      fun c => by cases c <;> rfl
    refine ⟨_, _, hexec, hst', ?_, ?_, ?_, rfl, rfl, fun hno => ?_, fun k r a hact hown hr ha => ?_,
      fun hact hown href => ?_, fun why hact hown href => ?_⟩
    · rw [hbutton', hbutton, accepted_button_self]
      exact hmade
    · rw [hbutton', hbutton, accepted_button_self]
    · rw [hbutton', hbutton, accepted_button_ne _ ho]
    · rw [shortPress_of_idle (Bool.eq_false_iff.mpr fun hact => hno (hmay.mp hact))] at hst' ⊢
      have heq := Option.some.inj (hst'.symm.trans hst1)
      exact ⟨setStation_frame _ _ _, (congrArg Station.handle heq).trans (accepted_handle st b)⟩
    · obtain ⟨w, hsta, hages, hlists, hhand, hin⟩ :=
        shortPress_adjusted (b := b) hst1 (hmay.mpr hact) hown hr
      have heq := Option.some.inj (hst'.symm.trans hsta)
      refine ⟨hages, hlists, hhand, congrArg Station.handle heq, _, hin, ?_, rfl, rfl, rfl, rfl, rfl⟩
      change r.aperture.map _ = _
      rw [ha, Option.map_some, adjustedAperture_pressDelta]
      rfl
    · rw [shortPress_places (hmay.mpr hact) hown] at hst' ⊢
      obtain ⟨h', hsta, hfind⟩ := stationPlace_of_accepted hst1 (a := s1.fallbackAperture n b) href
      have heq := Option.some.inj (hst'.symm.trans hsta)
      exact ⟨h', _, congrArg Station.handle heq, hfind, rfl, rfl, rfl, congrArg some hfallback, rfl, rfl⟩
    · rw [shortPress_places (hmay.mpr hact) hown] at hst' ⊢
      rw [stationPlace_of_refused (s := s1) (a := s1.fallbackAperture n b) href] at hst' ⊢
      rw [stationOf_of_frame (report_frame _ _ _ _) (by simp), hst1] at hst'
      have heq := Option.some.inj hst'
      exact ⟨report_frame _ _ _ _ .demand (by simp),
        (congrArg Station.handle heq.symm).trans (accepted_handle st b), report_mail _ _ _ _⟩

end Sys2Proof.Proofs
end

section
/-! PROOFS. Evictions (R34, R35): the record that makes room, and the records no eviction takes; and the
fireman switches (R114, R115). -/
namespace Sys2Proof.Machine
open Sys2Proof
variable {s t u : State}

namespace DemandTable
variable (d : DemandTable)

/-! ### The victim -/

/-- One step of the search for the oldest record of the lowest rank. -/
def lower (best : Option Handle) (h : Handle) : Option Handle :=
  match best with
  | none => some h
  | some b => if d.rankAt h < d.rankAt b then some h else some b

theorem victim_eq (hs : List Handle) : d.victim hs =
    (hs.filter fun h => d.rankAt h < DemandClass.smoke.rank).foldl d.lower none := rfl

theorem foldl_lower_mem (l : List Handle) (best : Option Handle) {h : Handle}
    (hf : l.foldl d.lower best = some h) : h ∈ l ∨ best = some h := by
  induction l generalizing best with
  | nil => exact .inr hf
  | cons a l ih =>
    obtain hmem | hbest := ih _ hf
    · exact .inl (List.mem_cons_of_mem _ hmem)
    · cases best with
      | none =>
        cases hbest
        exact .inl List.mem_cons_self
      | some b =>
        simp only [lower] at hbest
        split at hbest
        · cases hbest
          exact .inl List.mem_cons_self
        · exact .inr hbest

/-- A victim is one of the handles searched, of a rank below SMOKE. -/
theorem victim_mem {hs : List Handle} {h : Handle} (hv : d.victim hs = some h) :
    h ∈ hs ∧ d.rankAt h < 5 := by
  obtain hmem | hnone := d.foldl_lower_mem _ _ hv
  · obtain ⟨hin, hrank⟩ := List.mem_filter.mp hmem
    exact ⟨hin, of_decide_eq_true hrank⟩
  · cases hnone

theorem foldl_lower_stays {v : Handle} (l : List Handle) (h : ∀ u ∈ l, d.rankAt v ≤ d.rankAt u) :
    l.foldl d.lower (some v) = some v := by
  induction l with
  | nil => rfl
  | cons a l ih =>
    rw [List.foldl_cons, show d.lower (some v) a = some v from
      if_neg (Nat.not_lt.mpr (h a List.mem_cons_self))]
    exact ih fun u hu => h u (List.mem_cons_of_mem _ hu)

/-- The search finds the oldest of the lowest rank. -/
theorem victim_of_isVictim {hs : List Handle} {v : Handle} {y : DemandRecord}
    (h : isVictim d hs v y) : d.victim hs = some v := by
  obtain ⟨hfind, hrank, older, younger, rfl, holder, hyounger⟩ := h
  have hv : d.rankAt v = y.cls.rank := by rw [rankAt, hfind]
  have hstep : ∀ best, (∀ b, best = some b → d.rankAt v < d.rankAt b) →
      d.lower best v = some v := fun best hbest => by
    cases best with
    | none => rfl
    | some b => exact if_pos (hbest b rfl)
  rw [victim_eq, List.filter_append, List.filter_cons_of_pos (by rw [hv]; exact decide_eq_true hrank),
    List.foldl_append, List.foldl_cons, hstep]
  · exact d.foldl_lower_stays _ fun u hu => by
      rw [hv]
      exact hyounger u (List.mem_filter.mp hu).1
  · intro b hb
    obtain hmem | hnone := d.foldl_lower_mem _ _ hb
    · rw [hv]
      exact holder b (List.mem_filter.mp hmem).1
    · cases hnone

/-! ### What an eviction spares -/

/-- Evictions from `d` to `d'`: the listed handles live on, and so do the records of SMOKE and above. -/
def sparesFire (d d' : DemandTable) : Prop :=
  handlesLive d → handlesLive d' ∧ ∀ x y, d.find x = some y → 5 ≤ y.cls.rank → d'.find x = some y

theorem sparesFire.refl : sparesFire d d := fun h => ⟨h, fun _ _ hx _ => hx⟩

theorem sparesFire.trans {d d' d'' : DemandTable} (h : sparesFire d d') (h' : sparesFire d' d'') :
    sparesFire d d'' := fun hl =>
  ⟨(h' (h hl).1).1, fun x y hx hr => (h' (h hl).1).2 x y ((h hl).2 x y hx hr) hr⟩

end DemandTable

namespace DemandRun
variable (run : DemandRun)

/-- The eviction of a victim among the aged handles spares SMOKE and above. -/
theorem retire_victim_sparesFire {hs : List Handle} {h : Handle} (hsub : ∀ x ∈ hs, x ∈ run.table.ages)
    (hv : run.table.victim hs = some h) (reason : RetireReason) :
    DemandTable.sparesFire run.table (run.retire h.slot reason).table := fun hl => by
  refine ⟨retire_handlesLive run _ _ hl, fun x y hx hr => ?_⟩
  obtain ⟨hmem, hrank⟩ := run.table.victim_mem hv
  have hlive := (run.table.handlesLive_iff.mp hl).1 h (hsub h hmem)
  rw [retire_find, if_neg, hx]
  intro hslot
  have hxh : x = h := by
    rw [← run.table.handleOf_of_find (h := x) (by rw [hx]; simp), hslot,
      run.table.handleOf_of_find hlive]
  rw [DemandTable.rankAt, ← hxh, hx] at hrank
  exact absurd hr (Nat.not_le.mpr hrank)

theorem evictFromTable_sparesFire : DemandTable.sparesFire run.table run.evictFromTable.table := by
  unfold evictFromTable
  split
  · next h hv => exact retire_victim_sparesFire run (fun _ hx => hx) hv _
  · exact .refl _

theorem relieve_sparesFire (n : Nat) : DemandTable.sparesFire run.table (run.relieve n).table := by
  unfold relieve
  split
  · split
    · next h hv => exact retire_victim_sparesFire run (fun _ hx => (List.mem_filter.mp hx).1) hv _
    · exact .refl _
  · exact .refl _

theorem foldl_relieve_sparesFire (ns : List Nat) :
    DemandTable.sparesFire run.table (ns.foldl DemandRun.relieve run).table := by
  induction ns generalizing run with
  | nil => exact .refl _
  | cons n ns ih => exact (relieve_sparesFire run n).trans (ih _)

end DemandRun

namespace DemandTable
variable {d : DemandTable}

/-- The room made for a placement keeps every record of SMOKE and above but the one replaced. -/
theorem roomFor_keeps (hl : handlesLive d) {r : DemandRecord} (ns : List Nat) {x : Handle}
    {y : DemandRecord} (hx : d.find x = some y) (hr : 5 ≤ y.cls.rank)
    (hm : d.matching r ≠ some x.slot) : (d.roomFor r ns).find x = some y := by
  have relieved : ∀ run : DemandRun, handlesLive run.table → run.table.find x = some y →
      (if r.source.evicts then ns.foldl DemandRun.relieve run else run).table.find x = some y :=
    fun run hrl hrx => by
      split
      · exact (DemandRun.foldl_relieve_sparesFire run ns hrl).2 x y hrx hr
      · exact hrx
  unfold roomFor DemandRun.makeRoom
  refine relieved _ ?_ ?_
  · split
    · exact DemandRun.retire_handlesLive _ _ _ hl
    · split
      · exact (DemandRun.evictFromTable_sparesFire _ hl).1
      · exact hl
  · split
    · next k hk =>
      rw [DemandRun.retire_find, if_neg fun h => hm (hk.trans (congrArg some h.symm))]
      exact hx
    · split
      · exact (DemandRun.evictFromTable_sparesFire _ hl).2 x y hx hr
      · exact hx

/-- A record of SMOKE and above that holds stays through a placement that does not replace it. -/
theorem place_keeps (hl : handlesLive d) {r : DemandRecord} {ns : List Nat} {k : Nat}
    (hk : d.placeSlot r ns = some k) {x : Handle} {y : DemandRecord} (hx : d.find x = some y)
    (hr : 5 ≤ y.cls.rank) (hmode : y.mode = .hold) (hm : d.matching r ≠ some x.slot) :
    (d.place r ns).1.table.find x = some y := by
  have hroom := roomFor_keeps hl ns hx hr hm
  have hne : x ≠ (d.roomFor r ns).handleOf k := by
    rintro rfl
    rw [find_handleOf, (roomFor_free hk).2] at hroom
    cases hroom
  rw [place_find_of_stays hk hne ?_, hroom]
  refine Bool.eq_false_iff.mpr fun hy => ?_
  obtain ⟨⟨z, hz, hzm, -⟩, -⟩ := (yieldsAt_iff _).mp hy
  rw [hroom] at hz
  cases hz
  rw [hmode] at hzm
  cases hzm

/-! ### A placement that finds a free slot -/

theorem roomFor_slots_length (d : DemandTable) (r : DemandRecord) (ns : List Nat) :
    (d.roomFor r ns).slots.length = d.slots.length := by
  obtain ⟨xs, hxs, -⟩ := d.run.makeRoom_eq r ns
  rw [roomFor, hxs, DemandRun.retireEach_slots_length]
  rfl

theorem roomFor_inSlot_none (r : DemandRecord) (ns : List Nat) {k : Nat} (h : d.inSlot k = none) :
    (d.roomFor r ns).inSlot k = none := by
  obtain ⟨xs, hxs, -⟩ := d.run.makeRoom_eq r ns
  rw [roomFor, hxs, DemandRun.retireEach_inSlot]
  split
  · rfl
  · exact h

/-- Where a slot is free a placement takes one. -/
theorem placeSlot_of_freeSlot (r : DemandRecord) (ns : List Nat) (h : d.freeSlot ≠ none) :
    ∃ k, d.placeSlot r ns = some k := by
  unfold placeSlot
  split
  · exact ⟨_, rfl⟩
  · obtain ⟨k, hk⟩ := Option.ne_none_iff_exists'.mp h
    obtain ⟨hlt, hnone⟩ := d.freeSlot_eq_some hk
    refine Option.ne_none_iff_exists'.mp ((d.roomFor r ns).freeSlot_ne_none (k := k) ?_ ?_)
    · rwa [roomFor_slots_length]
    · exact roomFor_inSlot_none r ns hnone

theorem count_eq (d : DemandTable) : d.count = d.usedSlots.length := by
  rw [count, usedSlots, ← List.countP_eq_length_filter,
    ← countP_places (fun sl : Slot => sl.record.isSome)]
  refine List.countP_congr fun k _ => ?_
  unfold inSlot
  cases d.slots[k]? <;> simp

theorem freeSlot_of_count (h : d.count < d.slots.length) : d.freeSlot ≠ none := by
  by_contra hnone
  have hall : ∀ k ∈ List.range d.slots.length, (d.inSlot k).isSome = true := fun k hk => by
    simpa [Option.isSome_iff_ne_none] using List.find?_eq_none.mp hnone k hk
  have hcount : d.usedSlots.length = d.slots.length := by
    unfold usedSlots
    rw [List.filter_eq_self.mpr hall, List.length_range]
  rw [count_eq, hcount] at h
  exact Nat.lt_irrefl _ h

theorem usedSlots_nodup (d : DemandTable) : d.usedSlots.Nodup := List.nodup_range.filter _

/-- A table whose used slots were used before, but for one, counts at most one record more. -/
theorem count_le_succ {d' : DemandTable} (k : Nat)
    (h : ∀ j, d'.inSlot j ≠ none → j = k ∨ d.inSlot j ≠ none) : d'.count ≤ d.count + 1 := by
  rw [count_eq, count_eq]
  have hsub : d'.usedSlots ⊆ k :: d.usedSlots := fun j hj => by
    rw [List.mem_cons, d.mem_usedSlots]
    exact h j (d'.mem_usedSlots.mp hj)
  exact (List.subperm_of_subset d'.usedSlots_nodup hsub).length_le

theorem roomFor_inSlot_of_some (r : DemandRecord) (ns : List Nat) {j : Nat}
    (h : (d.roomFor r ns).inSlot j ≠ none) : d.inSlot j ≠ none := fun hn =>
  h (roomFor_inSlot_none r ns hn)

/-- A placement counts at most one record more. -/
theorem place_count_le {r : DemandRecord} {ns : List Nat} {k : Nat} (hk : d.placeSlot r ns = some k) :
    (d.place r ns).1.table.count ≤ d.count + 1 := by
  refine count_le_succ k fun j hj => ?_
  rw [place_eq hk, DemandRun.retireEach_inSlot] at hj
  split at hj
  · exact absurd rfl hj
  · have hin : (d.placedIn r ns k).inSlot j = _ := install_inSlot _ (roomFor_free hk).1 r ns j
    by_cases hjk : j = k
    · exact .inl hjk
    · rw [hin, if_neg hjk] at hj
      exact .inr (roomFor_inSlot_of_some r ns hj)

theorem place_slots_length {r : DemandRecord} {ns : List Nat} {k : Nat}
    (hk : d.placeSlot r ns = some k) : (d.place r ns).1.table.slots.length = d.slots.length := by
  rw [place_eq hk, DemandRun.retireEach_slots_length]
  exact (install_slots_length _ _ _ _).trans (roomFor_slots_length d r ns)

theorem restoreWaits_count (d : DemandTable) : d.restoreWaits.count = d.count := by
  rw [count_eq, count_eq]
  simp only [usedSlots, restoreWaits_slots_length, restoreWaits_inSlot, Option.isSome_map]

/-! ### A placement that evicts -/

theorem foldl_relieve_eq (ns : List Nat) (run : DemandRun) :
    ∃ xs, ns.foldl DemandRun.relieve run = run.retireEach xs := by
  induction ns generalizing run with
  | nil => exact ⟨[], rfl⟩
  | cons n ns ih =>
    obtain ⟨xs, hxs⟩ : ∃ xs, run.relieve n = run.retireEach xs := by
      unfold DemandRun.relieve
      split
      · split
        · exact ⟨[(_, .evicted)], rfl⟩
        · exact ⟨[], rfl⟩
      · exact ⟨[], rfl⟩
    obtain ⟨ys, hys⟩ := ih (run.relieve n)
    exact ⟨xs ++ ys, by rw [List.foldl_cons, hys, hxs, DemandRun.retireEach_append]⟩

section
variable {r : DemandRecord} {ns : List Nat} (he : r.source.evicts = true) (hm : d.matching r = none)
  {v : Handle} {y : DemandRecord}
include he hm

/-- With no slot free the victim of the table is evicted, and lists may be relieved after (R34). -/
theorem makeRoom_of_full (hfree : d.freeSlot = none) (hv : isVictim d d.ages v y) :
    ∃ xs, d.run.makeRoom r ns = (d.run.retire v.slot .evicted).retireEach xs := by
  have hevict : d.run.evictFromTable = d.run.retire v.slot .evicted := by
    unfold DemandRun.evictFromTable
    rw [show d.run.table.victim d.run.table.ages = some v from d.victim_of_isVictim hv]
  obtain ⟨xs, hxs⟩ := foldl_relieve_eq ns (d.run.retire v.slot .evicted)
  refine ⟨xs, ?_⟩
  unfold DemandRun.makeRoom
  rw [show d.run.table.matching r = none from hm, show d.run.table.freeSlot = none from hfree, he]
  simp only [Option.isNone_none, Bool.and_self, if_true]
  rw [hevict, hxs]

/-- With a slot free and one list full the victim of that list is evicted (R35). -/
theorem makeRoom_of_fullList {n : Nat} (hfree : d.freeSlot ≠ none) (hlen : 8 ≤ (d.list n).length)
    (hv : isVictim d (d.ages.filter fun u => (d.list n).contains u) v y) :
    d.run.makeRoom r [n] = d.run.retire v.slot .evicted := by
  have hrelieve : d.run.relieve n = d.run.retire v.slot .evicted := by
    unfold DemandRun.relieve
    rw [if_pos (show Config.listMax ≤ (d.run.table.list n).length from hlen),
      show d.run.table.victim (d.run.table.ages.filter fun h => (d.run.table.list n).contains h) = some v
        from d.victim_of_isVictim hv]
  unfold DemandRun.makeRoom
  rw [show d.run.table.matching r = none from hm, he,
    Option.isNone_eq_false_iff.mpr (Option.isSome_iff_ne_none.mpr
      (show d.run.table.freeSlot ≠ none from hfree))]
  simp only [Bool.and_false, Bool.false_eq_true, if_false, if_true, List.foldl_cons, List.foldl_nil]
  exact hrelieve

end

section
variable {r : DemandRecord} {ns : List Nat} {k : Nat} {v : Handle} {y : DemandRecord}
  {xs : List (Nat × RetireReason)}
  (hroom : d.run.makeRoom r ns = (d.run.retire v.slot .evicted).retireEach xs)
  (hv : d.find v = some y)
include hroom hv

/-- The slot of a record evicted is free once room is made. -/
theorem roomFor_victim_free : v.slot < (d.roomFor r ns).slots.length ∧
    (d.roomFor r ns).inSlot v.slot = none := by
  constructor
  · rw [roomFor_slots_length]
    exact d.lt_of_inSlot (d.inSlot_of_find hv)
  · rw [roomFor, hroom, DemandRun.retireEach_inSlot, DemandRun.retire_inSlot]
    simp

theorem placeSlot_of_evicted (hm : d.matching r = none) : ∃ k, d.placeSlot r ns = some k := by
  obtain ⟨hlt, hnone⟩ := roomFor_victim_free hroom hv
  unfold placeSlot
  rw [hm]
  exact Option.ne_none_iff_exists'.mp ((d.roomFor r ns).freeSlot_ne_none hlt hnone)

/-- The evicted record's handle names nothing after the placement. -/
theorem place_find_evicted (hk : d.placeSlot r ns = some k) :
    (d.place r ns).1.table.find v = none := by
  have hin := d.inSlot_of_find hv
  have hroomfind : (d.roomFor r ns).find v = none := find_of_inSlot_eq_none _
    (roomFor_victim_free hroom hv).2
  have hne : v ≠ (d.roomFor r ns).handleOf k := by
    intro hvk
    have hslot : v.slot = k := by rw [hvk, handleOf_slot]
    have hhandle : (d.roomFor r ns).handleOf v.slot =
        { slot := v.slot, gen := (d.handleOf v.slot).gen + 1 } := by
      rw [roomFor, hroom]
      exact DemandRun.retireEach_handleOf_self d.run ((v.slot, .evicted) :: xs) hin
        List.mem_cons_self
    rw [← hslot, hhandle, d.handleOf_of_find (h := v) (by rw [hv]; simp)] at hvk
    exact (by bv_omega : ∀ g : Byte, g ≠ g + 1) _ (congrArg Handle.gen hvk)
  rw [place_find hk]
  split
  · rfl
  · rw [placedIn_find hk, if_neg hne, hroomfind]

theorem place_retired_evicted (hk : d.placeSlot r ns = some k) :
    (y, RetireReason.evicted) ∈ (d.place r ns).1.retired := by
  rw [place_eq hk]
  refine DemandRun.retireEach_retired_mono _ _ ?_
  change _ ∈ (d.run.makeRoom r ns).retired
  rw [hroom]
  refine DemandRun.retireEach_retired_mono _ _ ?_
  rw [DemandRun.retire_of_some _ _ _ (d.inSlot_of_find hv)]
  exact List.mem_append_right _ (List.mem_singleton_self _)

end

theorem rankAt_le (d : DemandTable) (h : Handle) : d.rankAt h ≤ 6 := by
  unfold rankAt
  split
  · next y _ => cases y.cls <;> decide
  · exact Nat.zero_le _

/-- A FIREMAN record heads the list of every opening it covers. -/
theorem place_head_fireman {r : DemandRecord} {ns : List Nat} {k : Nat} (hc : r.cls = .fireman)
    (hk : d.placeSlot r ns = some k) {n : Nat} (hn : n ∈ ns) (hlist : (nth d.lists n).isSome = true) :
    (d.place r ns).1.table.head n = some ((d.roomFor r ns).handleOf k) := by
  have hroom : (nth (d.roomFor r ns).lists n).isSome = true := by
    rw [nth_isSome_iff, roomFor_lists_length, ← nth_isSome_iff]
    exact hlist
  have hfront : ∀ l, (d.roomFor r ns).insertIn .fireman ((d.roomFor r ns).handleOf k) l =
      (d.roomFor r ns).handleOf k :: l := fun l => by
    have hnone : ∀ x, aheadOfNew .fireman ((d.roomFor r ns).rankAt x) = false := fun x =>
      decide_eq_false (Nat.not_lt.mpr (rankAt_le _ x))
    cases l with
    | nil => rfl
    | cons a l => simp [insertIn, hnone]
  rw [head, place_list hk, placedIn_list, if_pos ⟨hn, hroom⟩, hc, hfront, ← hc,
    List.filter_cons_of_pos (by rw [not_placedIn_yieldsAt_self hk]; rfl)]
  rfl

end DemandTable

/-! ### A record placed by a switch or a scenario -/

theorem placeRecord_evicted {r : DemandRecord} {v : Handle} {y : DemandRecord}
    {xs : List (Nat × RetireReason)} (hm : s.demand.matching r = none)
    (hroom : s.demand.run.makeRoom r (s.store.covered r.target) =
      (s.demand.run.retire v.slot .evicted).retireEach xs)
    (hv : s.demand.find v = some y) :
    ∃ k, s.demand.placeSlot r (s.store.covered r.target) = some k ∧
      retiredAndReported (s.placeRecord r).1 v y := by
  obtain ⟨k, hk⟩ := DemandTable.placeSlot_of_evicted hroom hv hm
  refine ⟨k, hk, ?_, fun m c hsrc hmc => ?_⟩
  · rw [placeRecord_demand, DemandTable.restoreWaits_find,
      DemandTable.place_find_evicted hroom hv hk]
    rfl
  · exact closeOperation_dropped (DemandTable.place_retired_evicted hroom hv hk)
      (droppedEvent_of_supervisor hsrc hmc rfl)

/-! ### Switches (R114, R115) -/

theorem switchAcceptance_eq {z : Nat} {r : Zone} (hz : isZone z = true) (hr : s.zone z = some r)
    (ht : r.switchTimer.isSome = true) :
    exec (.switchAcceptance z) s = .next (s.acceptSwitch z r) := by
  change execSwitchAcceptance z s = _
  unfold execSwitchAcceptance
  rw [if_pos hz, hr]
  exact if_pos ht

theorem acceptSwitch_of_kept {z : Nat} {r : Zone}
    (h : switchReading r.openMade r.closeMade = .invalid ∨
      switchReading r.openMade r.closeMade = r.switchPos) :
    s.acceptSwitch z r = s.setZone z { r with switchTimer := none } := if_pos h

theorem acceptSwitch_of_new {z : Nat} {r : Zone} {p : SwitchPos}
    (hp : switchReading r.openMade r.closeMade = p) (hi : p ≠ .invalid) (hne : r.switchPos ≠ p) :
    s.acceptSwitch z r =
      ((s.setZone z { r with switchTimer := none, switchPos := p }).actOnSwitch z p).endFireEvent s [z] := by
  subst hp
  exact if_neg fun h => h.elim hi fun h => hne h.symm

theorem endFireEvent_demand (s before : State) (zs : List Nat) :
    (s.endFireEvent before zs).demand = s.demand := endFireEvent_frame s before zs .demand (by simp)

/-- The zone a switch event leaves: its position and timer taken, its lamps evaluated. -/
theorem switchEvent_zone {z : Nat} {r : Zone} (hr : s.zone z = some r) (p : SwitchPos) :
    ∃ r', (((s.setZone z { r with switchTimer := none, switchPos := p }).actOnSwitch z p).endFireEvent s
      [z]).zone z = some r' ∧ r'.switchPos = p ∧ r'.switchTimer = none := by
  have hacted : ((s.setZone z { r with switchTimer := none, switchPos := p }).actOnSwitch z p).zone z =
      some { r with switchTimer := none, switchPos := p } :=
    (zone_of_frame (actOnSwitch_frame _ z p) (by simp) z).trans (zone_setZone_self hr _)
  rw [endFireEvent_zone]
  obtain ⟨a, b, hlamps⟩ := evalLamps_zone hacted z
  exact ⟨_, hlamps, rfl, rfl⟩

theorem retireSource_inSlot {src : Source} {k : Nat} {x : DemandRecord}
    (h : (s.retireSource src).demand.inSlot k = some x) : x.source ≠ src := by
  rw [show (s.retireSource src).demand = _ from closeOperation_demand _ _ _,
    DemandTable.restoreWaits_inSlot, DemandRun.retireAll_eq, DemandRun.retireEach_inSlot] at h
  split at h
  · cases h
  · next hmem =>
    obtain ⟨y, hy, rfl⟩ := Option.map_eq_some_iff.mp h
    rw [waitKept_keeps]
    intro hsrc
    refine hmem ?_
    rw [List.map_map]
    exact List.mem_map.mpr ⟨k, mem_slotsOf.mpr ⟨y, hy, hsrc⟩, rfl⟩

theorem freeSlot_matching_none {z a : Nat}
    (h : ∀ k x, s.demand.inSlot k = some x → x.source ≠ .fireman z) :
    s.demand.matching (firemanRecord z a) = none := by
  by_contra hne
  obtain ⟨k, hk⟩ := Option.ne_none_iff_exists'.mp hne
  obtain ⟨x, hx, hsrc, -⟩ := s.demand.matching_eq_some hk
  exact h k x hx hsrc

/-- The switch's command places the zone's FIREMAN record for either position. -/
theorem switchAcceptance_places {z a : Nat} {p : SwitchPos} {r : Zone} (hz : isZone z = true)
    (hr : s.zone z = some r) (ht : r.switchTimer.isSome = true)
    (hp : (p = .openPos ∧ a = 1000 ∧ r.openMade = true ∧ r.closeMade = false) ∨
      (p = .closePos ∧ a = 0 ∧ r.openMade = false ∧ r.closeMade = true)) (hne : r.switchPos ≠ p) :
    ∃ s1 : State, s1.demand = s.demand ∧ s1.store = s.store ∧
      exec (.switchAcceptance z) s =
        .next ((s1.placeRecord (firemanRecord z a)).1.endFireEvent s [z]) ∧
      ∃ r' : Zone, ((s1.placeRecord (firemanRecord z a)).1.endFireEvent s [z]).zone z = some r' ∧
        r'.switchPos = p ∧ r'.switchTimer = none := by
  refine ⟨s.setZone z { r with switchTimer := none, switchPos := p }, rfl, rfl, ?_⟩
  have hzone := switchEvent_zone hr p
  rw [switchAcceptance_eq hz hr ht]
  obtain ⟨rfl, rfl, ho, hc⟩ | ⟨rfl, rfl, ho, hc⟩ := hp
  · rw [acceptSwitch_of_new (by rw [ho, hc]; rfl) (by decide) hne]
    exact ⟨rfl, hzone⟩
  · rw [acceptSwitch_of_new (by rw [ho, hc]; rfl) (by decide) hne]
    exact ⟨rfl, hzone⟩

theorem endFireEvent_retiredAndReported {before : State} {zs : List Nat} {v : Handle} {y : DemandRecord}
    (h : retiredAndReported s v y) : retiredAndReported (s.endFireEvent before zs) v y := by
  obtain ⟨hgone, hrep⟩ := h
  refine ⟨by rw [endFireEvent_demand, hgone], fun m c hsrc hm => ?_⟩
  obtain ⟨x, hx, hown, hc⟩ := hrep m c hsrc hm
  exact ⟨x, (AddsReports.endFireEvent (P := fun _ => True) (fun _ _ _ => trivial) _ _ _).mem hx,
    hown, hc⟩

theorem mem_zoneOpenings_bounds {st : Store} {z n : Nat} (h : n ∈ st.zoneOpenings z) :
    1 ≤ n ∧ n ≤ 48 := (mem_openingNumbers n).mp (List.mem_filter.mp h).1

/-- The FIREMAN record lives and heads the list of each of the zone's openings. -/
theorem placeRecord_heads {z a k : Nat}
    (hk : s.demand.placeSlot (firemanRecord z a) (s.store.zoneOpenings z) = some k) :
    ∃ h, (s.placeRecord (firemanRecord z a)).1.demand.find h = some (firemanRecord z a) ∧
      (s.demand.lists.length = 48 → ∀ n ∈ s.store.zoneOpenings z,
        (s.placeRecord (firemanRecord z a)).1.demand.head n = some h) := by
  refine ⟨(s.demand.roomFor (firemanRecord z a) (s.store.zoneOpenings z)).handleOf k, ?_,
    fun hlen n hn => ?_⟩
  · obtain ⟨h, hh, hfind⟩ := placeRecord_placed (s := s) (r := firemanRecord z a) rfl hk
    have hhandle := DemandTable.place_handle hk
    rw [show (s.placeRecord (firemanRecord z a)).2 =
      (s.demand.place (firemanRecord z a) (s.store.zoneOpenings z)).2 from rfl, hhandle] at hh
    rwa [Option.some.inj hh]
  · rw [placeRecord_demand]
    refine DemandTable.place_head_fireman rfl hk hn ((nth_isSome_iff _ _).mpr ?_)
    rw [hlen]
    exact mem_zoneOpenings_bounds hn

/-- The aperture a switch position asks for. -/
theorem switch_aperture {p : SwitchPos} {r : Zone}
    (h : (p = .openPos ∧ r.openMade = true ∧ r.closeMade = false) ∨
      (p = .closePos ∧ r.openMade = false ∧ r.closeMade = true)) :
    ∃ a, (p = .openPos ∧ a = 1000 ∧ r.openMade = true ∧ r.closeMade = false) ∨
      (p = .closePos ∧ a = 0 ∧ r.openMade = false ∧ r.closeMade = true) := by
  obtain ⟨hp, ho, hc⟩ | ⟨hp, ho, hc⟩ := h
  · exact ⟨1000, .inl ⟨hp, rfl, ho, hc⟩⟩
  · exact ⟨0, .inr ⟨hp, rfl, ho, hc⟩⟩

end Sys2Proof.Machine
namespace Sys2Proof.Proofs
open Sys2Proof.Machine

/-- Settles O45, by the reading; with no room by what is full. -/
theorem switchAcceptanceActs : Obligations.SwitchAcceptanceActs := by
  intro z s r hz hr ht
  refine ⟨fun p a hp hne hfree => ?_, fun p hp hne hno => ⟨fun v y hfull hv => ?_,
    fun n v y hfree hlen hone hlist hv => ?_⟩, fun ho hc hne => ?_, fun ho hc => ?_⟩
  · obtain ⟨s1, hd, hst, hexec, r', hzone, hpos, htimer⟩ := switchAcceptance_places hz hr ht hp hne
    rw [← hd] at hfree
    obtain ⟨k, hk⟩ := DemandTable.placeSlot_of_freeSlot (firemanRecord z a) (s1.store.zoneOpenings z)
      hfree
    obtain ⟨h, hfind, hheads⟩ := placeRecord_heads hk
    rw [hd, hst] at hheads
    refine ⟨_, r', h, firemanRecord z a, hexec, hzone, hpos, htimer, ?_, rfl, rfl, rfl, rfl, rfl, rfl, fun hlen n hn => ?_⟩
    · rw [endFireEvent_demand, hfind]
    · rw [endFireEvent_demand, hheads hlen n hn]
  · obtain ⟨a, ha⟩ := switch_aperture hp
    obtain ⟨s1, hd, hst, hexec, -⟩ := switchAcceptance_places hz hr ht ha hne
    rw [← hd] at hfull hv hno
    have hm := freeSlot_matching_none (a := a) hno
    obtain ⟨xs, hroom⟩ := DemandTable.makeRoom_of_full (r := firemanRecord z a)
      (ns := s1.store.zoneOpenings z) rfl hm hfull hv
    obtain ⟨k, hk, hret⟩ := placeRecord_evicted hm hroom hv.1
    obtain ⟨h, hfind, -⟩ := placeRecord_heads hk
    refine ⟨_, h, firemanRecord z a, hexec, endFireEvent_retiredAndReported hret, ?_, rfl, rfl⟩
    rw [endFireEvent_demand, hfind]
  · obtain ⟨a, ha⟩ := switch_aperture hp
    obtain ⟨s1, hd, hst, hexec, -⟩ := switchAcceptance_places hz hr ht ha hne
    rw [← hd] at hfree hv hno hlist hlen
    rw [← hst] at hone
    have hm := freeSlot_matching_none (a := a) hno
    have hroom : s1.demand.run.makeRoom (firemanRecord z a) (s1.store.zoneOpenings z) =
        (s1.demand.run.retire v.slot .evicted).retireEach [] := by
      rw [hone]
      exact DemandTable.makeRoom_of_fullList rfl hm hfree hlist hv
    obtain ⟨k, hk, hret⟩ := placeRecord_evicted hm hroom hv.1
    obtain ⟨h, hfind, hheads⟩ := placeRecord_heads hk
    refine ⟨_, h, firemanRecord z a, hexec, endFireEvent_retiredAndReported hret, ?_, rfl, ?_⟩
    · rw [endFireEvent_demand, hfind]
    · rw [endFireEvent_demand]
      exact hheads hlen n (hone ▸ List.mem_singleton_self n)
  · obtain ⟨r', hzone, hpos, htimer⟩ := switchEvent_zone hr .auto
    refine ⟨_, r', ?_, hzone, hpos, htimer, fun k x hx => ?_⟩
    · rw [switchAcceptance_eq hz hr ht, acceptSwitch_of_new (by rw [ho, hc]; rfl) (by decide) hne]
    · rw [endFireEvent_demand] at hx
      exact retireSource_inSlot hx
  · refine ⟨_, ?_, setZone_frame _ _ _, zone_setZone_self hr _⟩
    rw [switchAcceptance_eq hz hr ht, acceptSwitch_of_kept (.inl (by rw [ho, hc]; rfl))]

end Sys2Proof.Proofs
end

section
/-! PROOFS. Acceptances on a zone line (R107 to R112, R120, R123): the zone's table, the lamps, the events
raised and the records of the scenario. -/
namespace Sys2Proof.Machine
open Sys2Proof
variable {s t u : State}

/-! ### The steps of a scenario (R112) -/

theorem closeOperation_steps (s : State) (run : DemandRun) (ns : List Nat) :
    (s.closeOperation run ns).mail.steps = s.mail.steps := by
  have hgone : ∀ (xs : List (DemandRecord × RetireReason)) (u : State),
      (xs.foldl State.stationGone u).mail = u.mail := fun xs u =>
    sameOutside.foldl _ stationGone_frame xs u .mail (by simp)
  have hheads : ∀ u ns, (State.tellHeads u ns).mail.steps = u.mail.steps := fun u ns => by
    unfold State.tellHeads
    split <;> rfl
  rw [State.closeOperation, hheads]
  change (State.report _ _ _ _).mail.steps = _
  rw [report_mail, hgone]
  rfl

theorem foldl_placeRecord_steps {α : Type} (f : α → DemandRecord) (xs : List α) (s : State) :
    (xs.foldl (fun t x => (t.placeRecord (f x)).1) s).mail.steps = s.mail.steps := by
  induction xs generalizing s with
  | nil => rfl
  | cons x xs ih => exact (ih _).trans (closeOperation_steps _ _ _)

theorem stepsOf_append (xs : List StepTold) (ys : List ScenarioStep) (z : Nat) (m : Mail)
    (h : m.steps = xs.filter (fun x => x.zone != z) ++ ys.map fun x => { zone := z, step := x }) :
    m.stepsOf z = ys := by
  have hold : (xs.filter fun x => x.zone != z).filter (fun x => x.zone == z) = [] := by
    rw [List.filter_filter, List.filter_eq_nil_iff]
    intro x _
    cases hx : x.zone == z <;> simp [bne, hx]
  have hnew : (ys.map fun x => ({ zone := z, step := x } : StepTold)).filter (fun x => x.zone == z) =
      ys.map fun x => { zone := z, step := x } := List.filter_eq_self.mpr fun x hx => by
    obtain ⟨y, -, rfl⟩ := List.mem_map.mp hx
    simp
  rw [Mail.stepsOf, h, List.filter_append, hold, hnew, List.nil_append, List.map_map]
  simp [Function.comp_def]

/-- The steps that go on waiting are the last `left`. -/
theorem takeSteps_stepsOf (s : State) (z left : Nat) : (s.takeSteps z left).mail.stepsOf z =
    (s.mail.stepsOf z).drop ((s.mail.stepsOf z).length - left) :=
  stepsOf_append s.mail.steps _ z _ (foldl_placeRecord_steps _ _ _)

theorem smokeStands_of_find {z : Nat} {x : ScenarioStep} {h : Handle}
    (hf : t.demand.find h = some (smokeRecord z x)) : smokeStands t z x :=
  ⟨h, _, hf, rfl, rfl, rfl, rfl, rfl, rfl, rfl, rfl⟩

/-- The record of a step lives. -/
def smokeLives (d : DemandTable) (z : Nat) (x : ScenarioStep) : Prop :=
  ∃ h, d.find h = some (smokeRecord z x)

section
variable {z : Nat} {x : ScenarioStep} (hl : handlesLive s.demand)
  (hfree : s.demand.count < s.demand.slots.length)
include hl hfree

/-- Placing a step with a slot free: its record lives, and those of steps on other groups live on. -/
theorem placeRecord_smoke :
    smokeLives (s.placeRecord (smokeRecord z x)).1.demand z x ∧
    (∀ y, smokeLives s.demand z y → y.group ≠ x.group →
      smokeLives (s.placeRecord (smokeRecord z x)).1.demand z y) ∧
    (s.placeRecord (smokeRecord z x)).1.demand.count ≤ s.demand.count + 1 ∧
    (s.placeRecord (smokeRecord z x)).1.demand.slots.length = s.demand.slots.length := by
  obtain ⟨k, hk⟩ := DemandTable.placeSlot_of_freeSlot (smokeRecord z x)
    (s.store.covered (smokeRecord z x).target) (DemandTable.freeSlot_of_count hfree)
  obtain ⟨h, -, hfind⟩ := placeRecord_placed (r := smokeRecord z x) rfl hk
  refine ⟨⟨h, hfind⟩, fun y ⟨hy, hyfind⟩ hgroup => ⟨hy, ?_⟩, ?_, ?_⟩
  · have hm : s.demand.matching (smokeRecord z x) ≠ some hy.slot := fun hm => by
      obtain ⟨w, hw, -, -, htarget⟩ := s.demand.matching_eq_some hm
      rw [s.demand.inSlot_of_find hyfind] at hw
      cases hw
      exact hgroup (Target.group.inj htarget)
    rw [placeRecord_demand, DemandTable.restoreWaits_find,
      DemandTable.place_keeps hl hk hyfind (Nat.le_refl 5) rfl hm, Option.map_some,
      waitKept_of_full _ _ rfl]
  · rw [placeRecord_demand, DemandTable.restoreWaits_count]
    exact DemandTable.place_count_le hk
  · rw [placeRecord_demand, DemandTable.restoreWaits_slots_length]
    exact DemandTable.place_slots_length hk

end

/-- Placing the steps one after another, with slots free for all of them. -/
theorem foldl_placeRecord_smoke {z : Nat} (ys : List ScenarioStep) {done : List ScenarioStep} {s : State}
    (hl : handlesLive s.demand) (hroom : ys.length + s.demand.count ≤ s.demand.slots.length)
    (hdone : ∀ x ∈ done, smokeLives s.demand z x)
    (hnodup : ((done ++ ys).map ScenarioStep.group).Nodup) :
    ∀ x ∈ done ++ ys, smokeLives
      (ys.foldl (fun t x => (t.placeRecord (smokeRecord z x)).1) s).demand z x := by
  induction ys generalizing done s with
  | nil => simpa using hdone
  | cons y ys ih =>
    rw [List.length_cons] at hroom
    obtain ⟨hself, hothers, hcount, hslots⟩ :=
      placeRecord_smoke (z := z) (x := y) hl (by omega)
    have hnext : ys.length + (s.placeRecord (smokeRecord z y)).1.demand.count ≤
        (s.placeRecord (smokeRecord z y)).1.demand.slots.length := by omega
    rw [List.append_cons] at hnodup ⊢
    refine ih (placeRecord_handlesLive hl _) hnext (fun x hx => ?_) hnodup
    obtain hx | hx := List.mem_append.mp hx
    · refine hothers x (hdone x hx) fun heq => ?_
      rw [List.map_append, List.map_append] at hnodup
      have hdisj := (List.nodup_append.mp (List.nodup_append.mp hnodup).1).2.2
      exact hdisj _ (List.mem_map_of_mem hx) _ (List.mem_map_of_mem (List.mem_singleton_self y)) heq
    · rw [List.mem_singleton.mp hx]
      exact hself

/-- The steps waiting are handed over as R112 has it. -/
theorem takeSteps_taken (s : State) (z left : Nat) :
    stepsTaken s (s.takeSteps z left) z left (s.mail.stepsOf z) := by
  refine ⟨takeSteps_stepsOf s z left, fun hnodup hroom hl x hx => ?_⟩
  have hsub : ((s.mail.stepsOf z).take ((s.mail.stepsOf z).length - left)).length ≤
      (s.mail.stepsOf z).length := List.length_take_le' _ _
  obtain ⟨h, hf⟩ := foldl_placeRecord_smoke (z := z) (done := [])
    (s := (s.setMail { s.mail with steps := s.mail.steps.filter fun x => x.zone != z }).tellSteps z
      ((s.mail.stepsOf z).drop ((s.mail.stepsOf z).length - left)))
    ((s.mail.stepsOf z).take ((s.mail.stepsOf z).length - left)) hl (Nat.le_trans (by
      exact Nat.add_le_add_right hsub _) hroom) (fun _ h => nomatch h)
    (hnodup.sublist ((List.take_sublist _ _).map _)) x hx
  exact smokeStands_of_find hf

/-! ### The table of R109 -/

/-- The state an accepted class leads to. -/
def zoneNext : ZoneState → LineClass → ZoneState
  | .normal, .alarm => .alarm
  | .normal, .normal => .normal
  | .normal, _ => .fault
  | .fault, .alarm => .alarm
  | .fault, .normal => .normal
  | .fault, _ => .fault
  | .alarm, .normal => .latched
  | .alarm, _ => .alarm
  | .latched, .alarm => .alarm
  | .latched, _ => .latched
  | .disabled, _ => .disabled

/-- The line-fault flag an accepted class leads to. -/
def flagNext : ZoneState → LineClass → Bool → Bool
  | .normal, .alarm, _ => false
  | .fault, .alarm, _ => false
  | .alarm, .alarm, _ => false
  | .alarm, .normal, _ => false
  | .alarm, _, _ => true
  | .latched, .alarm, _ => false
  | .latched, .normal, _ => false
  | .latched, _, _ => true
  | _, _, f => f

theorem afterAcceptance_eq (r : Zone) (c : LineClass) : r.afterAcceptance c =
    { r with state := zoneNext r.state c, lineFault := flagNext r.state c r.lineFault } := by
  obtain ⟨_, _, _, _, st, _, _, _, _, _, _, _⟩ := r
  cases st <;> cases c <;> rfl

/-! ### The lamps (R123) -/

theorem any_zoneOpenings (st : Store) (z : Nat) (p : Nat → Bool) :
    (st.zoneOpenings z).any p = true ↔
      ∃ n, st.enabled n = true ∧ (st.opening n).zone = z ∧ p n = true := by
  rw [List.any_eq_true]
  refine exists_congr fun n => ?_
  rw [Store.zoneOpenings, List.mem_filter, mem_openingNumbers, ← isOpening_iff, Store.enabled]
  simp only [Bool.and_eq_true, beq_iff_eq]
  tauto

theorem inMotion_iff (s : State) (n : Nat) : s.inMotion n = true ↔
    s.moveState n = some .waitSlot ∨ s.moveState n = some .breakaway ∨ s.moveState n = some .travel ∨
      s.moveState n = some .stopping ∨ s.moveState n = some .retryWait := by
  unfold State.inMotion
  cases s.moveState n with
  | none => simp
  | some m => cases m <;> simp [showsMotion]

/-- A zone whose lamps were evaluated in `s` shows the patterns of the table, in `s` and in any state
with the same openings. -/
theorem lampsFollow_of_eval {z : Nat} {r : Zone} (hstore : t.store = s.store)
    (hmoves : t.moves = s.moves) (hnodes : t.bus.nodes = s.bus.nodes) :
    lampsFollow t z { r with alarmLamp := alarmPattern r.state, statusLamp := s.statusPattern z r } := by
  have hmv : ∀ n, t.moveState n = s.moveState n := fun n => by
    simp only [State.moveState, State.move, hmoves]
  have hnd : ∀ n, t.nodeState n = s.nodeState n := fun n => by
    simp only [State.nodeState, State.node, hnodes]
  have htrouble : (s.store.zoneOpenings z).any s.inTrouble = true ↔ _ := any_zoneOpenings _ _ _
  have hmotion : (s.store.zoneOpenings z).any s.inMotion = true ↔ _ := any_zoneOpenings _ _ _
  simp only [State.inTrouble, Bool.or_eq_true, beq_iff_eq] at htrouble
  simp only [inMotion_iff] at hmotion
  unfold lampsFollow
  simp only [hstore, hmv, hnd, ← htrouble, ← hmotion]
  refine ⟨?_, fun h => ?_, fun h hm => ?_, fun h hm hs => ?_, fun h hm hs => ?_⟩
  · cases r.state <;> rfl
  · exact if_pos h
  · exact (if_neg h).trans (if_pos hm)
  · exact (if_neg h).trans ((if_neg hm).trans (if_pos hs))
  · exact (if_neg h).trans ((if_neg hm).trans (if_neg hs))

theorem endFireEvent_lamps {z : Nat} {r : Zone} {c : LineClass} (hr : s.zone z = some r)
    (ha : r.accepted = some c) (before : State) : ∃ r', (s.endFireEvent before [z]).zone z = some r' ∧
      r' = { r with alarmLamp := alarmPattern r.state, statusLamp := s.statusPattern z r } ∧
      lampsFollow (s.endFireEvent before [z]) z r' := by
  have hframe := endFireEvent_frame s before [z]
  refine ⟨_, (endFireEvent_zone _ _ _ _).trans (evalLampsOf_self hr ha), rfl,
    lampsFollow_of_eval (hframe .store (by simp)) (hframe .moves (by simp)) ?_⟩
  rw [show (s.endFireEvent before [z]).bus = s.bus from hframe .bus (by simp)]

/-! ### The events raised (R120) -/

theorem mem_raisedIf {c c' : Condition} {b : Bool} : c ∈ raisedIf c' b ↔ c = c' ∧ b = true := by
  unfold raisedIf
  cases b <;> simp

/-- The fire unit raises what its report at the end of the event names, and nothing before it. -/
theorem fireRaised_endFireEvent (h : AddsReports (fun r => r.owner ≠ .fireUnit) s u) (before : State)
    (zs : List Nat) (c : Condition) : fireRaised s (u.endFireEvent before zs) c ↔
      c ∈ raisedIf .zoneAlarm (zoneNumbers.any (enteredAlarm before.fire u.fire)) ++
        raisedIf .zoneLineFault (zoneNumbers.any (enteredLineFault before.fire u.fire)) := by
  obtain ⟨later, hlater, howner⟩ := h
  unfold fireRaised State.endFireEvent
  rw [report_mail, evalLampsOf_mail]
  simp only [hlater, List.append_assoc, List.drop_left]
  constructor
  · rintro ⟨x, hx, hown, hc⟩
    obtain hx | hx := List.mem_append.mp hx
    · exact absurd hown (howner x hx)
    · split at hx
      · cases hx
      · rw [List.mem_singleton.mp hx] at hc
        exact hc
  · intro hc
    refine ⟨⟨.fireUnit, changedLive .zoneAlarm before.fire.alarmHeld u.fire.alarmHeld ++
      changedLive .zoneLineFault before.fire.lineFaulted u.fire.lineFaulted, _⟩,
      List.mem_append_right _ ?_, rfl, hc⟩
    rw [if_neg fun h => List.ne_nil_of_mem hc h.2]
    exact List.mem_singleton_self _

theorem mem_zoneNumbers {z : Nat} : z ∈ zoneNumbers ↔ isZone z = true := by
  unfold zoneNumbers numbers isZone
  rw [List.mem_range'_1, Bool.and_eq_true, decide_eq_true_iff, decide_eq_true_iff]
  omega

/-- Only the zone an event moved can have entered a state. -/
theorem any_entered_of_zone {p : Nat → Bool} {z : Nat} (hz : isZone z = true)
    (hp : ∀ k, k ≠ z → p k = false) : zoneNumbers.any p = p z := by
  rw [Bool.eq_iff_iff, List.any_eq_true]
  constructor
  · rintro ⟨k, -, hk⟩
    by_cases hkz : k = z
    · exact hkz ▸ hk
    · exact absurd hk (by simp [hp k hkz])
  · exact fun h => ⟨z, mem_zoneNumbers.mpr hz, h⟩

theorem enteredAlarm_of_eq {k : Nat} (h : t.zone k = s.zone k) : enteredAlarm s.fire t.fire k = false := by
  have h : nth t.fire.zones k = nth s.fire.zones k := h
  unfold enteredAlarm
  rw [h]
  cases nth s.fire.zones k with
  | none => rfl
  | some r => cases hr : r.state <;> simp [hr]

theorem enteredLineFault_of_eq {k : Nat} (h : t.zone k = s.zone k) :
    enteredLineFault s.fire t.fire k = false := by
  have h : nth t.fire.zones k = nth s.fire.zones k := h
  unfold enteredLineFault
  rw [h]
  cases nth s.fire.zones k with
  | none => rfl
  | some r => cases hr : r.state <;> simp [hr]

section
variable {z k : Nat} {r r' : Zone} (hs : s.zone k = some r) (ht : t.zone k = some r')
include hs ht

theorem enteredAlarm_eq : enteredAlarm s.fire t.fire k =
    (r'.state == .alarm && r.state != .alarm && r.state != .latched) := by
  have hs : nth s.fire.zones k = some r := hs
  have ht : nth t.fire.zones k = some r' := ht
  unfold enteredAlarm
  rw [hs, ht]

theorem enteredLineFault_eq : enteredLineFault s.fire t.fire k =
    ((r'.state == .fault && r.state != .fault) || (r'.lineFault && !r.lineFault)) := by
  have hs : nth s.fire.zones k = some r := hs
  have ht : nth t.fire.zones k = some r' := ht
  unfold enteredLineFault
  rw [hs, ht]

end

/-! ### The acceptance -/

theorem zoneTransition_zone_ne {z k : Nat} (hk : k ≠ z) (c : LineClass) (left : Nat) :
    (s.zoneTransition z c left).zone k = s.zone k := by
  unfold State.zoneTransition
  split
  · dsimp only
    split
    · exact (placeScenario_zone _ _ _ _).trans (zone_setZone_ne hk _)
    · exact zone_setZone_ne hk _
  · rfl

theorem namesAbsent_fireUnit {o : Owner} (ho : o ≠ .fireUnit) :
    Names (fun r => r.owner ≠ .fireUnit) o := fun _ _ _ => ho

/-- An acceptance taken on a zone, up to the end of the event. -/
def State.accepted (s : State) (z : Nat) (r : Zone) (c : LineClass) (left : Nat) : State :=
  (s.setZone z { r with accepted := some c, candidate := none, agreement := 0 }).zoneTransition z c left

theorem acceptLine_eq {z : Nat} {r : Zone} (h : s.zone z = some r) (c : LineClass) (left : Nat) :
    s.acceptLine z c left = (s.accepted z r c left).endFireEvent s [z] := by
  unfold State.acceptLine
  rw [h]
  rfl

/-- The zone an accepted class leads to, its lamps aside. -/
def Zone.accepting (r : Zone) (c : LineClass) : Zone :=
  { r with
    accepted := some c, candidate := none, agreement := 0
    state := zoneNext r.state c, lineFault := flagNext r.state c r.lineFault }

theorem accepted_zone {z : Nat} {r : Zone} (h : s.zone z = some r) (c : LineClass) (left : Nat) :
    (s.accepted z r c left).zone z = some (r.accepting c) := by
  rw [State.accepted, zoneTransition_zone (zone_setZone_self h _), afterAcceptance_eq]
  rfl

theorem accepted_zone_ne {z k : Nat} (hk : k ≠ z) (r : Zone) (c : LineClass) (left : Nat) :
    (s.accepted z r c left).zone k = s.zone k :=
  (zoneTransition_zone_ne hk c left).trans (zone_setZone_ne hk _)

theorem accepted_addsReports (z : Nat) (r : Zone) (c : LineClass) (left : Nat) :
    AddsReports (fun r => r.owner ≠ .fireUnit) s (s.accepted z r c left) :=
  .trans (.setZone _ _ _) (.zoneTransition (namesAbsent_fireUnit (by decide)) _ _ _ _)

theorem stepsTaken_congr {s' t' : State} {z left : Nat} {xs : List ScenarioStep}
    (hs : s'.demand = s.demand) (ht : t'.demand = t.demand) (hm : t'.mail.steps = t.mail.steps)
    (h : stepsTaken s t z left xs) : stepsTaken s' t' z left xs := by
  unfold stepsTaken smokeStands Mail.stepsOf at h ⊢
  rw [hs, ht, hm]
  exact h

/-- With no step of the zone waiting its scenario is told and its steps taken (R112). -/
theorem placeScenario_taken {z : Nat} (left : Nat) (hw : s.mail.stepsOf z = []) :
    stepsTaken s (s.placeScenario z left) z left (s.store.scenario z) := by
  have htold : (s.tellSteps z (s.store.scenario z)).mail.stepsOf z = s.store.scenario z := by
    refine stepsOf_append s.mail.steps _ z _ ?_
    rw [List.filter_eq_self.mpr fun x hx => ?_]
    · rfl
    · have hne := List.filter_eq_nil_iff.mp (List.map_eq_nil_iff.mp hw) x hx
      simpa [bne] using hne
  have htaken := takeSteps_taken (s.tellSteps z (s.store.scenario z)) z left
  rw [htold] at htaken
  exact stepsTaken_congr rfl rfl rfl htaken

theorem accepted_steps {z : Nat} {r : Zone} (h : s.zone z = some r) {left : Nat}
    (hst : r.state = .normal ∨ r.state = .fault) (hw : s.mail.stepsOf z = []) :
    stepsTaken s (s.accepted z r .alarm left) z left (s.store.scenario z) := by
  unfold State.accepted State.zoneTransition
  rw [zone_setZone_self h]
  dsimp only
  rw [if_pos ⟨rfl, hst⟩]
  exact stepsTaken_congr rfl rfl rfl
    (placeScenario_taken (s := (s.setZone z _).setZone z _) left hw)

/-- With no step of the zone waiting, none is placed. -/
theorem takeSteps_demand_of_none {z left : Nat} (h : s.mail.stepsOf z = []) :
    (s.takeSteps z left).demand = s.demand := by
  simp only [State.takeSteps, h, List.take_nil, List.foldl_nil, List.drop_nil]
  rfl

theorem endFireEvent_steps (s before : State) (zs : List Nat) :
    (s.endFireEvent before zs).mail.steps = s.mail.steps := by
  unfold State.endFireEvent
  rw [report_mail, evalLampsOf_mail]

section
variable {z left : Nat} {r : Zone} {c : LineClass} (hr : s.zone z = some r)
include hr

theorem acceptLine_lamps : ∃ r', (s.acceptLine z c left).zone z = some r' ∧
    r' = { r.accepting c with alarmLamp := r'.alarmLamp, statusLamp := r'.statusLamp } ∧
    lampsFollow (s.acceptLine z c left) z r' := by
  rw [acceptLine_eq hr]
  obtain ⟨r', hz', heq, hl⟩ :=
    endFireEvent_lamps (c := c) (accepted_zone hr c left) rfl s
  exact ⟨r', hz', by rw [heq], hl⟩

theorem acceptLine_steps (hst : r.state = .normal ∨ r.state = .fault) (hw : s.mail.stepsOf z = []) :
    stepsTaken s (s.acceptLine z .alarm left) z left (s.store.scenario z) := by
  rw [acceptLine_eq hr]
  exact stepsTaken_congr rfl (endFireEvent_demand _ _ _) (endFireEvent_steps _ _ _)
    (accepted_steps hr hst hw)

theorem acceptLine_raised (hz : isZone z = true)
    (h0 : AddsReports (fun r => r.owner ≠ .fireUnit) t s) (k : Condition) :
    fireRaised t (s.acceptLine z c left) k ↔
      (k = .zoneAlarm ∧ ((r.accepting c).state == .alarm && r.state != .alarm &&
        r.state != .latched) = true) ∨
      (k = .zoneLineFault ∧ (((r.accepting c).state == .fault && r.state != .fault) ||
        ((r.accepting c).lineFault && !r.lineFault)) = true) := by
  rw [acceptLine_eq hr, fireRaised_endFireEvent (h0.trans (accepted_addsReports z r c left)),
    List.mem_append, mem_raisedIf, mem_raisedIf,
    any_entered_of_zone hz fun k hk => enteredAlarm_of_eq (accepted_zone_ne hk r c left),
    any_entered_of_zone hz fun k hk => enteredLineFault_of_eq (accepted_zone_ne hk r c left),
    enteredAlarm_eq hr (accepted_zone hr c left), enteredLineFault_eq hr (accepted_zone hr c left)]

theorem acceptLine_raised_alarm (hz : isZone z = true)
    (h0 : AddsReports (fun r => r.owner ≠ .fireUnit) t s) :
    fireRaised t (s.acceptLine z c left) .zoneAlarm ↔
      c = .alarm ∧ (r.state = .normal ∨ r.state = .fault) := by
  rw [acceptLine_raised hr hz h0]
  unfold Zone.accepting
  cases hst : r.state <;> cases c <;> simp [zoneNext]

theorem acceptLine_raised_lineFault (hz : isZone z = true)
    (h0 : AddsReports (fun r => r.owner ≠ .fireUnit) t s) :
    fireRaised t (s.acceptLine z c left) .zoneLineFault ↔ (c = .short ∨ c = .openCircuit) ∧
      (r.state = .normal ∨ ((r.state = .alarm ∨ r.state = .latched) ∧ r.lineFault = false)) := by
  rw [acceptLine_raised hr hz h0]
  unfold Zone.accepting
  cases hst : r.state <;> cases c <;> simp [zoneNext, flagNext]

end

end Sys2Proof.Machine
namespace Sys2Proof.Proofs
open Sys2Proof.Machine

/-- Settles O43, through the table of R109 as a function, the placing of the steps of a scenario one by
one, and the one report of the fire unit at the end of the event. -/
theorem lineAcceptanceMovesZone : Obligations.LineAcceptanceMovesZone := by
  refine ⟨fun z left s r hz hr hcand => ⟨s.takeSteps z left, ?_, (takeSteps_zone _ _ _ _).trans hr,
    takeSteps_taken s z left⟩, fun z left s r c hz hr hcand hagree => ?_⟩
  · have hdue : r.due = none := by
      unfold Zone.due
      rw [hcand, ite_self]
    change execLineAcceptance z s left = _
    simp only [execLineAcceptance, hz, if_pos, takeSteps_zone, hr, hdue]
  · have hdue : r.due = some c := by
      unfold Zone.due
      rw [if_pos (by omega), hcand]
    have hr1 : (s.takeSteps z left).zone z = some r := (takeSteps_zone _ _ _ _).trans hr
    have hadds : AddsReports (fun r => r.owner ≠ .fireUnit) s (s.takeSteps z left) :=
      .takeSteps (namesAbsent_fireUnit (by decide)) s z left
    obtain ⟨r', hz', heq, hlamps⟩ := acceptLine_lamps (c := c) (left := left) hr1
    refine ⟨_, r', ?_, hz', by rw [heq]; rfl, by rw [heq]; rfl, by rw [heq]; rfl, by rw [heq]; rfl,
      hlamps, ?_, fun hc hst hw => ?_, acceptLine_raised_alarm hr1 hz hadds,
      acceptLine_raised_lineFault hr1 hz hadds⟩
    · change execLineAcceptance z s left = _
      simp only [execLineAcceptance, hz, if_pos, hr1, hdue]
    · rw [show r'.state = zoneNext r.state c by rw [heq]; rfl,
        show r'.lineFault = flagNext r.state c r.lineFault by rw [heq]; rfl]
      cases r.state <;> cases c <;> simp [zoneNext, flagNext]
    · subst hc
      have hstore : (s.takeSteps z left).store = s.store := takeSteps_frame s z left .store (by simp)
      have hwait : (s.takeSteps z left).mail.stepsOf z = [] := by
        rw [takeSteps_stepsOf, hw, List.drop_nil]
      have hsteps := acceptLine_steps (left := left) hr1 hst hwait
      rw [hstore] at hsteps
      exact stepsTaken_congr (takeSteps_demand_of_none hw).symm rfl rfl hsteps

end Sys2Proof.Proofs
end

section
/-! PROOFS. The fire reset (R116 to R118), zone by zone: what its four steps leave of the zone itself, of
the other zones, of the table, of the steps waiting, and of every opening. -/
namespace Sys2Proof.Machine
open Sys2Proof
variable {s t u : State}

/-! ### An opening kept, or granted a slot, over several events -/

/-- From `s` to `t` opening `n` kept its record and its order, or was granted a start slot. -/
structure KeptOrGranted (n : Nat) (s t : State) : Prop where
  reads : SameReads s t
  weather : t.weather = s.weather
  move : (t.move n = s.move n ∧ ∀ o : Order, o.opening = n → (o ∈ t.bus.queue ↔ o ∈ s.bus.queue)) ∨
    (s.eligible n = true ∧ startedIn s t n)

namespace KeptOrGranted
variable {n : Nat}

theorem refl (n : Nat) (s : State) : KeptOrGranted n s s := ⟨.refl s, rfl, .inl ⟨rfl, fun _ _ => Iff.rfl⟩⟩

theorem trans (h : KeptOrGranted n s t) (h' : KeptOrGranted n t u) : KeptOrGranted n s u where
  reads := h.reads.trans h'.reads
  weather := h'.weather.trans h.weather
  move := by
    rcases h.move with ⟨hm, hq⟩ | ⟨he, hb⟩
    · refine h'.move.imp (fun h' => ⟨h'.1.trans hm, fun o ho => (h'.2 o ho).trans (hq o ho)⟩)
        fun h' => ⟨?_, h'.2.congr hm rfl⟩
      rw [← eligible_congr hm h.reads.nodes h.weather]
      exact h'.1
    · rcases h'.move with ⟨hm, -⟩ | ⟨he', -⟩
      · exact .inr ⟨he, hb.congr rfl hm⟩
      · obtain ⟨m, dir, start, limit, -, hm⟩ := hb
        exact nomatch eligible_waits hm he'

theorem of_frame {bs : List Block} (h : sameOutside bs s t)
    (hb : Block.store ∉ bs ∧ Block.results ∉ bs ∧ Block.bus ∉ bs ∧ Block.weather ∉ bs ∧ Block.moves ∉ bs) :
    KeptOrGranted n s t := by
  obtain ⟨hstore, hresults, hbus, hweather, hmoves⟩ := hb
  have hbus : t.bus = s.bus := h .bus hbus
  refine ⟨⟨h .store hstore, h .results hresults, congrArg Bus.nodes hbus⟩, h .weather hweather,
    .inl ⟨?_, fun o _ => by rw [hbus]⟩⟩
  rw [State.move, show t.moves = s.moves from h .moves hmoves]
  rfl

theorem of_spares (h : Spares n s t) : KeptOrGranted n s t :=
  ⟨h.reads, h.weather, .inl ⟨h.move, h.queue⟩⟩

theorem endMoveEvent (n : Nat) (s before : State) : KeptOrGranted n s (s.endMoveEvent before) :=
  ⟨endMoveEvent_reads s before, endMoveEvent_frame s before .weather (by simp),
    endMoveEvent_keeps s before n⟩

theorem foldl (f : State → Nat → State) (ks : List Nat) (s : State)
    (hf : ∀ u, ∀ k ∈ ks, KeptOrGranted n s u → KeptOrGranted n u (f u k)) :
    KeptOrGranted n s (ks.foldl f s) := by
  induction ks using List.reverseRecOn with
  | nil => exact refl n s
  | append_singleton ks k ih =>
    rw [List.foldl_append]
    have hpre := ih fun u j hj => hf u j (List.mem_append_left _ hj)
    exact hpre.trans (hf _ k (List.mem_append_right _ (List.mem_singleton_self k)) hpre)

/-- A faulted opening kept is faulted. -/
theorem move_of_state (h : KeptOrGranted n s t) {m : MoveRecord} (hm : s.move n = some m)
    (hst : m.state ≠ .waitSlot) : t.move n = some m := by
  rcases h.move with ⟨hk, -⟩ | ⟨he, -⟩
  · exact hk.trans hm
  · exact absurd (eligible_waits hm he) hst

theorem moveState (h : KeptOrGranted n s t) (hf : s.moveState n ≠ some .faulted) :
    t.moveState n ≠ some .faulted := by
  rcases h.move with ⟨hk, -⟩ | ⟨-, hb⟩
  · rwa [moveState_congr hk]
  · rw [hb.moveState]
    decide

end KeptOrGranted

/-- An opening evaluated at rest stands as `restsAs` says, whatever grants follow. -/
theorem restsAs_of_keptOrGranted {n : Nat} {m : MoveRecord} (hm : m.state = .atRest)
    (h : restsAs s u n m) (hk : KeptOrGranted n u t) : restsAs s t n m := by
  have hst : m.state ≠ .waitSlot := by simp [hm]
  obtain ⟨hoff, hmov, hnear, hfar⟩ := h
  refine ⟨fun hn => hk.move_of_state (hoff hn) hst, fun hn hv => ?_,
    fun hn hv hw => hk.move_of_state (hnear hn hv hw) hst, fun hn hv hw => ?_⟩
  · obtain ⟨hmove, hq⟩ := hmov hn hv
    refine ⟨hk.move_of_state hmove (by simp), ?_⟩
    rcases hk.move with ⟨-, hkq⟩ | ⟨he, -⟩
    · exact (hkq _ rfl).mpr hq
    · exact nomatch eligible_waits hmove he
  · rcases hk.move with ⟨hmove, -⟩ | ⟨-, hb⟩
    · rw [hmove, moveState_congr hmove]
      exact hfar hn hv hw
    · exact .inr hb.moveState

/-! ### A zone with nothing changed but its lamps -/

/-- From `s` to `t` nothing of zone `z` changed but its lamps. -/
def lampsOnly (z : Nat) (s t : State) : Prop :=
  ∀ r, s.zone z = some r → ∃ a b, t.zone z = some { r with alarmLamp := a, statusLamp := b }

namespace lampsOnly
variable {z : Nat}

theorem of_eq (h : t.zone z = s.zone z) : lampsOnly z s t := fun _ hr => ⟨_, _, h.trans hr⟩

theorem trans (h : lampsOnly z s t) (h' : lampsOnly z t u) : lampsOnly z s u := fun r hr => by
  obtain ⟨a, b, ht⟩ := h r hr
  obtain ⟨a', b', hu⟩ := h' _ ht
  exact ⟨a', b', hu⟩

theorem foldl (f : State → Nat → State) (ks : List Nat) (s : State)
    (hf : ∀ u, ∀ k ∈ ks, lampsOnly z u (f u k)) : lampsOnly z s (ks.foldl f s) := by
  induction ks generalizing s with
  | nil => exact of_eq rfl
  | cons k ks ih =>
    exact (hf s k List.mem_cons_self).trans (ih _ fun u j hj => hf u j (List.mem_cons_of_mem _ hj))

theorem evalLampsOf (z : Nat) (s : State) (zs : List Nat) : lampsOnly z s (s.evalLampsOf zs) :=
  foldl _ zs s fun _ k _ _ hr => evalLamps_zone hr k

theorem report (s : State) (o : Owner) (l : List (Condition × Bool)) (e : List Condition) :
    lampsOnly z s (s.report o l e) := of_eq (zone_of_frame (report_frame s o l e) (by simp) z)

theorem announceMoves (s before : State) : lampsOnly z s (s.announceMoves before) :=
  (evalLampsOf z s _).trans (report _ _ _ _)

theorem endMoveEvent (s before : State) : lampsOnly z s (s.endMoveEvent before) :=
  ((announceMoves s before).trans (of_eq (zone_of_frame (grantAll_frame _) (by simp) z))).trans
    (announceMoves _ _)

theorem fireResetMoves (s : State) (ns : List Nat) : lampsOnly z s (s.fireResetMoves ns) := by
  refine (foldl _ ns s fun u n _ => of_eq ?_).trans (endMoveEvent _ _)
  split
  · exact zone_of_frame (returnFaulted_frame u n) (by simp) z
  · rfl

theorem endFireEvent (s before : State) (zs : List Nat) : lampsOnly z s (s.endFireEvent before zs) :=
  (evalLampsOf z s zs).trans (report _ _ _ _)

end lampsOnly

/-! ### The steps of a fire reset on one zone -/

/-- The zone set NORMAL, its waiting placements taken and its records retired: the first two steps. -/
def State.cleared (s : State) (z : Nat) (r : Zone) : State :=
  ((s.setZone z { r with state := .normal, lineFault := false }).takeSteps z 0).retireSource (.scenario z)

/-- The first three steps: the zone's faulted openings are returned too. -/
def State.returned (s : State) (z : Nat) (r : Zone) : State :=
  (s.cleared z r).fireResetMoves ((s.cleared z r).store.zoneOpenings z)

theorem resetZone_eq {z : Nat} {r : Zone} (h : s.zone z = some r) : s.resetZone z =
    match r.accepted with
    | some c => (s.returned z r).zoneTransition z c 0
    | none => s.returned z r := by
  unfold State.resetZone
  rw [h]
  rfl

theorem resetZone_of_none {z : Nat} (h : s.zone z = none) : s.resetZone z = s := by
  unfold State.resetZone
  rw [h]

/-- What the first three steps keep and every acceptance keeps, the reset of the zone keeps. -/
theorem resetZone_induction {P : State → Prop} (z : Nat) (h0 : P s)
    (hreturned : ∀ r, s.zone z = some r → P (s.returned z r))
    (htransition : ∀ u c, P u → P (u.zoneTransition z c 0)) : P (s.resetZone z) := by
  cases hr : s.zone z with
  | none => rwa [resetZone_of_none hr]
  | some r =>
    rw [resetZone_eq hr]
    cases r.accepted with
    | none => exact hreturned r hr
    | some c => exact htransition _ c (hreturned r hr)

theorem cleared_zone {z : Nat} {r : Zone} (h : s.zone z = some r) :
    (s.cleared z r).zone z = some { r with state := .normal, lineFault := false } :=
  (zone_of_frame (retireSource_frame _ _) (by simp) z).trans
    ((takeSteps_zone _ _ _ _).trans (zone_setZone_self h _))

theorem cleared_zone_ne {z k : Nat} (hk : k ≠ z) (r : Zone) : (s.cleared z r).zone k = s.zone k :=
  (zone_of_frame (retireSource_frame _ _) (by simp) k).trans
    ((takeSteps_zone _ _ _ _).trans (zone_setZone_ne hk _))

theorem resetZone_of_accepted {z : Nat} {r : Zone} {c : LineClass} (h : s.zone z = some r)
    (hc : r.accepted = some c) : s.resetZone z = (s.returned z r).zoneTransition z c 0 := by
  rw [resetZone_eq h, hc]

/-- A zone with a class accepted comes out of its reset by the table of R109. -/
theorem resetZone_zone {z : Nat} {r : Zone} {c : LineClass} (h : s.zone z = some r)
    (hc : r.accepted = some c) : ∃ a b, (s.resetZone z).zone z = some
      { r with state := zoneNext .normal c, lineFault := false, alarmLamp := a, statusLamp := b } := by
  have hmoves : lampsOnly z (s.cleared z r) (s.returned z r) := .fireResetMoves _ _
  obtain ⟨a, b, hz⟩ := hmoves _ (cleared_zone h)
  refine ⟨a, b, ?_⟩
  rw [resetZone_of_accepted h hc, zoneTransition_zone hz, afterAcceptance_eq]
  cases c <;> rfl

theorem resetZone_zone_ne {z k : Nat} (hk : k ≠ z) (s : State) : lampsOnly k s (s.resetZone z) :=
  resetZone_induction (P := lampsOnly k s) z (.of_eq rfl)
    (fun r _ => (lampsOnly.of_eq (cleared_zone_ne hk r)).trans (.fireResetMoves _ _))
    fun _ c h => h.trans (.of_eq (zoneTransition_zone_ne hk c 0))

/-! ### The records and the waiting placements of the zone -/

/-- No record of the source lives in the table. -/
def sourceGone (d : DemandTable) (src : Source) : Prop :=
  ∀ k x, d.inSlot k = some x → x.source ≠ src

section
variable {src : Source} {d : DemandTable}

theorem sourceGone_retireEach {run : DemandRun} (xs : List (Nat × RetireReason))
    (h : sourceGone run.table src) : sourceGone (run.retireEach xs).table src := fun k x hx => by
  rw [DemandRun.retireEach_inSlot] at hx
  split at hx
  · cases hx
  · exact h k x hx

theorem sourceGone_restoreWaits (h : sourceGone d src) : sourceGone d.restoreWaits src := fun k x hx => by
  rw [DemandTable.restoreWaits_inSlot] at hx
  obtain ⟨y, hy, rfl⟩ := Option.map_eq_some_iff.mp hx
  rw [waitKept_keeps]
  exact h k y hy

theorem sourceGone_place (h : sourceGone d src) {r : DemandRecord} (hr : r.source ≠ src)
    (ns : List Nat) : sourceGone (d.place r ns).1.table src := by
  have room : sourceGone (d.run.makeRoom r ns).table src := by
    obtain ⟨xs, hxs, -⟩ := d.run.makeRoom_eq r ns
    rw [hxs]
    exact sourceGone_retireEach xs h
  cases hk : d.placeSlot r ns with
  | none => rwa [d.place_of_no_slot hk]
  | some k =>
    rw [d.place_of_slot hk]
    refine sourceGone_retireEach _ fun j x hx => ?_
    have hx : ((d.run.makeRoom r ns).table.install k r ns).inSlot j = some x := hx
    rw [DemandTable.install_inSlot _ (d.placeSlot_free hk).1] at hx
    split at hx
    · cases hx
      exact hr
    · exact room j x hx

theorem sourceGone_placeRecord (h : sourceGone s.demand src) {r : DemandRecord} (hr : r.source ≠ src) :
    sourceGone (s.placeRecord r).1.demand src := by
  rw [placeRecord_demand]
  exact sourceGone_restoreWaits (sourceGone_place h hr _)

theorem sourceGone_retireSource (h : sourceGone s.demand src) (src' : Source) :
    sourceGone (s.retireSource src').demand src := by
  unfold State.retireSource
  rw [DemandRun.retireAll_eq, closeOperation_demand]
  exact sourceGone_restoreWaits (sourceGone_retireEach _ h)

theorem sourceGone_foldl_placeRecord {α : Type} (f : α → DemandRecord) (hf : ∀ x, (f x).source ≠ src)
    (xs : List α) (s : State) (h : sourceGone s.demand src) :
    sourceGone (xs.foldl (fun t x => (t.placeRecord (f x)).1) s).demand src := by
  induction xs generalizing s with
  | nil => exact h
  | cons x xs ih => exact ih _ (sourceGone_placeRecord h (hf x))

theorem sourceGone_takeSteps (h : sourceGone s.demand src) {z : Nat} (hz : Source.scenario z ≠ src)
    (left : Nat) : sourceGone (s.takeSteps z left).demand src :=
  sourceGone_foldl_placeRecord (smokeRecord z) (fun _ => hz) _ _ h

end

theorem fireResetMoves_demand (s : State) (ns : List Nat) : (s.fireResetMoves ns).demand = s.demand :=
  fireResetMoves_frame s ns .demand (by simp)

/-- The zone is left with no record of its scenario and no placement waiting. -/
def scenarioGone (z : Nat) (s : State) : Prop :=
  sourceGone s.demand (.scenario z) ∧ s.mail.stepsOf z = []

theorem fireResetMoves_steps (s : State) (ns : List Nat) :
    (s.fireResetMoves ns).mail.steps = s.mail.steps := by
  have hfold : ∀ u : State, (ns.foldl (fun t n =>
      if t.moveState n = some .faulted then t.returnFaulted n else t) u).mail.steps = u.mail.steps := by
    induction ns with
    | nil => exact fun _ => rfl
    | cons n ns ih =>
      intro u
      refine (ih _).trans ?_
      dsimp only
      split
      · rw [(returnFaulted_actsOn u n).mail]
      · rfl
  unfold State.fireResetMoves
  rw [endMoveEvent_mail]
  exact hfold s

theorem stepsOf_of_steps {z : Nat} (h : t.mail.steps = s.mail.steps) :
    t.mail.stepsOf z = s.mail.stepsOf z := by
  rw [Mail.stepsOf, h]
  rfl

theorem retireSource_steps (s : State) (src : Source) : (s.retireSource src).mail.steps = s.mail.steps :=
  closeOperation_steps _ _ _

theorem takeSteps_stepsOf_ne {z k : Nat} (hk : k ≠ z) (s : State) (left : Nat) :
    (s.takeSteps z left).mail.stepsOf k = s.mail.stepsOf k := by
  have hsteps : (s.takeSteps z left).mail.steps = (s.mail.steps.filter fun x => x.zone != z) ++
      ((s.mail.stepsOf z).drop ((s.mail.stepsOf z).length - left)).map fun x => ⟨z, x⟩ :=
    foldl_placeRecord_steps _ _ _
  have hnew : ∀ ys : List ScenarioStep,
      (ys.map fun x => (⟨z, x⟩ : StepTold)).filter (fun x => x.zone == k) = [] := fun ys => by
    rw [List.filter_eq_nil_iff]
    rintro x hx
    obtain ⟨y, -, rfl⟩ := List.mem_map.mp hx
    simpa using hk.symm
  have hold : (s.mail.steps.filter fun x => x.zone != z).filter (fun x => x.zone == k) =
      s.mail.steps.filter fun x => x.zone == k := by
    rw [List.filter_filter]
    refine List.filter_congr fun x _ => ?_
    by_cases hx : x.zone = k
    · simp [hx, hk]
    · simp [hx]
  rw [Mail.stepsOf, hsteps, List.filter_append, hnew, hold, List.append_nil]
  rfl

theorem tellSteps_stepsOf_ne {z k : Nat} (hk : k ≠ z) (s : State) (xs : List ScenarioStep) :
    (s.tellSteps z xs).mail.stepsOf k = s.mail.stepsOf k := by
  have hnew : (xs.map fun x => (⟨z, x⟩ : StepTold)).filter (fun x => x.zone == k) = [] := by
    rw [List.filter_eq_nil_iff]
    rintro x hx
    obtain ⟨y, -, rfl⟩ := List.mem_map.mp hx
    simpa using hk.symm
  change ((s.mail.steps ++ xs.map fun x => (⟨z, x⟩ : StepTold)).filter _).map _ = _
  rw [List.filter_append, hnew, List.append_nil]
  rfl

theorem scenarioGone_takeSteps {z k : Nat} (hk : k ≠ z) (h : scenarioGone k s) (left : Nat) :
    scenarioGone k (s.takeSteps z left) :=
  ⟨sourceGone_takeSteps h.1 (fun heq => hk (Source.scenario.inj heq).symm) left,
    (takeSteps_stepsOf_ne hk s left).trans h.2⟩

theorem scenarioGone_zoneTransition {z k : Nat} (hk : k ≠ z) (h : scenarioGone k s) (c : LineClass)
    (left : Nat) : scenarioGone k (s.zoneTransition z c left) := by
  unfold State.zoneTransition
  split
  · dsimp only
    split
    · exact scenarioGone_takeSteps hk (s := (s.setZone z _).tellSteps z _)
        ⟨h.1, (tellSteps_stepsOf_ne hk _ _).trans h.2⟩ left
    · exact h
  · exact h

theorem scenarioGone_fireResetMoves {k : Nat} (h : scenarioGone k s) (ns : List Nat) :
    scenarioGone k (s.fireResetMoves ns) := by
  refine ⟨?_, (stepsOf_of_steps (fireResetMoves_steps s ns)).trans h.2⟩
  rw [fireResetMoves_demand]
  exact h.1

/-- The reset of another zone places nothing of this one's scenario. -/
theorem scenarioGone_resetZone_ne {z k : Nat} (hk : k ≠ z) (h : scenarioGone k s) :
    scenarioGone k (s.resetZone z) := by
  refine resetZone_induction z h (fun r _ => scenarioGone_fireResetMoves ?_ _)
    fun u c hu => scenarioGone_zoneTransition hk hu c 0
  have hsteps := scenarioGone_takeSteps hk
    (s := s.setZone z { r with state := .normal, lineFault := false }) h 0
  exact ⟨sourceGone_retireSource hsteps.1 _,
    (stepsOf_of_steps (retireSource_steps _ _)).trans hsteps.2⟩

/-- Only an acceptance of ALARM places records. -/
theorem zoneTransition_of_quiet (z : Nat) {c : LineClass} (hc : c ≠ .alarm) (left : Nat) :
    (s.zoneTransition z c left).demand = s.demand ∧ (s.zoneTransition z c left).mail = s.mail := by
  unfold State.zoneTransition
  split
  · dsimp only
    rw [if_neg fun h => hc h.1]
    exact ⟨rfl, rfl⟩
  · exact ⟨rfl, rfl⟩

/-- The reset of a zone whose line is not at ALARM leaves nothing of its scenario. -/
theorem scenarioGone_resetZone {z : Nat} {r : Zone} {c : LineClass} (h : s.zone z = some r)
    (hc : r.accepted = some c) (hne : c ≠ .alarm) : scenarioGone z (s.resetZone z) := by
  have hcleared : scenarioGone z (s.cleared z r) := by
    refine ⟨fun k x hx => retireSource_inSlot hx, ?_⟩
    refine (stepsOf_of_steps (retireSource_steps _ _)).trans ?_
    rw [takeSteps_stepsOf, Nat.sub_zero, List.drop_length]
  have hreturned := scenarioGone_fireResetMoves hcleared ((s.cleared z r).store.zoneOpenings z)
  obtain ⟨hdemand, hmail⟩ := zoneTransition_of_quiet (s := s.returned z r) z hne 0
  rw [resetZone_of_accepted h hc]
  unfold scenarioGone
  rw [hdemand, hmail]
  exact hreturned

/-! ### The openings -/

theorem cleared_keptOrGranted (s : State) (z n : Nat) (r : Zone) : KeptOrGranted n s (s.cleared z r) :=
  .of_frame (bs := [.fire, .demand, .stations, .mail])
    ((((setZone_frame s z _).mono (by simp)).trans ((takeSteps_frame _ _ _).mono (by simp))).trans
      ((retireSource_frame _ _).mono (by simp))) (by simp)

theorem zoneTransition_keptOrGranted (s : State) (z n : Nat) (c : LineClass) (left : Nat) :
    KeptOrGranted n s (s.zoneTransition z c left) :=
  .of_frame (zoneTransition_frame s z c left) (by simp)

/-- The return of one opening where it is faulted. -/
def State.returnIfFaulted (s : State) (n : Nat) : State :=
  if s.moveState n = some .faulted then s.returnFaulted n else s

theorem returnIfFaulted_actsOn (s : State) (n : Nat) : ActsOn n s (s.returnIfFaulted n) := by
  unfold State.returnIfFaulted
  split
  · exact returnFaulted_actsOn s n
  · exact .refl n s

theorem fireResetMoves_eq (s : State) (ns : List Nat) :
    s.fireResetMoves ns = (ns.foldl State.returnIfFaulted s).endMoveEvent s := rfl

/-- An opening that is not faulted, or not among those of the event, is kept or granted a slot. -/
theorem fireResetMoves_keptOrGranted {n : Nat} {ns : List Nat}
    (h : n ∈ ns → s.moveState n ≠ some .faulted) : KeptOrGranted n s (s.fireResetMoves ns) := by
  rw [fireResetMoves_eq]
  refine .trans (.foldl _ ns s fun u k hk hu => ?_) (.endMoveEvent _ _ _)
  by_cases hkn : n = k
  · subst hkn
    rw [State.returnIfFaulted, if_neg (hu.moveState (h hk))]
    exact .refl n u
  · exact .of_spares ((returnIfFaulted_actsOn u k).spares hkn)

theorem fireResetMoves_restsAs {n : Nat} {ns : List Nat} {m : MoveRecord} (hns : ns.Nodup) (hn : n ∈ ns)
    (hm : s.move n = some m) (hf : m.state = .faulted) :
    restsAs s (s.fireResetMoves ns) n { m.bare .atRest with retries := 0 } := by
  obtain ⟨u, hu, hv⟩ := foldl_actsOn_split _ returnIfFaulted_actsOn hns hn s
  have hum : u.move n = some m := hu.move.trans hm
  rw [State.returnIfFaulted, if_pos (by rw [moveState_eq hum, hf])] at hv
  rw [fireResetMoves_eq]
  exact restsAs_returnFaulted hu.reads hum hv s

theorem fireResetMoves_reads (s : State) (ns : List Nat) : SameReads s (s.fireResetMoves ns) := by
  have hfold : ∀ u : State, SameReads u (ns.foldl State.returnIfFaulted u) := by
    induction ns with
    | nil => exact .refl
    | cons n ns ih => exact fun u => (returnIfFaulted_actsOn u n).reads.trans (ih _)
  exact (hfold s).trans (endMoveEvent_reads _ _)

theorem mem_zoneOpenings {st : Store} {z n : Nat} : n ∈ st.zoneOpenings z ↔
    st.enabled n = true ∧ (st.opening n).zone = z := by
  rw [Store.zoneOpenings, List.mem_filter, mem_openingNumbers, ← isOpening_iff, Store.enabled]
  simp only [Bool.and_eq_true, beq_iff_eq]
  tauto

theorem zoneOpenings_nodup (st : Store) (z : Nat) : (st.zoneOpenings z).Nodup :=
  List.Nodup.filter _ List.nodup_range'

theorem cleared_store (s : State) (z : Nat) (r : Zone) : (s.cleared z r).store = s.store :=
  (cleared_keptOrGranted s z 0 r).reads.store

theorem resetZone_keptOrGranted {z n : Nat}
    (h : s.store.enabled n = true → (s.store.opening n).zone = z → s.moveState n ≠ some .faulted) :
    KeptOrGranted n s (s.resetZone z) :=
  resetZone_induction (P := KeptOrGranted n s) z (.refl n s)
    (fun r _ => (cleared_keptOrGranted s z n r).trans (fireResetMoves_keptOrGranted fun hn => by
      rw [cleared_store, mem_zoneOpenings] at hn
      exact (cleared_keptOrGranted s z n r).moveState (h hn.1 hn.2)))
    fun _ c hu => hu.trans (zoneTransition_keptOrGranted _ z n c 0)

theorem resetZone_restsAs {z n : Nat} {r : Zone} {m : MoveRecord} (hz : s.zone z = some r)
    (hon : s.store.enabled n = true) (hzone : (s.store.opening n).zone = z) (hm : s.move n = some m)
    (hf : m.state = .faulted) :
    SameReads s (s.resetZone z) ∧
      restsAs s (s.resetZone z) n { m.bare .atRest with retries := 0 } := by
  have hcleared := cleared_keptOrGranted s z n r
  have hmem : n ∈ (s.cleared z r).store.zoneOpenings z := by
    rw [cleared_store, mem_zoneOpenings]
    exact ⟨hon, hzone⟩
  have hrest := fireResetMoves_restsAs (zoneOpenings_nodup _ z) hmem
    (hcleared.move_of_state hm (by simp [hf])) hf
  rw [restsAs_congr hcleared.reads] at hrest
  have hreads : SameReads s (s.returned z r) := hcleared.reads.trans (fireResetMoves_reads _ _)
  rw [resetZone_eq hz]
  cases r.accepted with
  | none => exact ⟨hreads, hrest⟩
  | some c =>
    have hk := zoneTransition_keptOrGranted (s.returned z r) z n c 0
    exact ⟨hreads.trans hk.reads, restsAs_of_keptOrGranted rfl hrest hk⟩

/-! ### The whole fire reset -/

theorem statusPattern_congr {z : Nat} {r : Zone} (h : SameReads s t) (hm : t.moves = s.moves)
    (a b : LampPattern) :
    t.statusPattern z { r with alarmLamp := a, statusLamp := b } = s.statusPattern z r := by
  have hmv : ∀ n, t.moveState n = s.moveState n := fun n => by
    simp only [State.moveState, State.move, hm]
  have htrouble : t.inTrouble = s.inTrouble := funext fun n => by
    rw [State.inTrouble, hmv, h.nodeState]
    rfl
  have hmotion : t.inMotion = s.inMotion := funext fun n => by
    rw [State.inMotion, hmv]
    rfl
  simp only [State.statusPattern, htrouble, hmotion, h.store]

theorem evalLamps_zone_ne {z k : Nat} (hk : k ≠ z) : (s.evalLamps z).zone k = s.zone k := by
  unfold State.evalLamps
  split
  · split
    · exact zone_setZone_ne hk _
    · rfl
  · rfl

theorem evalLampsOf_zone_of_not_mem {z : Nat} {zs : List Nat} (hz : z ∉ zs) :
    (s.evalLampsOf zs).zone z = s.zone z := by
  induction zs generalizing s with
  | nil => rfl
  | cons k ks ih =>
    rw [List.mem_cons, not_or] at hz
    exact (ih (s := s.evalLamps k) hz.2).trans (evalLamps_zone_ne hz.1)

/-- Of the zones evaluated, each with a class accepted shows the patterns of its state. -/
theorem evalLampsOf_mem {z : Nat} {r : Zone} {c : LineClass} {zs : List Nat} (hz : z ∈ zs)
    (h : s.zone z = some r) (ha : r.accepted = some c) : (s.evalLampsOf zs).zone z =
      some { r with alarmLamp := alarmPattern r.state, statusLamp := s.statusPattern z r } := by
  induction zs generalizing s r with
  | nil => cases hz
  | cons k ks ih =>
    change ((s.evalLamps k).evalLampsOf ks).zone z = _
    by_cases hks : z ∈ ks
    · have hframe : sameOutside [.fire] s (s.evalLamps k) := evalLampsOf_frame s [k]
      have hreads : SameReads s (s.evalLamps k) := ⟨hframe .store (by simp), hframe .results (by simp),
        congrArg Bus.nodes (hframe .bus (by simp))⟩
      obtain ⟨a, b, hk⟩ := evalLamps_zone h k
      rw [ih hks hk ha, statusPattern_congr hreads (hframe .moves (by simp))]
    · obtain rfl := (List.mem_cons.mp hz).resolve_right hks
      exact (evalLampsOf_zone_of_not_mem hks).trans (evalLampsOf_self h ha)

theorem mem_latchedZones {z : Nat} : z ∈ s.latchedZones ↔
    isZone z = true ∧ ∃ r, s.zone z = some r ∧ r.state = .latched := by
  rw [State.latchedZones, List.mem_filter, mem_zoneNumbers]
  refine and_congr_right fun _ => ?_
  cases s.zone z with
  | none => simp
  | some r => simp

theorem latchedZones_nodup (s : State) : s.latchedZones.Nodup := List.Nodup.filter _ List.nodup_range'

/-- What the resets of other zones keep, a run of them keeps. -/
theorem foldl_resetZone_not_mem {P : State → Prop} {z : Nat} {zs : List Nat} (hz : z ∉ zs)
    (hstep : ∀ u k, k ≠ z → P u → P (u.resetZone k)) (h : P s) : P (zs.foldl State.resetZone s) := by
  induction zs generalizing s with
  | nil => exact h
  | cons k ks ih =>
    rw [List.mem_cons, not_or] at hz
    exact ih hz.2 (hstep s k (Ne.symm hz.1) h)

/-- What the reset of a zone brings about and those of other zones keep, the run of resets brings about. -/
theorem foldl_resetZone_mem {P Q : State → Prop} {z : Nat} {zs : List Nat} (hz : z ∈ zs)
    (hnodup : zs.Nodup) (h0 : Q s) (hbefore : ∀ u k, k ≠ z → Q u → Q (u.resetZone k))
    (hreset : ∀ u, Q u → P (u.resetZone z)) (hafter : ∀ u k, k ≠ z → P u → P (u.resetZone k)) :
    P (zs.foldl State.resetZone s) := by
  induction zs generalizing s with
  | nil => cases hz
  | cons k ks ih =>
    obtain ⟨hk, hks⟩ := List.nodup_cons.mp hnodup
    by_cases hkz : k = z
    · subst hkz
      exact foldl_resetZone_not_mem (s := s.resetZone k) hk hafter (hreset s h0)
    · exact ih ((List.mem_cons.mp hz).resolve_left fun h => hkz h.symm) hks (hbefore s k hkz h0)

theorem resetZone_reads (s : State) (z : Nat) : SameReads s (s.resetZone z) :=
  resetZone_induction (P := SameReads s) z (.refl s)
    (fun r _ => (cleared_keptOrGranted s z 0 r).reads.trans (fireResetMoves_reads _ _))
    fun u c h => h.trans (zoneTransition_keptOrGranted u z 0 c 0).reads

theorem resetZone_addsReports {P : Report → Prop} (hd : Names P .demandManager)
    (hm : Names P .movementController) (s : State) (z : Nat) : AddsReports P s (s.resetZone z) :=
  resetZone_induction (P := AddsReports P s) z (.refl s)
    (fun _ _ => (((AddsReports.setZone _ _ _).trans (.takeSteps hd _ _ _)).trans
      (.retireSource hd _ _)).trans (.fireResetMoves hm _ _))
    fun _ _ h => h.trans (.zoneTransition hd _ _ _ _)

/-- The resets of the LATCHED zones, up to the end of the event. -/
def State.zonesReset (s : State) : State := s.latchedZones.foldl State.resetZone s

theorem fireReset_eq (s : State) : s.fireReset = s.zonesReset.endFireEvent s s.latchedZones := rfl

theorem zonesReset_addsReports (s : State) :
    AddsReports (fun r => r.owner ≠ .fireUnit) s s.zonesReset :=
  .foldl _ (fun u z => resetZone_addsReports (namesAbsent_fireUnit (by decide))
    (namesAbsent_fireUnit (by decide)) u z) _ _

section
variable {z : Nat} {r : Zone}

theorem zonesReset_lampsOnly (hr : s.zone z = some r) (hst : r.state ≠ .latched) :
    lampsOnly z s s.zonesReset :=
  foldl_resetZone_not_mem (P := lampsOnly z s)
    (fun h => by
      obtain ⟨-, r', hr', hl⟩ := mem_latchedZones.mp h
      rw [hr] at hr'
      cases hr'
      exact hst hl)
    (fun u _ hk h => h.trans (resetZone_zone_ne (Ne.symm hk) u)) (.of_eq rfl)

theorem fireReset_zone_other (hr : s.zone z = some r) (hst : r.state ≠ .latched) :
    ∃ r', s.fireReset.zone z = some r' ∧ r'.state = r.state := by
  obtain ⟨a, b, h⟩ := ((zonesReset_lampsOnly hr hst).trans (.endFireEvent _ s s.latchedZones)) r hr
  exact ⟨_, h, rfl⟩

section
variable (hz : isZone z = true) (hr : s.zone z = some r) (hst : r.state = .latched)
include hz hr hst

theorem zonesReset_zone {c : LineClass} (hc : r.accepted = some c) : ∃ a b, s.zonesReset.zone z = some
    { r with state := zoneNext .normal c, lineFault := false, alarmLamp := a, statusLamp := b } := by
  refine foldl_resetZone_mem (Q := lampsOnly z s) (P := fun u => ∃ a b, u.zone z = some
    { r with state := zoneNext .normal c, lineFault := false, alarmLamp := a, statusLamp := b })
    (mem_latchedZones.mpr ⟨hz, r, hr, hst⟩) (latchedZones_nodup s) (.of_eq rfl)
    (fun u k hk h => h.trans (resetZone_zone_ne (Ne.symm hk) u)) (fun u hu => ?_) fun u k hk hu => ?_
  · obtain ⟨a, b, hu⟩ := hu r hr
    obtain ⟨a', b', hreset⟩ := resetZone_zone hu hc
    exact ⟨a', b', hreset⟩
  · obtain ⟨a, b, hu⟩ := hu
    exact resetZone_zone_ne (Ne.symm hk) u _ hu

theorem zonesReset_scenarioGone {c : LineClass} (hc : r.accepted = some c) (hne : c ≠ .alarm) :
    scenarioGone z s.zonesReset := by
  refine foldl_resetZone_mem (Q := lampsOnly z s) (P := scenarioGone z)
    (mem_latchedZones.mpr ⟨hz, r, hr, hst⟩) (latchedZones_nodup s) (.of_eq rfl)
    (fun u k hk h => h.trans (resetZone_zone_ne (Ne.symm hk) u)) (fun u hu => ?_)
    fun u k hk hu => scenarioGone_resetZone_ne (Ne.symm hk) hu
  obtain ⟨a, b, hu⟩ := hu r hr
  exact scenarioGone_resetZone hu hc hne

theorem fireReset_lamps {c : LineClass} (hc : r.accepted = some c) :
    ∃ r', s.fireReset.zone z = some r' ∧ r'.state = zoneNext .normal c ∧ r'.lineFault = false ∧
      lampsFollow s.fireReset z r' := by
  obtain ⟨a, b, hreset⟩ := zonesReset_zone hz hr hst hc
  have hframe := endFireEvent_frame s.zonesReset s s.latchedZones
  refine ⟨_, (endFireEvent_zone _ _ _ _).trans
    (evalLampsOf_mem (mem_latchedZones.mpr ⟨hz, r, hr, hst⟩) hreset hc), rfl, rfl,
    lampsFollow_of_eval (hframe .store (by simp)) (hframe .moves (by simp)) ?_⟩
  exact congrArg Bus.nodes (hframe .bus (by simp))

theorem fireReset_lineFault {c : LineClass} (hc : r.accepted = some c)
    (hf : c = .short ∨ c = .openCircuit) : fireRaised s s.fireReset .zoneLineFault := by
  obtain ⟨a, b, hreset⟩ := zonesReset_zone hz hr hst hc
  rw [fireReset_eq, fireRaised_endFireEvent (zonesReset_addsReports s), List.mem_append, mem_raisedIf,
    mem_raisedIf, List.any_eq_true, List.any_eq_true]
  refine .inr ⟨rfl, z, mem_zoneNumbers.mpr hz, ?_⟩
  rw [enteredLineFault_eq hr hreset, hst]
  rcases hf with rfl | rfl <;> rfl

omit hz in
theorem fireReset_alarmFell
    (h : ∀ y r', s.fireReset.zone y = some r' → r'.state ≠ .alarm ∧ r'.state ≠ .latched) :
    fallReported s.fireReset .fireUnit .zoneAlarm := by
  have hbefore : s.fire.alarmHeld = true :=
    List.any_eq_true.mpr ⟨r, nth_mem hr, by simp [hst]⟩
  have hafter : s.zonesReset.fire.alarmHeld = false := by
    refine List.any_eq_false.mpr fun r' hmem => ?_
    obtain ⟨y, hy⟩ := nth_of_mem hmem
    obtain ⟨a, b, ht⟩ := lampsOnly.endFireEvent s.zonesReset s s.latchedZones r' hy
    obtain ⟨ha, hl⟩ := h y _ ht
    simpa using ⟨ha, hl⟩
  have hfell : (Condition.zoneAlarm, false) ∈
      changedLive .zoneAlarm s.fire.alarmHeld s.zonesReset.fire.alarmHeld ++
        changedLive .zoneLineFault s.fire.lineFaulted s.zonesReset.fire.lineFaulted :=
    List.mem_append_left _ (mem_changedLive.mpr ⟨rfl, hafter.symm, by rw [hbefore, hafter]; decide⟩)
  unfold fallReported
  rw [fireReset_eq, State.endFireEvent, report_mail, if_neg fun h => List.ne_nil_of_mem hfell h.1]
  exact ⟨_, List.mem_append_right _ (List.mem_singleton_self _), rfl, hfell⟩

theorem fireReset_restsAs {n : Nat} {m : MoveRecord} (hon : s.store.enabled n = true)
    (hzone : (s.store.opening n).zone = z) (hm : s.move n = some m) (hf : m.state = .faulted) :
    restsAs s s.fireReset n { m.bare .atRest with retries := 0 } := by
  have hone : ∀ u k, SameReads s u → k ≠ z → KeptOrGranted n u (u.resetZone k) := fun u k hu hk =>
    resetZone_keptOrGranted fun _ hku => absurd (hku.symm.trans (by rw [hu.store, hzone])) hk
  have hrest : SameReads s s.zonesReset ∧
      restsAs s s.zonesReset n { m.bare .atRest with retries := 0 } := by
    refine foldl_resetZone_mem (Q := fun u => lampsOnly z s u ∧ KeptOrGranted n s u)
      (P := fun u => SameReads s u ∧ restsAs s u n { m.bare .atRest with retries := 0 })
      (mem_latchedZones.mpr ⟨hz, r, hr, hst⟩) (latchedZones_nodup s) ⟨.of_eq rfl, .refl n s⟩
      (fun u k hk hu => ⟨hu.1.trans (resetZone_zone_ne (Ne.symm hk) u),
        hu.2.trans (hone u k hu.2.reads hk)⟩) (fun u hu => ?_)
      fun u k hk hu => ⟨hu.1.trans (resetZone_reads u k),
        restsAs_of_keptOrGranted rfl hu.2 (hone u k hu.1 hk)⟩
    obtain ⟨hzu, hku⟩ := hu
    obtain ⟨a, b, hzu⟩ := hzu r hr
    have hreset := resetZone_restsAs hzu (by rw [hku.reads.store]; exact hon)
      (by rw [hku.reads.store]; exact hzone) (hku.move_of_state hm (by simp [hf])) hf
    rw [restsAs_congr hku.reads] at hreset
    exact ⟨hku.reads.trans hreset.1, hreset.2⟩
  exact restsAs_of_keptOrGranted rfl hrest.2
    (.of_frame (endFireEvent_frame s.zonesReset s s.latchedZones) (by simp))

end
end

/-- An opening of no LATCHED zone, or not faulted, is kept or granted a slot. -/
theorem fireReset_move {n : Nat} {m : MoveRecord} (hm : s.move n = some m)
    (h : m.state ≠ .faulted ∨ s.store.enabled n = false ∨
      ∀ r, s.zone (s.store.opening n).zone = some r → r.state ≠ .latched) :
    s.fireReset.move n = some m ∨ (s.eligible n = true ∧ s.fireReset.moveState n = some .breakaway) := by
  have hk : KeptOrGranted n s s.fireReset := by
    refine .trans (.foldl _ _ _ fun u z hz hu => resetZone_keptOrGranted fun hon hzone => ?_)
      (.of_frame (endFireEvent_frame s.zonesReset s s.latchedZones) (by simp))
    rw [hu.reads.store] at hon hzone
    rcases h with hf | hoff | hzones
    · exact hu.moveState (by rw [moveState_eq hm]; exact fun h => hf (Option.some.inj h))
    · rw [hoff] at hon
      cases hon
    · obtain ⟨-, r, hr, hl⟩ := mem_latchedZones.mp hz
      exact absurd hl (hzones r (hzone ▸ hr))
  exact hk.move.imp (fun h => h.1.trans hm) fun h => ⟨h.1, h.2.moveState⟩

/-- The outcome of a fire reset from `s` to `t`, the answer aside. -/
def fireResetDone (s t : State) : Prop :=
  (∀ z r a, isZone z = true → s.zone z = some r → r.state = .latched →
    r.accepted = some a → a ≠ .alarm →
    (∃ r', t.zone z = some r' ∧ r'.lineFault = false ∧ lampsFollow t z r' ∧
      (a = .normal → r'.state = .normal) ∧
      (a = .short ∨ a = .openCircuit → r'.state = .fault ∧ fireRaised s t .zoneLineFault)) ∧
    (∀ k r', t.demand.inSlot k = some r' → r'.source ≠ .scenario z) ∧
    t.mail.stepsOf z = [] ∧
    ((∀ y r', t.zone y = some r' → r'.state ≠ .alarm ∧ r'.state ≠ .latched) →
      fallReported t .fireUnit .zoneAlarm)) ∧
  (∀ z r n m, isZone z = true → s.zone z = some r → r.state = .latched →
    s.store.enabled n = true → (s.store.opening n).zone = z → s.move n = some m →
    m.state = .faulted → restsAs s t n { m.bare .atRest with retries := 0 }) ∧
  (∀ n m, s.move n = some m →
    (m.state ≠ .faulted ∨ s.store.enabled n = false ∨
      ∀ r, s.zone (s.store.opening n).zone = some r → r.state ≠ .latched) →
    t.move n = some m ∨ (s.eligible n = true ∧ t.moveState n = some .breakaway)) ∧
  (∀ z r, s.zone z = some r → r.state ≠ .latched → ∃ r', t.zone z = some r' ∧ r'.state = r.state)

theorem fireReset_done (s : State) : fireResetDone s s.fireReset := by
  refine ⟨fun z r a hz hr hst ha hne => ⟨?_, ?_, ?_, fireReset_alarmFell hr hst⟩,
    fun z r n m hz hr hst => fireReset_restsAs hz hr hst, fun n m => fireReset_move,
    fun z r => fireReset_zone_other⟩
  · obtain ⟨r', hr', hstate, hflag, hlamps⟩ := fireReset_lamps hz hr hst ha
    refine ⟨r', hr', hflag, hlamps, fun hn => ?_, fun hf =>
      ⟨?_, fireReset_lineFault hz hr hst ha hf⟩⟩
    · rw [hstate, hn]
      rfl
    · rw [hstate]
      rcases hf with rfl | rfl <;> rfl
  · rw [fireReset_eq, endFireEvent_demand]
    exact (zonesReset_scenarioGone hz hr hst ha hne).1
  · rw [fireReset_eq, stepsOf_of_steps (endFireEvent_steps _ _ _)]
    exact (zonesReset_scenarioGone hz hr hst ha hne).2

end Sys2Proof.Machine
namespace Sys2Proof.Proofs
open Sys2Proof.Machine

/-- Settles O26: each claim is brought about by the reset of the zone itself, kept by the resets of the
other zones and by the end of the event, and read past the response or the key's own record. -/
theorem fireResetReturnsLatchedZones : Obligations.FireResetReturnsLatchedZones := by
  rintro s c (⟨m, rfl, hm, hmay⟩ | ⟨rfl, htimer, hmade, hpressed⟩)
  · have hexec : exec (.fireReset m) s =
        .next (s.fireReset.respond m 0x11#8 (.accepted [zoneSetByte s.latchedZones])) := by
      simp only [exec, execFireReset, if_pos hm, State.takeFireReset, State.requestFireReset, hmay,
        if_true, Answered.respond]
    obtain ⟨hlatched, hrest, hmove, hother⟩ := fireReset_done s
    refine ⟨_, hexec, hlatched, fun z r n m' hz hr hst hon hzone hmv hf =>
      restsAs_respond (hrest z r n m' hz hr hst hon hzone hmv hf), hmove, hother, fun m' heq => ?_⟩
    cases heq
    exact ⟨_, respond_held _ _ _ _, rfl, rfl⟩
  · have hexec : exec .resetKeyAcceptance s = .next
        (s.setFire { s.fire with keyTimer := none, keyPressed := s.fire.keyMade }).fireReset := by
      simp only [exec, execResetKeyAcceptance, if_pos htimer, if_pos (And.intro hmade hpressed)]
    obtain ⟨hlatched, hrest, hmove, hother⟩ :=
      fireReset_done (s.setFire { s.fire with keyTimer := none, keyPressed := s.fire.keyMade })
    exact ⟨_, hexec, hlatched, hrest, hmove, hother, fun m' heq => nomatch heq⟩

end Sys2Proof.Proofs
end

section
/-! PROOFS. The end of a transaction on the drive bus (R152 to R159): what the reply or its absence does to
the node record, to the queue and to the order in flight. -/
namespace Sys2Proof.Machine
open Sys2Proof
variable {s t u : State}

/-! ### Nodes and queued orders -/

theorem node_setNode_self {n : Nat} {d : NodeRecord} (h : s.node n = some d) (d' : NodeRecord) :
    (s.setNode n d').node n = some d' :=
  nthSome_setNth_self _ _ _ _ (nth_of_nthSome h)

theorem nodeState_eq {n : Nat} {d : NodeRecord} (h : s.node n = some d) :
    s.nodeState n = some d.state := by rw [State.nodeState, h]

/-- A record set that keeps the state keeps every node's state. -/
theorem nodeState_setNode {n : Nat} {d d' : NodeRecord} (h : s.node n = some d)
    (hst : d'.state = d.state) (k : Nat) : (s.setNode n d').nodeState k = s.nodeState k := by
  by_cases hk : k = n
  · subst hk
    rw [nodeState_eq (node_setNode_self h d'), nodeState_eq h, hst]
  · have hne : (s.setNode n d').node k = s.node k := nthSome_setNth_ne _ _ _ _ hk
    rw [State.nodeState, hne]
    rfl

theorem withdrawOrder_bus (s : State) (n : Nat) (e : OrderEnd) :
    (s.withdrawOrder n e).bus = { s.bus with queue := queueWithout s n } := by
  have hfilter : (s.bus.queue.filter fun o => o.opening != n) = queueWithout s n :=
    List.filter_congr fun o _ => by by_cases ho : o.opening = n <;> simp [ho]
  unfold State.withdrawOrder
  split
  · change s.bus.removeOrder n = _
    rw [Bus.removeOrder, hfilter]
  · next h =>
    have hself : queueWithout s n = s.bus.queue := List.filter_eq_self.mpr fun o ho => by
      simpa using fun heq => h ((hasOrder_iff _ _).mpr ⟨o, ho, heq⟩)
    rw [hself]

theorem withdrawOrder_mail (s : State) (n : Nat) (e : OrderEnd) : (s.withdrawOrder n e).mail =
    { s.mail with outcomes := s.mail.outcomes ++ queueTold s n e } := by
  unfold State.withdrawOrder queueTold
  split
  · next h =>
    rw [if_pos ((hasOrder_iff _ _).mp h)]
    rfl
  · next h =>
    rw [if_neg fun hex => h ((hasOrder_iff _ _).mpr hex), List.append_nil]

theorem endBusEvent_mail (s before : State) : ∃ later, (s.endBusEvent before).mail =
    { s.mail with reports := s.mail.reports ++ later } := by
  unfold State.endBusEvent
  rw [report_mail, evalLampsOf_mail]
  exact ⟨_, rfl⟩

/-! ### The order in flight -/

theorem endOrder_bus (s : State) (f : InFlight) (e : OrderEnd) :
    (s.endOrder f e).bus = { s.bus with inFlight := none } := by
  unfold State.endOrder
  dsimp only
  split <;> rfl

theorem endOrder_mail {f : InFlight} (h : s.bus.inFlight = some f) (e : OrderEnd) :
    (s.endOrder f e).mail = { s.mail with outcomes := s.mail.outcomes ++ flightTold s e } := by
  unfold State.endOrder flightTold
  rw [h]
  dsimp only
  split
  · rw [List.append_nil]
    rfl
  · rfl

/-- The outcome that a reply's own outcome gives the order in flight. -/
def replyEnds (o : TransactionOutcome) (e : OrderEnd) : Prop :=
  (o = .ok ∨ o = .jam) ∧ e = .delivered ∨ o = .isolated ∧ e = .discarded

theorem orderReplied_of_ends {o : TransactionOutcome} {e : OrderEnd} (h : replyEnds o e) :
    (s.orderReplied o).bus = { s.bus with inFlight := none } ∧ (s.orderReplied o).mail =
      { s.mail with outcomes := s.mail.outcomes ++ flightTold s e } := by
  cases hf : s.bus.inFlight with
  | none =>
    have hsame : s.orderReplied o = s := by
      unfold State.orderReplied
      rw [hf]
    have htold : flightTold s e = [] := by
      unfold flightTold
      rw [hf]
    rw [hsame, htold, List.append_nil, ← hf]
    exact ⟨rfl, rfl⟩
  | some f =>
    have hends : s.orderReplied o = s.endOrder f e := by
      unfold State.orderReplied
      rw [hf]
      obtain ⟨rfl | rfl, rfl⟩ | ⟨rfl, rfl⟩ := h <;> rfl
    rw [hends]
    exact ⟨endOrder_bus s f e, endOrder_mail hf e⟩

theorem orderReplied_of_notReady : (s.orderReplied .notReady).bus =
    { s.bus with inFlight := none, queue := s.bus.queue ++ putBack s } ∧
      (s.orderReplied .notReady).mail = s.mail := by
  unfold State.orderReplied putBack
  cases hf : s.bus.inFlight with
  | none =>
    refine ⟨?_, rfl⟩
    dsimp only
    rw [List.append_nil, ← hf]
  | some f =>
    dsimp only [State.requeueOrder]
    split
    · rw [List.append_nil]
      exact ⟨rfl, rfl⟩
    · exact ⟨rfl, rfl⟩

/-! ### A valid reply -/

/-- The node record a valid reply leaves. -/
def repliedNode (r : DriveReply) : NodeRecord :=
  { state := if r.isolated then .isolated else .online
    failures := 0
    lastReply := some r
    lastOutcome := some r.outcome }

/-- What a valid reply of opening `n` tells the movement controller. -/
def repliedTold (s : State) (n : Nat) (r : DriveReply) : ReplyTold :=
  { opening := n, before := s.position n, isolated := r.isolated, position := r.position
    motion := r.motion, overcurrent := r.overcurrent }

section
variable {n : Nat} {d : NodeRecord} (hd : s.node n = some d) (r : DriveReply)
include hd

theorem takeReply_of_entering (h : r.isolated = true ∧ d.state ≠ .isolated) : s.takeReply n r =
    ((s.setNode n (repliedNode r)).tellReply (repliedTold s n r)).withdrawOrder n .discarded := by
  unfold State.takeReply
  rw [hd]
  exact if_pos (by simpa using h)

theorem takeReply_of_not_entering (h : ¬(r.isolated = true ∧ d.state ≠ .isolated)) : s.takeReply n r =
    (s.setNode n (repliedNode r)).tellReply (repliedTold s n r) := by
  unfold State.takeReply
  rw [hd]
  exact if_neg (by simpa using h)

end

theorem outcome_isolated_iff (r : DriveReply) : r.outcome = .isolated ↔ r.isolated = true := by
  unfold DriveReply.outcome
  split
  · simp [*]
  · split <;> [simp [*]; split <;> simp [*]]

theorem outcome_cases (r : DriveReply) :
    r.outcome = .notReady ∨ ∃ e, replyEnds r.outcome e := by
  unfold DriveReply.outcome replyEnds
  split
  · exact .inr ⟨_, .inr ⟨rfl, rfl⟩⟩
  · split
    · exact .inl rfl
    · split
      · exact .inr ⟨_, .inl ⟨.inr rfl, rfl⟩⟩
      · exact .inr ⟨_, .inl ⟨.inl rfl, rfl⟩⟩

theorem validReply_length {n : Nat} {bytes : List Byte} {r : DriveReply}
    (h : validReply n bytes = some r) : bytes.length = 6 := by
  unfold validReply at h
  split at h
  · rfl
  · cases h

/-- The bus and the mail a valid reply of opening `n` leaves, with what is queued and told. -/
structure RepliedAs (s t : State) (n : Nat) (r : DriveReply) (queue : List Order)
    (told : List OutcomeTold) : Prop where
  transaction : t.bus.transaction = none
  inFlight : t.bus.inFlight = none
  node : t.node n = some (repliedNode r)
  replies : t.mail.replies = s.mail.replies ++ [repliedTold s n r]
  queue : t.bus.queue = queue
  outcomes : t.mail.outcomes = s.mail.outcomes ++ told

section
variable {n : Nat} {d : NodeRecord} (hd : s.node n = some d) (r : DriveReply)
include hd

theorem takeReply_node : (s.takeReply n r).node n = some (repliedNode r) := by
  by_cases h : r.isolated = true ∧ d.state ≠ .isolated
  · rw [takeReply_of_entering hd r h, State.node, withdrawOrder_bus]
    exact node_setNode_self hd _
  · rw [takeReply_of_not_entering hd r h]
    exact node_setNode_self hd _

theorem takeReply_keeps : (s.takeReply n r).bus.inFlight = s.bus.inFlight ∧
    (s.takeReply n r).bus.transaction = s.bus.transaction ∧
    (s.takeReply n r).mail.replies = s.mail.replies ++ [repliedTold s n r] := by
  by_cases h : r.isolated = true ∧ d.state ≠ .isolated
  · rw [takeReply_of_entering hd r h, withdrawOrder_bus, withdrawOrder_mail]
    exact ⟨rfl, rfl, rfl⟩
  · rw [takeReply_of_not_entering hd r h]
    exact ⟨rfl, rfl, rfl⟩

/-- A reply by which the node becomes ISOLATED removes the queued order; any other leaves the queue. -/
theorem takeReply_queue :
    (s.takeReply n r).bus.queue =
      (if r.isolated = true ∧ d.state ≠ .isolated then queueWithout s n else s.bus.queue) ∧
    (s.takeReply n r).mail.outcomes = s.mail.outcomes ++
      if r.isolated = true ∧ d.state ≠ .isolated then queueTold s n .discarded else [] := by
  by_cases h : r.isolated = true ∧ d.state ≠ .isolated
  · rw [if_pos h, if_pos h, takeReply_of_entering hd r h, withdrawOrder_bus, withdrawOrder_mail]
    exact ⟨rfl, rfl⟩
  · rw [if_neg h, if_neg h, takeReply_of_not_entering hd r h, List.append_nil]
    exact ⟨rfl, rfl⟩

end

theorem flightTold_congr (h : t.bus.inFlight = s.bus.inFlight) (e : OrderEnd) :
    flightTold t e = flightTold s e := by
  rw [flightTold, h]
  rfl

theorem putBack_congr (h : t.bus.inFlight = s.bus.inFlight) : putBack t = putBack s := by
  rw [putBack, h]
  rfl

/-- A valid reply taken into the node record, before the order in flight ends. -/
def State.replied (s : State) (n : Nat) (r : DriveReply) : State :=
  (s.setBus (s.bus.endTransaction s.store n)).takeReply n r

section
variable {n : Nat} {d : NodeRecord} (hd : s.node n = some d) (r : DriveReply)
include hd

theorem transactionReplied_as {queue : List Order} {told : List OutcomeTold}
    (hbus : ((s.replied n r).orderReplied r.outcome).bus =
      { (s.replied n r).bus with inFlight := none, queue := queue })
    (hmail : ((s.replied n r).orderReplied r.outcome).mail =
      { (s.replied n r).mail with outcomes := s.mail.outcomes ++ told }) :
    RepliedAs s (s.transactionReplied n r) n r queue told := by
  have hd0 : (s.setBus (s.bus.endTransaction s.store n)).node n = some d := hd
  obtain ⟨-, htrans, hreplies⟩ := takeReply_keeps hd0 r
  obtain ⟨later, hlater⟩ := endBusEvent_mail ((s.replied n r).orderReplied r.outcome) s
  have hb : (s.transactionReplied n r).bus = _ := (endBusEvent_bus _ s).trans hbus
  have hm : (s.transactionReplied n r).mail = _ := hlater
  rw [hmail] at hm
  refine ⟨?_, ?_, ?_, ?_, ?_, ?_⟩
  · rw [hb]
    exact htrans
  · rw [hb]
  · rw [State.node, hb]
    exact takeReply_node hd0 r
  · rw [hm]
    exact hreplies
  · rw [hb]
  · rw [hm]

theorem transactionReplied_of_ends {e : OrderEnd} (h : replyEnds r.outcome e) :
    RepliedAs s (s.transactionReplied n r) n r
      (if r.isolated = true ∧ d.state ≠ .isolated then queueWithout s n else s.bus.queue)
      ((if r.isolated = true ∧ d.state ≠ .isolated then queueTold s n .discarded else []) ++
        flightTold s e) := by
  have hd0 : (s.setBus (s.bus.endTransaction s.store n)).node n = some d := hd
  obtain ⟨hflight, -, -⟩ := takeReply_keeps hd0 r
  obtain ⟨hqueue, hout⟩ := takeReply_queue hd0 r
  obtain ⟨hbus, hmail⟩ := orderReplied_of_ends (s := s.replied n r) h
  refine transactionReplied_as hd r ?_ ?_
  · rw [hbus]
    exact congrArg (fun q => ({ (s.replied n r).bus with inFlight := none, queue := q } : Bus)) hqueue
  · rw [hmail, flightTold_congr (s := s) (t := s.replied n r) hflight, ← List.append_assoc]
    exact congrArg (fun o => ({ (s.replied n r).mail with outcomes := o ++ flightTold s e } : Mail)) hout

theorem transactionReplied_of_notReady (h : r.outcome = .notReady) :
    RepliedAs s (s.transactionReplied n r) n r (s.bus.queue ++ putBack s) [] := by
  have hd0 : (s.setBus (s.bus.endTransaction s.store n)).node n = some d := hd
  have hiso : ¬(r.isolated = true ∧ d.state ≠ .isolated) := fun hi => by
    rw [(outcome_isolated_iff r).mpr hi.1] at h
    cases h
  obtain ⟨hflight, -, -⟩ := takeReply_keeps hd0 r
  obtain ⟨hqueue, hout⟩ := takeReply_queue hd0 r
  rw [if_neg hiso] at hqueue hout
  obtain ⟨hbus, hmail⟩ := orderReplied_of_notReady (s := s.replied n r)
  refine transactionReplied_as hd r ?_ ?_
  · rw [h, hbus, putBack_congr (s := s) (t := s.replied n r) hflight]
    exact congrArg (fun q => ({ (s.replied n r).bus with inFlight := none, queue := q ++ putBack s } :
      Bus)) hqueue
  · rw [h, hmail]
    exact congrArg (fun o => ({ (s.replied n r).mail with outcomes := o } : Mail)) hout

end

/-! ### A failure -/

section
variable {n : Nat} {d : NodeRecord} (hd : s.node n = some d) (o : TransactionOutcome)
include hd

theorem countFailure_of_losing (h : 3 ≤ d.failures + 1 ∧ d.state ≠ .lost) : s.countFailure n o =
    ((s.setNode n { d with state := .lost, failures := 3, lastOutcome := some o }).withdrawOrder
      n .dropped).tellLost n := by
  unfold State.countFailure
  rw [hd]
  exact if_pos h

theorem countFailure_of_counting (h : ¬(3 ≤ d.failures + 1 ∧ d.state ≠ .lost)) : s.countFailure n o =
    s.setNode n { d with failures := min (d.failures + 1) 3, lastOutcome := some o } := by
  unfold State.countFailure
  rw [hd]
  exact if_neg h

end

theorem orderFailed_of_none (h : s.bus.inFlight = none) : s.orderFailed = s := by
  unfold State.orderFailed
  rw [h]

section
variable {f : InFlight} (hf : s.bus.inFlight = some f)
include hf

theorem orderFailed_of_dropped (h : s.nodeState f.order.opening = some .lost ∨ 3 ≤ f.attempts) :
    s.orderFailed = s.endOrder f .dropped := by
  unfold State.orderFailed
  rw [hf]
  exact if_pos h

variable (hd : ¬(s.nodeState f.order.opening = some .lost ∨ 3 ≤ f.attempts))
include hd

theorem orderFailed_of_barred (h : s.orderAllowed f.order.opening = false) :
    s.orderFailed = (s.endOrder f .discarded).takeNextOrder := by
  unfold State.orderFailed
  rw [hf]
  exact (if_neg hd).trans (if_pos h)

variable (ha : s.orderAllowed f.order.opening = true)
include ha

theorem orderFailed_of_superseded (h : f.superseded = true) :
    s.orderFailed = s.endOrder f .discarded := by
  unfold State.orderFailed
  rw [hf]
  exact (if_neg hd).trans ((if_neg (by simp [ha])).trans (if_pos h))

theorem orderFailed_of_repeated (h : f.superseded = false) :
    s.orderFailed = s.sendOrder f.order (f.attempts + 1) f.superseded := by
  unfold State.orderFailed
  rw [hf]
  exact (if_neg hd).trans ((if_neg (by simp [ha])).trans (if_neg (by simp [h])))

end

/-- From `s` to `t` no node record changed, and no reply and no loss was told. -/
def nodesKept (s t : State) : Prop :=
  t.bus.nodes = s.bus.nodes ∧ t.mail.replies = s.mail.replies ∧ t.mail.lost = s.mail.lost

theorem nodesKept.trans (h : nodesKept s t) (h' : nodesKept t u) : nodesKept s u :=
  ⟨h'.1.trans h.1, h'.2.1.trans h.2.1, h'.2.2.trans h.2.2⟩

theorem endOrder_nodesKept (s : State) (f : InFlight) (e : OrderEnd) : nodesKept s (s.endOrder f e) := by
  unfold State.endOrder
  dsimp only
  split <;> exact ⟨rfl, rfl, rfl⟩

theorem takeNextOrder_nodesKept (s : State) : nodesKept s s.takeNextOrder := by
  unfold State.takeNextOrder
  dsimp only
  split <;> exact ⟨rfl, rfl, rfl⟩

theorem orderFailed_nodesKept (s : State) : nodesKept s s.orderFailed := by
  unfold State.orderFailed
  split
  · split
    · exact endOrder_nodesKept _ _ _
    · split
      · exact (endOrder_nodesKept _ _ _).trans (takeNextOrder_nodesKept _)
      · split
        · exact endOrder_nodesKept _ _ _
        · exact ⟨rfl, rfl, rfl⟩
  · exact ⟨rfl, rfl, rfl⟩

theorem endBusEvent_nodesKept (s before : State) : nodesKept s (s.endBusEvent before) := by
  obtain ⟨later, hm⟩ := endBusEvent_mail s before
  exact ⟨congrArg Bus.nodes (endBusEvent_bus s before), by rw [hm], by rw [hm]⟩

/-- A failure counted, before the order in flight is dealt with. -/
def State.failed (s : State) (n : Nat) (o : TransactionOutcome) : State :=
  (s.setBus (s.bus.endTransaction s.store n)).countFailure n o

theorem transactionFailed_eq (s : State) (n : Nat) (o : TransactionOutcome) :
    s.transactionFailed n o = (s.failed n o).orderFailed.endBusEvent s := rfl

theorem transactionFailed_bus (s : State) (n : Nat) (o : TransactionOutcome) :
    (s.transactionFailed n o).bus = (s.failed n o).orderFailed.bus := endBusEvent_bus _ _

theorem transactionFailed_outcomes (s : State) (n : Nat) (o : TransactionOutcome) :
    (s.transactionFailed n o).mail.outcomes = (s.failed n o).orderFailed.mail.outcomes := by
  obtain ⟨later, hm⟩ := endBusEvent_mail (s.failed n o).orderFailed s
  rw [transactionFailed_eq, hm]

theorem transactionFailed_nodesKept (s : State) (n : Nat) (o : TransactionOutcome) :
    nodesKept (s.failed n o) (s.transactionFailed n o) :=
  (orderFailed_nodesKept _).trans (endBusEvent_nodesKept _ s)

theorem nodesKept.node (h : nodesKept s t) (n : Nat) : t.node n = s.node n := by
  rw [State.node, h.1]
  rfl

section
variable {n : Nat} {d : NodeRecord} (hd : s.node n = some d) (o : TransactionOutcome)
include hd

section
variable (h : 3 ≤ d.failures + 1 ∧ d.state ≠ .lost)
include h

/-- The third failure in a row: the node is LOST and its queued order dropped. -/
theorem failed_of_losing : (s.failed n o).node n =
      some { d with state := .lost, failures := 3, lastOutcome := some o } ∧
    (s.failed n o).bus.inFlight = s.bus.inFlight ∧ (s.failed n o).bus.transaction = none ∧
    (s.failed n o).bus.queue = queueWithout s n ∧
    (s.failed n o).mail = { s.mail with
      lost := s.mail.lost ++ [n], outcomes := s.mail.outcomes ++ queueTold s n .dropped } := by
  have hd0 : (s.setBus (s.bus.endTransaction s.store n)).node n = some d := hd
  have hlost : s.failed n o = _ := countFailure_of_losing hd0 o h
  have hbus := withdrawOrder_bus ((s.setBus (s.bus.endTransaction s.store n)).setNode n
    { d with state := .lost, failures := 3, lastOutcome := some o }) n .dropped
  have hmail := withdrawOrder_mail ((s.setBus (s.bus.endTransaction s.store n)).setNode n
    { d with state := .lost, failures := 3, lastOutcome := some o }) n .dropped
  have hb : (s.failed n o).bus = _ := (congrArg State.bus hlost).trans hbus
  refine ⟨?_, by rw [hb]; rfl, by rw [hb]; rfl, by rw [hb]; rfl, ?_⟩
  · rw [State.node, hb]
    exact node_setNode_self hd0 _
  · rw [hlost, State.tellLost, State.setMail_mail, hmail]
    rfl

theorem orderFailed_of_losing (hf : ∀ f, s.bus.inFlight = some f → f.order.opening = n) :
    (s.failed n o).orderFailed.bus = { (s.failed n o).bus with inFlight := none } ∧
      (s.failed n o).orderFailed.mail.outcomes =
        (s.failed n o).mail.outcomes ++ flightTold s .dropped := by
  obtain ⟨hnode, hflight, -, -, -⟩ := failed_of_losing hd o h
  cases hfl : s.bus.inFlight with
  | none =>
    rw [hfl] at hflight
    have htold : flightTold s .dropped = [] := by rw [flightTold, hfl]
    rw [orderFailed_of_none hflight, htold, List.append_nil, ← hflight]
    exact ⟨rfl, rfl⟩
  | some f =>
    have hfl' := hflight.trans hfl
    rw [orderFailed_of_dropped hfl' (.inl (by rw [hf f hfl, nodeState_eq hnode])), endOrder_bus,
      endOrder_mail hfl', flightTold_congr hflight]
    exact ⟨rfl, rfl⟩

end

section
variable (h : ¬(3 ≤ d.failures + 1 ∧ d.state ≠ .lost))
include h

/-- A failure that does not lose the node is counted in its record. -/
theorem failed_of_counting : s.failed n o = (s.setBus (s.bus.endTransaction s.store n)).setNode n
    { d with failures := min (d.failures + 1) 3, lastOutcome := some o } :=
  countFailure_of_counting (s := s.setBus (s.bus.endTransaction s.store n)) hd o h

theorem failed_node : (s.failed n o).node n =
    some { d with failures := min (d.failures + 1) 3, lastOutcome := some o } := by
  rw [failed_of_counting hd o h]
  exact node_setNode_self (s := s.setBus (s.bus.endTransaction s.store n)) hd _

theorem failed_mail : (s.failed n o).mail = s.mail := by
  rw [failed_of_counting hd o h]
  rfl

theorem failed_queue : (s.failed n o).bus.queue = s.bus.queue ∧
    (s.failed n o).bus.inFlight = s.bus.inFlight ∧ (s.failed n o).bus.transaction = none ∧
    (s.failed n o).bus.lastTurn = s.bus.lastTurn := by
  rw [failed_of_counting hd o h]
  exact ⟨rfl, rfl, rfl, rfl⟩

theorem failed_nodeState (k : Nat) : (s.failed n o).nodeState k = s.nodeState k := by
  rw [failed_of_counting hd o h]
  exact nodeState_setNode (s := s.setBus (s.bus.endTransaction s.store n))
    (d' := { d with failures := min (d.failures + 1) 3, lastOutcome := some o }) hd rfl k

theorem failed_orderAllowed (k : Nat) : (s.failed n o).orderAllowed k = s.orderAllowed k := by
  have hmove : (s.failed n o).moveState k = s.moveState k := by
    rw [failed_of_counting hd o h]
    rfl
  rw [State.orderAllowed, failed_nodeState hd o h, hmove]
  rfl

end
end

theorem endOrder_orderAllowed (s : State) (f : InFlight) (e : OrderEnd) (k : Nat) :
    (s.endOrder f e).orderAllowed k = s.orderAllowed k := by
  unfold State.endOrder
  dsimp only
  split <;> rfl

/-- What is told of the entries discarded at the check of R155. -/
def discardedTold (os : List Order) : List OutcomeTold :=
  os.map fun o => { opening := o.opening, ending := .discarded }

section
variable {f : InFlight} (hf : s.bus.inFlight = some f)
include hf

/-- The order in flight fails the check, and the first queued entry that passes is sent in its place. -/
theorem discarded_takeNextOrder {bad rest : List Order} {o : Order}
    (hq : s.bus.queue = bad ++ o :: rest) (hbad : ∀ e ∈ bad, s.orderAllowed e.opening = false)
    (ho : s.orderAllowed o.opening = true) :
    ((s.endOrder f .discarded).takeNextOrder).bus = { s.bus with
        queue := rest
        inFlight := some { order := o, attempts := 1, superseded := false }
        transaction := some { node := o.opening, request := orderFrame o, discard := false } } ∧
      ((s.endOrder f .discarded).takeNextOrder).mail.outcomes =
        s.mail.outcomes ++ flightTold s .discarded ++ discardedTold bad := by
  have hqueue : (s.endOrder f .discarded).bus.queue = bad ++ o :: rest := by rw [endOrder_bus, ← hq]
  rw [takeNextOrder_of_allowed _ bad o rest hqueue
    (fun e he => (endOrder_orderAllowed _ _ _ _).trans (hbad e he))
    ((endOrder_orderAllowed _ _ _ _).trans ho)]
  refine ⟨?_, ?_⟩
  · change ({ (s.endOrder f .discarded).bus with queue := _, inFlight := _, transaction := _ } : Bus) = _
    rw [endOrder_bus]
    rfl
  · change (s.endOrder f .discarded).mail.outcomes ++ _ = _
    rw [endOrder_mail hf]
    rfl

theorem discarded_takeNextOrder_none (hbad : ∀ e ∈ s.bus.queue, s.orderAllowed e.opening = false) :
    ((s.endOrder f .discarded).takeNextOrder).bus = { s.bus with queue := [], inFlight := none } ∧
      ((s.endOrder f .discarded).takeNextOrder).mail.outcomes =
        s.mail.outcomes ++ flightTold s .discarded ++ discardedTold s.bus.queue := by
  have hqueue : (s.endOrder f .discarded).bus.queue = s.bus.queue := by rw [endOrder_bus]
  rw [takeNextOrder_of_none_allowed _ fun e he => (endOrder_orderAllowed _ _ _ _).trans
    (hbad e (hqueue ▸ he)), hqueue]
  refine ⟨?_, ?_⟩
  · change ({ (s.endOrder f .discarded).bus with queue := [] } : Bus) = _
    rw [endOrder_bus]
  · change (s.endOrder f .discarded).mail.outcomes ++ _ = _
    rw [endOrder_mail hf]
    rfl

end

/-- A failure that does not lose the node, with the order in flight sent fewer than three times: sent
again, discarded superseded, or discarded at the check with the turn passed on. -/
theorem failed_inFlight {n : Nat} {d : NodeRecord} (hd : s.node n = some d) (o : TransactionOutcome)
    (h : ¬(3 ≤ d.failures + 1 ∧ d.state ≠ .lost)) {f : InFlight} (hf : s.bus.inFlight = some f)
    (hn : f.order.opening = n) (hatt : f.attempts < 3) (hst : d.state ≠ .lost) :
    let t := s.transactionFailed n o
    (s.orderAllowed n = true → f.superseded = false →
      t.bus.inFlight = some { f with attempts := f.attempts + 1 } ∧
      t.bus.transaction = some { node := n, request := orderFrame f.order, discard := false } ∧
      t.bus.queue = s.bus.queue ∧ t.mail.outcomes = s.mail.outcomes) ∧
    (s.orderAllowed n = true → f.superseded = true →
      t.bus.inFlight = none ∧ t.bus.transaction = none ∧ t.bus.queue = s.bus.queue ∧
      t.mail.outcomes = s.mail.outcomes) ∧
    (s.orderAllowed n = false →
      t.bus.lastTurn = s.bus.lastTurn ∧
      (∀ bad o rest, s.bus.queue = bad ++ o :: rest →
        (∀ e ∈ bad, s.orderAllowed e.opening = false) → s.orderAllowed o.opening = true →
        t.bus.queue = rest ∧
        t.bus.inFlight = some { order := o, attempts := 1, superseded := false } ∧
        t.bus.transaction = some { node := o.opening, request := orderFrame o, discard := false } ∧
        t.mail.outcomes = s.mail.outcomes ++ flightTold s .discarded ++ discardedTold bad) ∧
      ((∀ e ∈ s.bus.queue, s.orderAllowed e.opening = false) →
        t.bus.queue = [] ∧ t.bus.inFlight = none ∧ t.bus.transaction = none ∧
        t.mail.outcomes =
          s.mail.outcomes ++ flightTold s .discarded ++ discardedTold s.bus.queue)) := by
  intro t
  obtain ⟨hqueue, hfl, htrans, hturn⟩ := failed_queue hd o h
  have hmail := failed_mail hd o h
  have hallow := failed_orderAllowed hd o h
  have hf' := hfl.trans hf
  have hgo : ¬((s.failed n o).nodeState f.order.opening = some .lost ∨ 3 ≤ f.attempts) := by
    rw [hn, failed_nodeState hd o h, nodeState_eq hd, Option.some.injEq]
    exact fun h => h.elim hst fun h => by omega
  have hbus : t.bus = (s.failed n o).orderFailed.bus := transactionFailed_bus s n o
  have hout : t.mail.outcomes = (s.failed n o).orderFailed.mail.outcomes :=
    transactionFailed_outcomes s n o
  have hfa : (s.failed n o).orderAllowed f.order.opening = s.orderAllowed n := by rw [hn, hallow]
  have htold : ∀ e, flightTold (s.failed n o) e = flightTold s e := fun e => flightTold_congr hfl e
  refine ⟨fun ha hsup => ?_, fun ha hsup => ?_, fun ha => ?_⟩
  · rw [hbus, hout, orderFailed_of_repeated hf' hgo (hfa.trans ha) hsup, State.sendOrder,
      State.setBus_bus, State.setBus_mail, hmail, hn]
    exact ⟨rfl, rfl, hqueue, rfl⟩
  · have hnone : flightTold s .discarded = [] := by
      rw [flightTold, hf]
      exact if_pos hsup
    rw [hbus, hout, orderFailed_of_superseded hf' hgo (hfa.trans ha) hsup, endOrder_bus,
      endOrder_mail hf', htold, hnone, hmail]
    exact ⟨rfl, htrans, hqueue, List.append_nil _⟩
  · rw [hbus, hout, orderFailed_of_barred hf' hgo (hfa.trans ha)]
    refine ⟨?_, fun bad o' rest hq hbad ho => ?_, fun hbad => ?_⟩
    · rw [(takeNextOrder_sameTurn _).2, endOrder_bus]
      exact hturn
    · obtain ⟨hb, hm⟩ := discarded_takeNextOrder hf' (hqueue.trans hq)
        (fun e he => (hallow _).trans (hbad e he)) ((hallow _).trans ho)
      rw [hb, hm, htold, hmail]
      exact ⟨rfl, rfl, rfl, rfl⟩
    · obtain ⟨hb, hm⟩ := discarded_takeNextOrder_none hf' fun e he =>
        (hallow _).trans (hbad e (hqueue ▸ he))
      rw [hb, hm, htold, hmail, hqueue]
      exact ⟨rfl, rfl, htrans, rfl⟩

/-! ### The rows -/

section
variable {x : Transaction} (hx : s.bus.transaction = some x) (hdisc : x.discard = false)
include hx hdisc

theorem replyReceived_of_valid {bytes : List Byte} {r : DriveReply}
    (h : validReply x.node bytes = some r) :
    exec (.replyReceived bytes) s = .next (s.transactionReplied x.node r) := by
  have hlen := validReply_length h
  have hne : bytes ≠ [] := fun hb => by
    rw [hb] at hlen
    cases hlen
  change execReplyReceived bytes s = _
  simp only [execReplyReceived, hx, if_neg hne, hdisc, Bool.false_eq_true, if_false,
    List.take_of_length_le hlen.le, h]

theorem failed_exec {c : Instr} {o : TransactionOutcome}
    (h : (c = .noReply ∧ o = .noReply) ∨ (o = .corrupt ∧ ∃ bytes, c = .replyReceived bytes ∧
      bytes ≠ [] ∧ (bytes.length < 6 ∨ validReply x.node (bytes.take 6) = none))) :
    exec c s = .next (s.transactionFailed x.node o) := by
  obtain ⟨rfl, rfl⟩ | ⟨rfl, bytes, rfl, hne, hbad⟩ := h
  · change execNoReply s = _
    simp only [execNoReply, hx, hdisc, Bool.false_eq_true, if_false]
  · have hinvalid : validReply x.node (bytes.take 6) = none := by
      refine hbad.elim (fun hlen => ?_) id
      by_contra hsome
      obtain ⟨r, hr⟩ := Option.ne_none_iff_exists'.mp hsome
      have hlen6 := validReply_length hr
      rw [List.length_take] at hlen6
      omega
    change execReplyReceived bytes s = _
    simp only [execReplyReceived, hx, if_neg hne, hdisc, Bool.false_eq_true, if_false, hinvalid]

end

end Sys2Proof.Machine
namespace Sys2Proof.Proofs
open Sys2Proof.Machine

/-- Settles O55: a reply ends the order in flight by its own outcome, and a failure by the count of
failures, the attempts made and the check of R155. -/
theorem transactionsUpdateNode : Obligations.TransactionsUpdateNode := by
  intro s x d hx hdisc hd hflight
  refine ⟨fun bytes r hr => ⟨_, replyReceived_of_valid hx hdisc hr, ?_⟩, fun c o hc => ?_⟩
  · have hreplied : ∃ q told, RepliedAs s (s.transactionReplied x.node r) x.node r q told :=
      (outcome_cases r).elim (fun h => ⟨_, _, transactionReplied_of_notReady hd r h⟩)
        fun ⟨e, h⟩ => ⟨_, _, transactionReplied_of_ends hd r h⟩
    obtain ⟨q, told, has⟩ := hreplied
    refine ⟨has.transaction, has.inFlight, has.node, has.replies, fun h => ?_, fun h => ?_,
      fun h hne => ?_, fun h heq => ?_⟩
    · have hends := transactionReplied_of_ends hd r (.inl ⟨h, rfl⟩)
      have hiso : ¬(r.isolated = true ∧ d.state ≠ .isolated) := fun hi => by
        rw [(outcome_isolated_iff r).mpr hi.1] at h
        exact h.elim nofun nofun
      rw [if_neg hiso, if_neg hiso] at hends
      exact ⟨hends.queue, hends.outcomes⟩
    · have hback := transactionReplied_of_notReady hd r h
      exact ⟨hback.queue, hback.outcomes.trans (List.append_nil _)⟩
    · have hends := transactionReplied_of_ends hd r (.inr ⟨h, rfl⟩)
      have hiso : r.isolated = true ∧ d.state ≠ .isolated := ⟨(outcome_isolated_iff r).mp h, hne⟩
      rw [if_pos hiso, if_pos hiso] at hends
      exact ⟨hends.queue, hends.outcomes.trans (List.append_assoc _ _ _).symm⟩
    · have hends := transactionReplied_of_ends hd r (.inr ⟨h, rfl⟩)
      have hiso : ¬(r.isolated = true ∧ d.state ≠ .isolated) := fun hi => hi.2 heq
      rw [if_neg hiso, if_neg hiso] at hends
      exact ⟨hends.queue, hends.outcomes⟩
  · have hkept := transactionFailed_nodesKept s x.node o
    by_cases hlose : 3 ≤ d.failures + 1 ∧ d.state ≠ .lost
    · obtain ⟨hnode, -, htrans, hqueue, hmail⟩ := failed_of_losing hd o hlose
      obtain ⟨hbus, hout⟩ := orderFailed_of_losing hd o hlose hflight
      refine ⟨_, _, failed_exec hx hdisc hc, (hkept.node _).trans hnode, rfl, by simp; omega, rfl,
        by rw [hkept.2.1, hmail], fun _ _ => ⟨rfl, ?_, ?_, ?_, ?_, ?_⟩, fun h => ?_,
        fun f _ _ h _ => ?_⟩
      · rw [transactionFailed_bus, hbus]
        exact htrans
      · rw [transactionFailed_bus, hbus]
      · rw [transactionFailed_bus, hbus]
        exact hqueue
      · rw [hkept.2.2, hmail]
      · rw [transactionFailed_outcomes, hout, hmail]
      · exact h.elim (fun h => by omega) fun h => absurd h hlose.2
      · omega
    · have hnode := failed_node hd o hlose
      have hmail := failed_mail hd o hlose
      obtain ⟨hqueue, hfl, htrans, hturn⟩ := failed_queue hd o hlose
      refine ⟨_, _, failed_exec hx hdisc hc, (hkept.node _).trans hnode, rfl, rfl, rfl,
        by rw [hkept.2.1, hmail], fun h hne => absurd ⟨h, hne⟩ hlose,
        fun _ => ⟨rfl, by rw [hkept.2.2, hmail], fun hnone => ?_⟩, fun f hf hatt _ hst => ?_⟩
      · rw [transactionFailed_bus, transactionFailed_outcomes, orderFailed_of_none (hfl.trans hnone),
          hmail]
        exact ⟨htrans, hfl.trans hnone, hqueue, rfl⟩
      · exact failed_inFlight hd o hlose hf (hflight f hf) hatt hst

end Sys2Proof.Proofs
end

section
/-! PROOFS. The frame within a block: a command on one zone, station, opening, node, slot or sensor leaves
the others of its kind as they stood. -/
namespace Sys2Proof.Machine
open Sys2Proof
variable {s t u : State}

/-! ### Zones -/

/-- From `s` to `t` no zone but `z` changed. -/
def otherZonesKept (z : Nat) (s t : State) : Prop := ∀ y, y ≠ z → t.zone y = s.zone y

namespace otherZonesKept
variable {z : Nat}

theorem refl (z : Nat) (s : State) : otherZonesKept z s s := fun _ _ => rfl

theorem trans (h : otherZonesKept z s t) (h' : otherZonesKept z t u) : otherZonesKept z s u :=
  fun y hy => (h' y hy).trans (h y hy)

theorem of_frame {bs : List Block} (h : sameOutside bs s t) (hb : Block.fire ∉ bs) :
    otherZonesKept z s t := fun y _ => zone_of_frame h hb y

theorem setZone (s : State) (r : Zone) : otherZonesKept z s (s.setZone z r) :=
  fun _ hy => zone_setZone_ne hy r

theorem endFireEvent (s before : State) : otherZonesKept z s (s.endFireEvent before [z]) := fun y hy => by
  rw [endFireEvent_zone]
  exact evalLampsOf_zone_of_not_mem (by simpa using hy)

theorem acceptLine (s : State) (c : LineClass) (left : Nat) :
    otherZonesKept z s (s.acceptLine z c left) := by
  cases hr : s.zone z with
  | none =>
    unfold State.acceptLine
    rw [hr]
    exact refl z s
  | some r =>
    rw [acceptLine_eq hr]
    exact trans (fun y hy => accepted_zone_ne hy r c left) (endFireEvent _ _)

theorem sampleLine (s : State) (count : BitVec 10) : otherZonesKept z s (s.sampleLine z count) := by
  unfold State.sampleLine
  split
  · dsimp only
    split
    · exact setZone s _
    · split
      · split
        · exact (setZone s _).trans (acceptLine _ _ _)
        · exact setZone s _
      · exact setZone s _
  · exact refl z s

theorem acceptSwitch (s : State) (r : Zone) : otherZonesKept z s (s.acceptSwitch z r) := by
  unfold State.acceptSwitch
  dsimp only
  split
  · exact setZone s _
  · exact ((setZone s _).trans (of_frame (actOnSwitch_frame _ _ _) (by simp))).trans (endFireEvent _ _)

end otherZonesKept

theorem zoneCommand_otherZonesKept {z : Nat} {c : Instr}
    (hc : (∃ x, c = .zoneLineSample z x) ∨ (∃ left, c = .lineAcceptance z left) ∨
      (∃ a b, c = .firemanSwitchChange z a b) ∨ c = .switchAcceptance z)
    (h : exec c s = .next t) : otherZonesKept z s t := by
  obtain ⟨x, rfl⟩ | ⟨left, rfl⟩ | ⟨a, b, rfl⟩ | rfl := hc
  · change execZoneLineSample z x s = _ at h
    unfold execZoneLineSample at h
    split at h <;> cases h
    exact .sampleLine s x
  · have htaken : otherZonesKept z s (s.takeSteps z left) := .of_frame (takeSteps_frame s z left) (by simp)
    change execLineAcceptance z s left = _ at h
    unfold execLineAcceptance at h
    split at h
    · dsimp only at h
      split at h
      · split at h <;> cases h
        · exact htaken.trans (.acceptLine _ _ _)
        · exact htaken
      · cases h
        exact htaken
    · cases h
  · change execFiremanSwitchChange z a b s = _ at h
    unfold execFiremanSwitchChange at h
    split at h
    · split at h
      · split at h <;> cases h
        · exact .refl z s
        · exact .setZone s _
      · cases h
        exact .refl z s
    · cases h
  · change execSwitchAcceptance z s = _ at h
    unfold execSwitchAcceptance at h
    split at h
    · split at h
      · split at h <;> cases h
        · exact .acceptSwitch s _
        · exact .refl z s
      · cases h
        exact .refl z s
    · cases h

/-! ### Openings -/

/-- From `s` to `t` every opening but `n` kept its record or was granted a slot. -/
def otherMovesKept (n : Nat) (s t : State) : Prop := ∀ k, k ≠ n → t.move k = s.move k ∨
  (s.eligible k = true ∧ t.moveState k = some .breakaway)

theorem otherMovesKept_of_keptOrGranted {n : Nat} (h : ∀ k, k ≠ n → KeptOrGranted k s t) :
    otherMovesKept n s t := fun k hk =>
  (h k hk).move.imp And.left fun ⟨he, hb⟩ => ⟨he, hb.moveState⟩

theorem otherMovesKept_endMoveEvent {n : Nat} (h : ActsOn n s u) (before : State) :
    otherMovesKept n s (u.endMoveEvent before) :=
  otherMovesKept_of_keptOrGranted fun k hk =>
    (KeptOrGranted.of_spares (h.spares hk)).trans (.endMoveEvent k u before)

theorem otherMovesKept_refl (n : Nat) (s : State) : otherMovesKept n s s := fun _ _ => .inl rfl

/-- An event taken from the mail for an opening. -/
theorem otherMovesKept_taken {n : Nat} {x : Mail} (h : ActsOn n (s.setMail x) u) (before : State) :
    otherMovesKept n s (u.endMoveEvent before) := otherMovesKept_endMoveEvent (s := s.setMail x) h before

theorem clearFault_otherMovesKept (s : State) (n : Nat) : otherMovesKept n s (s.clearFault n) := by
  unfold State.clearFault
  refine otherMovesKept_endMoveEvent ?_ s
  split
  · exact returnFaulted_actsOn s n
  · exact returnFaulted_actsOn s n
  · exact .refl n s

theorem respond_otherMovesKept {n m : Nat} (h : otherMovesKept n s t) (code : Byte) (a : Answer) :
    otherMovesKept n s (t.respond m code a) := fun k hk => by
  rw [respond_move, moveState_congr (respond_move t m code a k)]
  exact h k hk

theorem windowEnd_actsOn (s : State) (n : Nat) (m : MoveRecord) : ActsOn n s
    (if runsOut m.deadline then s.moveFault n .overtime else s.judgeHeadway n) := by
  split
  · exact moveFault_actsOn s n _
  · exact judgeHeadway_actsOn s n

/-- An event taken from the mail acts on the opening it names. -/
theorem mailCommand_otherMovesKept {n : Nat} {c : Instr}
    (hc : c = .targetEvent n ∨ c = .movementReply n ∨ c = .orderOutcome n ∨ c = .nodeLostEvent n)
    (h : exec c s = .next t) : otherMovesKept n s t := by
  obtain rfl | rfl | rfl | rfl := hc
  · change execTargetEvent n s = _ at h
    unfold execTargetEvent at h
    split at h
    · split at h <;> cases h
      · next e rest he =>
        have hn := takeFirst_pred he
        obtain rfl : e.opening = n := by simpa using hn
        exact otherMovesKept_taken (onTarget_actsOn _ e) _
      · exact otherMovesKept_refl n s
    · cases h
  · change execMovementReply n s = _ at h
    unfold execMovementReply at h
    split at h
    · split at h <;> cases h
      · next r rest hr =>
        have hn := takeFirst_pred hr
        obtain rfl : r.opening = n := by simpa using hn
        exact otherMovesKept_taken (onReply_actsOn _ r) _
      · exact otherMovesKept_refl n s
    · cases h
  · change execOrderOutcome n s = _ at h
    unfold execOrderOutcome at h
    split at h
    · split at h <;> cases h
      · next o rest ho =>
        have hn := takeFirst_pred ho
        obtain rfl : o.opening = n := by simpa using hn
        exact otherMovesKept_taken (onOutcome_actsOn _ o) _
      · exact otherMovesKept_refl n s
    · cases h
  · change execNodeLostEvent n s = _ at h
    unfold execNodeLostEvent at h
    split at h
    · split at h <;> cases h
      · exact otherMovesKept_taken (onLost_actsOn _ n) _
      · exact otherMovesKept_refl n s
    · cases h

/-- A timer's row, where it acts on its opening or does nothing. -/
theorem timerCommand_otherMovesKept {n : Nat} {c : Instr}
    (hc : c = .breakawayEnd n ∨ c = .overtime n ∨ c = .progressWindowEnd n ∨ c = .noStop n ∨
      c = .retryTimerEnd n ∨ c = .startWaitRise n)
    (h : exec c s = .next t) : otherMovesKept n s t := by
  have hrow : t = s ∨ ∃ u, ActsOn n s u ∧ t = u.endMoveEvent s := by
    obtain rfl | rfl | rfl | rfl | rfl | rfl := hc
    · change execBreakawayEnd n s = _ at h
      unfold execBreakawayEnd at h
      split at h
      · split at h
        · split at h <;> cases h
          · exact .inr ⟨_, endBreakaway_actsOn s n, rfl⟩
          · exact .inl rfl
        · cases h
          exact .inl rfl
      · cases h
    · change execOvertime n s = _ at h
      unfold execOvertime at h
      split at h
      · split at h
        · split at h <;> cases h
          · exact .inr ⟨_, moveFault_actsOn s n .overtime, rfl⟩
          · exact .inl rfl
        · cases h
          exact .inl rfl
      · cases h
    · change execProgressWindowEnd n s = _ at h
      unfold execProgressWindowEnd at h
      split at h
      · split at h
        · split at h <;> cases h
          · exact .inr ⟨_, windowEnd_actsOn s n _, rfl⟩
          · exact .inl rfl
        · cases h
          exact .inl rfl
      · cases h
    · change execNoStop n s = _ at h
      unfold execNoStop at h
      split at h
      · split at h
        · split at h <;> cases h
          · exact .inr ⟨_, moveFault_actsOn s n .noStop, rfl⟩
          · exact .inl rfl
        · cases h
          exact .inl rfl
      · cases h
    · change execRetryTimerEnd n s = _ at h
      unfold execRetryTimerEnd at h
      split at h
      · split at h
        · split at h <;> cases h
          · exact .inr ⟨_, enterAtRest_actsOn s n, rfl⟩
          · exact .inl rfl
        · cases h
          exact .inl rfl
      · cases h
    · change execStartWaitRise n s = _ at h
      unfold execStartWaitRise at h
      split at h
      · split at h
        · split at h <;> cases h
          · exact .inr ⟨_, setMove_actsOn s n _, rfl⟩
          · exact .inl rfl
        · cases h
          exact .inl rfl
      · cases h
  obtain rfl | ⟨u, hu, rfl⟩ := hrow
  · exact otherMovesKept_refl n t
  · exact otherMovesKept_endMoveEvent hu s

theorem moveCommand_otherMovesKept {n : Nat} {c : Instr}
    (hc : c = .targetEvent n ∨ c = .movementReply n ∨ c = .orderOutcome n ∨ c = .nodeLostEvent n ∨
      c = .breakawayEnd n ∨ c = .overtime n ∨ c = .progressWindowEnd n ∨ c = .noStop n ∨
      c = .retryTimerEnd n ∨ c = .startWaitRise n ∨ ∃ m x, c = .clearFault m x ∧ n = x.toNat)
    (h : exec c s = .next t) : otherMovesKept n s t := by
  obtain hc | hc | hc | hc | hc | hc | hc | hc | hc | hc | ⟨m, x, rfl, rfl⟩ := hc
  · exact mailCommand_otherMovesKept (.inl hc) h
  · exact mailCommand_otherMovesKept (.inr (.inl hc)) h
  · exact mailCommand_otherMovesKept (.inr (.inr (.inl hc))) h
  · exact mailCommand_otherMovesKept (.inr (.inr (.inr hc))) h
  · exact timerCommand_otherMovesKept (.inl hc) h
  · exact timerCommand_otherMovesKept (.inr (.inl hc)) h
  · exact timerCommand_otherMovesKept (.inr (.inr (.inl hc))) h
  · exact timerCommand_otherMovesKept (.inr (.inr (.inr (.inl hc)))) h
  · exact timerCommand_otherMovesKept (.inr (.inr (.inr (.inr (.inl hc))))) h
  · exact timerCommand_otherMovesKept (.inr (.inr (.inr (.inr (.inr hc))))) h
  · change execClearFault m x s = _ at h
    unfold execClearFault at h
    split at h <;> cases h
    · refine respond_otherMovesKept (t := (s.requestClearFault x).1) ?_ _ _
      unfold State.requestClearFault
      dsimp only
      split
      · exact clearFault_otherMovesKept s x.toNat
      · exact otherMovesKept_refl _ s
    · exact otherMovesKept_refl _ _

/-! ### Nodes -/

/-- From `s` to `t` no node record but that of `n` changed. -/
def otherNodesKept (n : Nat) (s t : State) : Prop := ∀ k, k ≠ n → t.node k = s.node k

theorem otherNodesKept.trans {n : Nat} (h : otherNodesKept n s t) (h' : otherNodesKept n t u) :
    otherNodesKept n s u := fun k hk => (h' k hk).trans (h k hk)

theorem otherNodesKept_of_nodes {n : Nat} (h : t.bus.nodes = s.bus.nodes) : otherNodesKept n s t :=
  fun k _ => by
    rw [State.node, h]
    rfl

theorem setNode_otherNodesKept (s : State) (n : Nat) (d : NodeRecord) :
    otherNodesKept n s (s.setNode n d) := fun _ hk => nthSome_setNth_ne _ _ _ _ hk

theorem takeReply_otherNodesKept (s : State) (n : Nat) (r : DriveReply) :
    otherNodesKept n s (s.takeReply n r) := by
  unfold State.takeReply
  split
  · dsimp only
    split
    · exact (setNode_otherNodesKept s n _).trans (otherNodesKept_of_nodes (by rw [withdrawOrder_bus]; rfl))
    · exact setNode_otherNodesKept s n _
  · exact otherNodesKept_of_nodes rfl

theorem countFailure_otherNodesKept (s : State) (n : Nat) (o : TransactionOutcome) :
    otherNodesKept n s (s.countFailure n o) := by
  unfold State.countFailure
  split
  · next d _ =>
    split
    · refine (setNode_otherNodesKept s n
        { d with state := .lost, failures := 3, lastOutcome := some o }).trans
        (otherNodesKept_of_nodes ?_)
      change (State.withdrawOrder _ _ _).bus.nodes = _
      rw [withdrawOrder_bus]
    · exact setNode_otherNodesKept s n _
  · exact otherNodesKept_of_nodes rfl

theorem orderReplied_nodes (s : State) (o : TransactionOutcome) :
    (s.orderReplied o).bus.nodes = s.bus.nodes := by
  unfold State.orderReplied
  split
  · split
    · rw [endOrder_bus]
    · rw [endOrder_bus]
    · unfold State.requeueOrder
      dsimp only
      split <;> rfl
    · rw [endOrder_bus]
    · rfl
    · rfl
  · rfl

theorem transactionReplied_otherNodesKept (s : State) (n : Nat) (r : DriveReply) :
    otherNodesKept n s (s.transactionReplied n r) :=
  (takeReply_otherNodesKept (s.setBus (s.bus.endTransaction s.store n)) n r).trans
    (otherNodesKept_of_nodes ((congrArg Bus.nodes (endBusEvent_bus _ s)).trans (orderReplied_nodes _ _)))

theorem transactionFailed_otherNodesKept (s : State) (n : Nat) (o : TransactionOutcome) :
    otherNodesKept n s (s.transactionFailed n o) :=
  (countFailure_otherNodesKept (s.setBus (s.bus.endTransaction s.store n)) n o).trans
    (otherNodesKept_of_nodes (transactionFailed_nodesKept s n o).1)

theorem busCommand_otherNodesKept {c : Instr} {x : Transaction}
    (hc : c = .noReply ∨ ∃ bytes, c = .replyReceived bytes) (hx : s.bus.transaction = some x)
    (h : exec c s = .next t) : otherNodesKept x.node s t := by
  obtain rfl | ⟨bytes, rfl⟩ := hc
  · change execNoReply s = _ at h
    unfold execNoReply at h
    rw [hx] at h
    dsimp only at h
    split at h <;> cases h
    · exact otherNodesKept_of_nodes rfl
    · exact transactionFailed_otherNodesKept s _ _
  · change execReplyReceived bytes s = _ at h
    unfold execReplyReceived at h
    rw [hx] at h
    dsimp only at h
    split at h
    · cases h
      exact otherNodesKept_of_nodes rfl
    · split at h
      · cases h
        exact otherNodesKept_of_nodes rfl
      · split at h <;> cases h
        · exact transactionReplied_otherNodesKept s _ _
        · exact transactionFailed_otherNodesKept s _ _

/-! ### Slots -/

/-- From `d` to `d'` every slot but `slot` kept its handle and its record, but for a wait restored. -/
def otherSlotsKept (slot : Nat) (d d' : DemandTable) : Prop :=
  ∀ k, k ≠ slot → d'.handleOf k = d.handleOf k ∧ (d.inSlot k = none → d'.inSlot k = none) ∧
    ∀ r, d.inSlot k = some r →
      d'.inSlot k = some r ∨ d'.inSlot k = some { r with waitRemaining := r.waitLimit }

theorem otherSlotsKept_refl (slot : Nat) (d : DemandTable) : otherSlotsKept slot d d :=
  fun _ _ => ⟨rfl, id, fun _ h => .inl h⟩

/-- Waits restored after an operation on one slot. -/
theorem otherSlotsKept_restoreWaits {slot : Nat} {d d' : DemandTable}
    (h : ∀ k, k ≠ slot → d'.handleOf k = d.handleOf k ∧ d'.inSlot k = d.inSlot k) :
    otherSlotsKept slot d d'.restoreWaits := fun k hk => by
  obtain ⟨hh, hs⟩ := h k hk
  refine ⟨(DemandTable.restoreWaits_handleOf _ _).trans hh, fun hn => ?_, fun r hr => ?_⟩
  · rw [DemandTable.restoreWaits_inSlot, hs, hn]
    rfl
  · rw [DemandTable.restoreWaits_inSlot, hs, hr, Option.map_some]
    exact (waitKept_eq_or d' _ r).imp (congrArg some) (congrArg some)

theorem retireSlot_otherSlotsKept (s : State) (k : Nat) (reason : RetireReason) :
    otherSlotsKept k s.demand (s.retireSlot k reason).demand := by
  rw [retireSlot_demand]
  exact otherSlotsKept_restoreWaits fun j hj => ⟨DemandRun.retire_handleOf_ne _ _ _ hj, by
    rw [DemandRun.retire_inSlot, if_neg hj]
    rfl⟩

theorem carryOutAdjust_otherSlotsKept {h : Handle} {r : DemandRecord} (hr : s.demand.find h = some r)
    (delta : Int) : otherSlotsKept h.slot s.demand (s.carryOutAdjust h r delta).1.demand := by
  rw [carryOutAdjust_demand]
  have hlt := s.demand.lt_of_inSlot (s.demand.inSlot_of_find hr)
  exact otherSlotsKept_restoreWaits fun j hj => ⟨DemandTable.rewrite_handleOf _ _ _ _, by
    rw [DemandTable.rewrite_inSlot _ hlt, if_neg hj]⟩

theorem slotCommand_otherSlotsKept {slot : Nat} {c : Instr}
    (hc : (∃ m a g d, c = .adjust m a g d ∧ slot = a.toNat) ∨
      (∃ m a g, c = .retire m a g ∧ slot = a.toNat) ∨ c = .recordExpired slot ∨ c = .recordStarved slot)
    (h : exec c s = .next t) : otherSlotsKept slot s.demand t.demand := by
  obtain ⟨m, a, g, d, rfl, rfl⟩ | ⟨m, a, g, rfl, rfl⟩ | rfl | rfl := hc
  · change execAdjust m a g d s = _ at h
    unfold execAdjust at h
    split at h <;> cases h
    · rw [State.takeAdjust, Answered.respond, respond_demand]
      unfold State.requestAdjust
      dsimp only
      split
      · exact otherSlotsKept_refl _ _
      · split
        · next r hr =>
          split
          · exact carryOutAdjust_otherSlotsKept hr _
          · exact otherSlotsKept_refl _ _
        · exact otherSlotsKept_refl _ _
    · exact otherSlotsKept_refl _ _
  · change execRetire m a g s = _ at h
    unfold execRetire at h
    split at h <;> cases h
    · rw [State.takeRetire, Answered.respond, respond_demand]
      unfold State.requestRetire
      dsimp only
      split
      · split
        · exact retireSlot_otherSlotsKept s _ _
        · exact otherSlotsKept_refl _ _
      · exact otherSlotsKept_refl _ _
    · exact otherSlotsKept_refl _ _
  · change execRecordExpired slot s = _ at h
    unfold execRecordExpired at h
    split at h
    · split at h
      · split at h <;> cases h
        · exact retireSlot_otherSlotsKept s _ _
        · exact otherSlotsKept_refl _ _
      · cases h
        exact otherSlotsKept_refl _ _
    · cases h
  · change execRecordStarved slot s = _ at h
    unfold execRecordStarved at h
    split at h
    · split at h
      · split at h <;> cases h
        · exact retireSlot_otherSlotsKept s _ _
        · exact otherSlotsKept_refl _ _
      · cases h
        exact otherSlotsKept_refl _ _
    · cases h

/-! ### Stations -/

/-- A record that lived in `d` and that its handle does not name in `d'`. -/
def gone (d d' : DemandTable) (r : DemandRecord) : Prop :=
  ∃ h, d.find h = some r ∧ d'.find h = none

theorem gone_restoreWaits {d d' : DemandTable} {r : DemandRecord} (h : gone d d' r) :
    gone d d'.restoreWaits r := by
  obtain ⟨x, hx, hnone⟩ := h
  exact ⟨x, hx, by rw [DemandTable.restoreWaits_find, hnone]; rfl⟩

/-- What a retirement of several slots adds to the retirements was living in one of them. -/
theorem DemandRun.retired_of_mem_retireEach {run : DemandRun} {xs : List (Nat × RetireReason)}
    {x : DemandRecord × RetireReason} (h : x ∈ (run.retireEach xs).retired) :
    x ∈ run.retired ∨ ∃ j ∈ xs.map Prod.fst, run.table.inSlot j = some x.1 := by
  induction xs generalizing run with
  | nil => exact .inl h
  | cons y ys ih =>
    obtain hx | ⟨j, hj, hjr⟩ := ih (run := run.retire y.1 y.2) h
    · cases hy : run.table.inSlot y.1 with
      | none =>
        rw [DemandRun.retire_of_none _ _ _ hy] at hx
        exact .inl hx
      | some r =>
        rw [DemandRun.retire_of_some _ _ _ hy] at hx
        obtain hx | hx := List.mem_append.mp hx
        · exact .inl hx
        · rw [List.mem_singleton.mp hx]
          exact .inr ⟨y.1, List.mem_cons_self, hy⟩
    · rw [DemandRun.retire_inSlot] at hjr
      split at hjr
      · cases hjr
      · exact .inr ⟨j, List.mem_cons_of_mem _ hj, hjr⟩

section
variable {d : DemandTable} {r : DemandRecord} {ns : List Nat} (he : r.source.evicts = false)
  {x : DemandRecord × RetireReason}
include he

/-- The record replaced is all that is retired to make room for a placement that evicts nothing. -/
theorem DemandTable.makeRoom_gone {k : Nat} (hk : d.placeSlot r ns = some k)
    (hx : x ∈ (d.run.makeRoom r ns).retired) : gone d (d.place r ns).1.table x.1 := by
  rw [DemandTable.makeRoom_of_unevicting he] at hx
  cases hm : d.matching r with
  | none =>
    rw [hm] at hx
    cases hx
  | some m =>
    obtain ⟨y, hy, -⟩ := d.matching_eq_some hm
    rw [hm] at hx
    dsimp only at hx
    rw [DemandRun.retire_of_some _ _ _ hy] at hx
    have hx1 : x = (y, .replaced) := by simpa [DemandTable.run] using hx
    rw [hx1]
    exact ⟨d.handleOf m, (d.find_handleOf m).trans hy, DemandTable.place_find_replaced he hk hm⟩

/-- What a placement that evicts nothing retires was living, and its handle names nothing after. -/
theorem DemandTable.place_gone (hx : x ∈ (d.place r ns).1.retired) :
    gone d (d.place r ns).1.table x.1 := by
  cases hk : d.placeSlot r ns with
  | none =>
    have hm : d.matching r = none := by
      unfold DemandTable.placeSlot at hk
      split at hk
      · cases hk
      · assumption
    rw [d.place_of_no_slot hk, DemandTable.makeRoom_of_unevicting he, hm] at hx
    cases hx
  | some k =>
    rw [DemandTable.place_eq hk] at hx
    obtain hroom | ⟨j, hj, hjr⟩ := DemandRun.retired_of_mem_retireEach hx
    · exact DemandTable.makeRoom_gone he hk hroom
    · have hfind : (d.placedIn r ns k).find ((d.placedIn r ns k).handleOf j) = some x.1 :=
        (DemandTable.find_handleOf _ _).trans hjr
      have hyields : (d.placedIn r ns k).yieldsAt r.cls.rank ns ((d.placedIn r ns k).handleOf j) =
          true := by
        rw [DemandTable.yieldsAt_eq, hfind, DemandTable.handleOf_slot,
          decide_eq_true (DemandTable.mem_yielded_slots.mp hj)]
        rfl
      have hne := ((DemandTable.placedIn_yieldsAt hk _).mp hyields).1
      rw [DemandTable.placedIn_find hk, if_neg hne, DemandTable.roomFor_find he] at hfind
      split at hfind
      · cases hfind
      · exact ⟨_, hfind, by rw [DemandTable.place_find hk, if_pos hyields]⟩

end

/-- From `s` to `t` every station but `n` stands as it was, but that it may have lost the handle of a
record that left the table. -/
def otherStationsKept (n : Nat) (s t : State) : Prop :=
  ∀ k st, k ≠ n → s.stationOf k = some st → ∃ st', t.stationOf k = some st' ∧
    handleKept st st' (∃ r, r.source = .station k ∧ gone s.demand t.demand r)

theorem handleKept_mono {st st' : Station} {p q : Prop} (h : handleKept st st' p) (hpq : p → q) :
    handleKept st st' q := by
  obtain ⟨x, hx, hgone⟩ := h
  exact ⟨x, hx, hgone.imp_right fun h => ⟨h.1, hpq h.2⟩⟩

theorem otherStationsKept_of_frame {n : Nat} {bs : List Block} (h : sameOutside bs s t)
    (hb : Block.stations ∉ bs) : otherStationsKept n s t := fun k st _ hst =>
  ⟨st, (stationOf_of_frame h hb k).trans hst, st.handle, rfl, .inl rfl⟩

theorem otherStationsKept_refl (n : Nat) (s : State) : otherStationsKept n s s :=
  fun _ st _ hst => ⟨st, hst, st.handle, rfl, .inl rfl⟩

/-- What follows a change of the station itself. -/
theorem otherStationsKept_of_setStation {n : Nat} {st : Station}
    (h : otherStationsKept n (s.setStation n st) t) : otherStationsKept n s t :=
  fun k st' hk hst => h k st' hk ((stationOf_setStation_ne hk st).trans hst)

theorem otherStationsKept_setStation (s : State) (n : Nat) (st : Station) :
    otherStationsKept n s (s.setStation n st) :=
  otherStationsKept_of_setStation (otherStationsKept_refl n _)

theorem otherStationsKept_setStationHandle {n : Nat} (h : otherStationsKept n s t) (x : Option Handle) :
    otherStationsKept n s (t.setStationHandle n x) := by
  unfold State.setStationHandle
  split
  · intro k st hk hst
    obtain ⟨st', hst', hkept⟩ := h k st hk hst
    exact ⟨st', (stationOf_setStation_ne hk _).trans hst', hkept⟩
  · exact h

/-- An operation of the demand manager whose retirements all left the table. -/
theorem otherStationsKept_closeOperation {n : Nat} {run : DemandRun}
    (h : ∀ x ∈ run.retired, gone s.demand run.table x.1) (adjusted : List Nat) :
    otherStationsKept n s (s.closeOperation run adjusted) := fun k st _ hst => by
  obtain ⟨st', hst', hkept⟩ := closeOperation_stationOf hst run adjusted
  refine ⟨st', hst', handleKept_mono hkept fun ⟨x, hx, hsrc⟩ => ⟨x.1, hsrc, ?_⟩⟩
  rw [closeOperation_demand]
  exact gone_restoreWaits (h x hx)

theorem retireSlot_otherStationsKept (s : State) (n k : Nat) (reason : RetireReason) :
    otherStationsKept n s (s.retireSlot k reason) := by
  refine otherStationsKept_closeOperation (fun x hx => ?_) []
  cases hr : s.demand.inSlot k with
  | none =>
    rw [DemandRun.retire_of_none _ _ _ hr] at hx
    cases hx
  | some r =>
    refine ⟨s.demand.handleOf k, ?_, ?_⟩
    · rw [DemandRun.retire_of_some _ _ _ hr] at hx
      have hx1 : x = (r, reason) := by simpa [DemandTable.run] using hx
      rw [DemandTable.find_handleOf, hr, hx1]
    · rw [DemandRun.retire_find, if_pos (DemandTable.handleOf_slot _ _)]

theorem stationPlace_otherStationsKept (s : State) (n a : Nat) :
    otherStationsKept n s (s.stationPlace n a) := by
  unfold State.stationPlace
  dsimp only
  split
  · exact otherStationsKept_of_frame (report_frame _ _ _ _) (by simp)
  · exact otherStationsKept_setStationHandle
      (otherStationsKept_closeOperation (fun x hx => DemandTable.place_gone rfl hx) []) _

theorem shortPress_otherStationsKept (s : State) (n : Nat) (b : ButtonId) :
    otherStationsKept n s (s.shortPress n b) := by
  unfold State.shortPress
  split
  · dsimp only
    unfold State.adjustOrPlace
    dsimp only
    split
    · split
      · exact otherStationsKept_setStationHandle
          (otherStationsKept_closeOperation (fun _ hx => absurd hx List.not_mem_nil) _) _
      · exact otherStationsKept_refl n s
    · exact stationPlace_otherStationsKept s n _
  · exact otherStationsKept_refl n s

theorem longPress_otherStationsKept (s : State) (n a : Nat) :
    otherStationsKept n s (s.longPress n a) := by
  unfold State.longPress
  split
  · exact stationPlace_otherStationsKept s n a
  · exact otherStationsKept_refl n s

theorem bothHeld_otherStationsKept (s : State) (n : Nat) : otherStationsKept n s (s.bothHeld n) := by
  unfold State.bothHeld
  split
  · split
    · split
      · split
        · exact retireSlot_otherStationsKept s n _ _
        · exact otherStationsKept_refl n s
      · exact otherStationsKept_refl n s
    · exact otherStationsKept_refl n s
  · exact otherStationsKept_refl n s

theorem acceptButton_otherStationsKept (s : State) (n : Nat) (b : ButtonId) (st : Station) :
    otherStationsKept n s (s.acceptButton n b st) := by
  unfold State.acceptButton
  dsimp only
  split
  · exact otherStationsKept_setStation s n _
  · split
    · exact otherStationsKept_of_setStation (shortPress_otherStationsKept _ n _)
    · exact otherStationsKept_setStation s n _

theorem stationCommand_otherStationsKept {n : Nat} {c : Instr}
    (hc : (∃ b x, c = .buttonContactChange n b x) ∨ (∃ b, c = .buttonAcceptance n b) ∨
      c = .holdTimerExpiry n) (h : exec c s = .next t) : otherStationsKept n s t := by
  obtain ⟨b, x, rfl⟩ | ⟨b, rfl⟩ | rfl := hc
  · change execButtonContactChange n b x s = _ at h
    unfold execButtonContactChange at h
    split at h
    · split at h
      · split at h <;> cases h
        · exact otherStationsKept_refl n _
        · exact otherStationsKept_setStation s n _
      · cases h
        exact otherStationsKept_refl n _
    · cases h
  · change execButtonAcceptance n b s = _ at h
    unfold execButtonAcceptance at h
    split at h
    · split at h
      · split at h <;> cases h
        · exact acceptButton_otherStationsKept s n b _
        · exact otherStationsKept_refl n _
      · cases h
        exact otherStationsKept_refl n _
    · cases h
  · change execHoldTimerExpiry n s = _ at h
    unfold execHoldTimerExpiry at h
    split at h
    · split at h
      · split at h
        · dsimp only at h
          split at h <;> cases h
          · exact otherStationsKept_of_setStation (longPress_otherStationsKept _ n _)
          · exact otherStationsKept_of_setStation (longPress_otherStationsKept _ n _)
          · exact otherStationsKept_of_setStation (bothHeld_otherStationsKept _ n)
          · exact otherStationsKept_refl n _
          · exact otherStationsKept_refl n _
        · cases h
          exact otherStationsKept_refl n _
      · cases h
        exact otherStationsKept_refl n _
    · cases h

/-! ### Sensors -/

theorem weatherEvent_of_next {w : Weather} (h : Host.Outcome.next (s.weatherEvent w) =
    (.next t : Host.Outcome State Fault Refusal)) : t.weather = w := by
  cases h
  exact weatherEvent_weather s w

/-- The vane's part of the weather unit. -/
def Weather.vaneOf (w v : Weather) : Weather :=
  { w with vaneClass := v.vaneClass, vaneValue := v.vaneValue, vaneTimer := v.vaneTimer
           heldDir := v.heldDir, dwell := v.dwell }

theorem vaneReading_vaneOf (w : Weather) (b : WeatherBlock) (x : Option Nat) :
    w.vaneReading b x = w.vaneOf (w.vaneReading b x) := by
  unfold Weather.vaneReading Weather.validReading
  cases x with
  | none => rfl
  | some d =>
    dsimp only
    split
    · cases w.heldDir with
      | none => rfl
      | some k =>
        dsimp only
        split <;> rfl
    · rfl

theorem vaneCommand_vaneOf {c : Instr}
    (hc : (∃ x, c = .vaneReading x) ∨ c = .vaneStale ∨ c = .dwellReached)
    (h : exec c s = .next t) : t.weather = s.weather.vaneOf t.weather := by
  obtain ⟨x, rfl⟩ | rfl | rfl := hc
  · change execVaneReading x s = _ at h
    unfold execVaneReading at h
    split at h
    · rw [weatherEvent_of_next h]
      exact vaneReading_vaneOf _ _ _
    · cases h
      rfl
  · change execVaneStale s = _ at h
    unfold execVaneStale at h
    split at h
    · rw [weatherEvent_of_next h]
      rfl
    · cases h
      rfl
  · change execDwellReached s = _ at h
    unfold execDwellReached at h
    split at h
    · split at h
      · rw [weatherEvent_of_next h]
        rfl
      · cases h
        rfl
    · cases h
      rfl

/-- The rain contact's part of the weather unit. -/
def Weather.rainOf (w v : Weather) : Weather :=
  { w with rainSampled := v.rainSampled, wet := v.wet, wetHold := v.wetHold, dryHold := v.dryHold }

theorem rainSample_rainOf (w : Weather) (b : WeatherBlock) (asserted : Bool) :
    w.rainSample b asserted = w.rainOf (w.rainSample b asserted) := by
  unfold Weather.rainSample
  dsimp only
  split
  · split <;> rfl
  · rfl
  · split <;> rfl
  · rfl

theorem rainCommand_rainOf {c : Instr}
    (hc : (∃ x, c = .rainSample x) ∨ c = .wetHoldEnd ∨ c = .dryHoldEnd)
    (h : exec c s = .next t) : t.weather = s.weather.rainOf t.weather := by
  obtain ⟨x, rfl⟩ | rfl | rfl := hc
  · change execRainSample x s = _ at h
    unfold execRainSample at h
    split at h
    · rw [weatherEvent_of_next h]
      exact rainSample_rainOf _ _ _
    · cases h
      rfl
  · change execWetHoldEnd s = _ at h
    unfold execWetHoldEnd at h
    split at h
    · rw [weatherEvent_of_next h]
      exact rainSample_rainOf _ _ _
    · cases h
      rfl
  · change execDryHoldEnd s = _ at h
    unfold execDryHoldEnd at h
    split at h
    · rw [weatherEvent_of_next h]
      exact rainSample_rainOf _ _ _
    · cases h
      rfl

/-- The probe's part of the weather unit. -/
def Weather.probeOf (w v : Weather) : Weather :=
  { w with tempClass := v.tempClass, tempValue := v.tempValue, tempTimer := v.tempTimer
           tempState := v.tempState }

theorem probeReading_probeOf (w : Weather) (b : WeatherBlock) (x : Option Int) :
    (w.probeReading x).evalTemp b = w.probeOf ((w.probeReading x).evalTemp b) := by
  unfold Weather.probeReading
  cases x with
  | none => rfl
  | some v =>
    dsimp only
    split
    · rfl
    · split <;> rfl

theorem probeCommand_probeOf {c : Instr} (hc : (∃ x, c = .probeReading x) ∨ c = .probeStale)
    (h : exec c s = .next t) : t.weather = s.weather.probeOf t.weather := by
  obtain ⟨x, rfl⟩ | rfl := hc
  · change execProbeReading x s = _ at h
    unfold execProbeReading at h
    split at h
    · rw [weatherEvent_of_next h]
      exact probeReading_probeOf _ _ _
    · cases h
      rfl
  · change execProbeStale s = _ at h
    unfold execProbeStale at h
    split at h
    · rw [weatherEvent_of_next h]
      rfl
    · cases h
      rfl

end Sys2Proof.Machine
namespace Sys2Proof.Proofs
open Sys2Proof.Machine

/-- Settles O4, one frame for each kind of unit. -/
theorem unitsKeptApart : Obligations.UnitsKeptApart := by
  refine ⟨fun z c s t hc h => zoneCommand_otherZonesKept hc h, fun n c s t hc h k st hk hst => ?_,
    fun n c s t hc h => moveCommand_otherMovesKept hc h,
    fun c x s t hc hx h => busCommand_otherNodesKept hc hx h,
    fun slot c s t hc h => slotCommand_otherSlotsKept hc h,
    fun c s t h => ⟨fun hc => vaneCommand_vaneOf hc h, fun hc => rainCommand_rainOf hc h,
      fun hc => probeCommand_probeOf hc h, fun ⟨x, hx⟩ => ?_⟩⟩
  · obtain ⟨st', hst', x, rfl, hx⟩ := stationCommand_otherStationsKept hc h k st hk hst
    refine ⟨_, hst', rfl, rfl, rfl, rfl, hx.imp_right ?_⟩
    rintro ⟨hnone, r, hsrc, g, hg, hgone⟩
    refine ⟨hnone, g.slot, r, s.demand.inSlot_of_find hg, hsrc, ?_⟩
    rwa [s.demand.handleOf_of_find (by rw [hg]; simp)]
  · subst hx
    rw [weatherEvent_of_next h]
    rfl

end Sys2Proof.Proofs
end

section
/-! PROOFS. What a reset leaves in every block (R29, R85, R107, R131, R161, R163, R180), and how it loads
every entry of the store (R14, R18 to R20). -/
namespace Sys2Proof.Machine
open Sys2Proof
variable {s t u : State}

/-! ### The state a reset leaves -/

theorem nth_numbers {k n : Nat} (h1 : 1 ≤ n) (h2 : n ≤ k) : nth (numbers k) n = some n := by
  cases n with
  | zero => omega
  | succ j =>
    simp only [nth, numbers]
    rw [List.getElem?_range' (by omega)]
    exact congrArg some (by omega)

theorem nth_numbers_eq_some {k n m : Nat} (h : nth (numbers k) n = some m) : m = n := by
  obtain ⟨h1, h2⟩ := nth_bounds h
  rw [numbers, List.length_range'] at h2
  rw [nth_numbers h1 h2] at h
  exact (Option.some.inj h).symm

/-- What a reset forms for each opening: the value for an enabled one and none for another. -/
theorem nthSome_perOpening {α : Type} (st : Store) (a : OpeningEntry → α) (n : Nat) :
    nthSome (st.perOpening a) n = if st.enabled n = true then some (a (st.opening n)) else none := by
  cases h : nthSome (st.perOpening a) n with
  | some x =>
    obtain ⟨hen, rfl⟩ := perOpening_eq_some h
    rw [if_pos hen]
  | none =>
    refine (if_neg fun hen => ?_).symm
    have hop : isOpening n = true := (Bool.and_eq_true _ _ ▸ hen : _ ∧ _).1
    simp only [isOpening, Bool.and_eq_true, decide_eq_true_eq] at hop
    have hn : nth (st.perOpening a) n = some (some (a (st.opening n))) := by
      rw [Store.perOpening, nth_map, openingNumbers, nth_numbers hop.1 hop.2, Option.map_some,
        if_pos hen]
    rw [nthSome, hn] at h
    cases h

theorem reset_exec {spareWritten : Bool} {supply : Int} {c : Instr} {cause : ResetCause}
    (h : (c = .powerOnReset spareWritten supply ∧ cause = .powerOn) ∨
      (c = .restartTaken spareWritten supply ∧ cause = .restart ∧ s.link.restartDue = true)) :
    exec c s = .next (s.resetFrom cause spareWritten supply) := by
  obtain ⟨rfl, rfl⟩ | ⟨rfl, rfl, hdue⟩ := h
  · rfl
  · change execRestartTaken spareWritten supply s = _
    rw [execRestartTaken, if_pos hdue]

section
variable (s) (cause : ResetCause) (spareWritten : Bool) (supply : Int)

theorem resetFrom_zone {z : Nat} {r : Zone} (h : (s.resetFrom cause spareWritten supply).zone z = some r) :
    ∃ r0 : Zone, r = r0.reset ((s.store.atReset spareWritten).zoneEnabled z) := by
  have h : nth (zoneNumbers.map fun z => ((s.zone z).getD Zone.atReset).reset
    ((s.store.atReset spareWritten).zoneEnabled z)) z = some r := h
  rw [nth_map] at h
  obtain ⟨k, hk, rfl⟩ := Option.map_eq_some_iff.mp h
  rw [nth_numbers_eq_some hk]
  exact ⟨_, rfl⟩

/-- An enabled opening starts at its rest aperture, UNKNOWN and UNPOLLED, and another has no records. -/
theorem resetFrom_opening (n : Nat) :
    let t := s.resetFrom cause spareWritten supply
    (t.store.enabled n = true → t.result n = some (t.store.opening n).resultAtReset ∧
      t.move n = some .atReset ∧ t.node n = some .atReset) ∧
    (t.store.enabled n = false → t.result n = none ∧ t.move n = none ∧ t.node n = none) := by
  intro t
  have hresult : t.result n = _ := nthSome_perOpening t.store OpeningEntry.resultAtReset n
  have hmove : t.move n = _ := nthSome_perOpening t.store (fun _ => MoveRecord.atReset) n
  have hnode : t.node n = _ := nthSome_perOpening t.store (fun _ => NodeRecord.atReset) n
  rw [hresult, hmove, hnode]
  refine ⟨fun h => ⟨if_pos h, if_pos h, if_pos h⟩, fun h => ?_⟩
  have hoff : ¬t.store.enabled n = true := by simp [h]
  exact ⟨if_neg hoff, if_neg hoff, if_neg hoff⟩

end

end Sys2Proof.Machine
namespace Sys2Proof.Proofs
open Sys2Proof.Machine

/-- Settles O23: the model's reset state, read block by block. -/
theorem resetLeaves : Obligations.ResetLeaves := by
  intro spareWritten supply s c cause hc
  refine ⟨_, reset_exec hc, rfl, Store.atReset_writing _ _, rfl, rfl, rfl, rfl, rfl, rfl, rfl, rfl, rfl,
    rfl, rfl, rfl, rfl, rfl, rfl, rfl, rfl, rfl, rfl, rfl, fun p => ?_, rfl, rfl, rfl,
    fun st hst => ?_, fun z r hr => ?_, fun n => ?_⟩
  · cases p <;> rfl
  · obtain ⟨st0, -, rfl⟩ := List.mem_map.mp hst
    exact ⟨rfl, rfl, rfl, rfl⟩
  · obtain ⟨r0, rfl⟩ := resetFrom_zone s cause spareWritten supply hr
    exact ⟨rfl, rfl, rfl, rfl, rfl, rfl, rfl⟩
  · obtain ⟨hon, hoff⟩ := resetFrom_opening s cause spareWritten supply n
    refine ⟨fun h => ?_, hoff⟩
    obtain ⟨hresult, hmove, hnode⟩ := hon h
    exact ⟨⟨_, hresult, rfl, rfl, rfl, rfl, rfl, rfl, rfl⟩, moveState_eq hmove, nodeState_eq hnode, by
      rw [State.lastReply, hnode]
      rfl⟩

end Sys2Proof.Proofs
end

section
/-! PROOFS. How a reset loads every entry of the store (R14, R18 to R20). -/
namespace Sys2Proof.Machine
open Sys2Proof
variable {s t u : State}

/-! ### One entry -/

theorem secondIsNewer_iff (a b : BitVec 8) :
    secondIsNewer a b = true ↔ 129 ≤ (a.toNat + 256 - b.toNat) % 256 := by
  unfold secondIsNewer
  rw [decide_eq_true_eq, BitVec.toNat_sub]
  omega

theorem Entry.load_loadedAs {α : Type} (valid : α → Bool) (factory : α) (e : Entry α) :
    loadedAs valid factory e (e.load valid factory) := by
  unfold loadedAs Entry.load
  dsimp only
  cases e.first.checkMatches && valid e.first.value <;>
    cases e.second.checkMatches && valid e.second.value
  · simp
  · simp
  · simp
  · dsimp only
    split
    · next h =>
      have hnew := (secondIsNewer_iff _ _).mp h
      simp only [forall_const, Bool.true_eq_false, false_imp_iff, implies_true, and_true, true_and]
      exact fun h => absurd hnew (by omega)
    · next h =>
      have hnew := mt (secondIsNewer_iff e.first.sequence e.second.sequence).mpr h
      simp only [forall_const, Bool.true_eq_false, false_imp_iff, implies_true, and_true, true_and]
      exact fun h => absurd h hnew

/-- An entry that the pass keeps or replaces by its default, as the value found stands or not. -/
theorem loadedIf_of_load {α : Type} {stands : α → Prop} {valid : α → Bool} {factory : α} {e e' : Entry α}
    (h : (stands (e.load valid factory).value ∧ e' = e.load valid factory) ∨
      (¬stands (e.load valid factory).value ∧ e' = (e.load valid factory).toDefault factory)) :
    loadedIf stands valid factory e e' := by
  have hload := Entry.load_loadedAs valid factory e
  refine ⟨_, hload, ?_⟩
  obtain ⟨hfirst, hsecond, -⟩ := hload
  obtain ⟨hst, rfl⟩ | ⟨hst, rfl⟩ := h
  · exact ⟨hfirst, hsecond, fun _ => ⟨rfl, rfl⟩, fun hn => absurd hst hn⟩
  · exact ⟨hfirst, hsecond, fun hn => absurd hn hst, fun _ => ⟨rfl, rfl⟩⟩

/-! ### The passes, field by field -/

namespace Store
variable (st : Store)

theorem checkSupervisors_eq :
    st.checkSupervisors = { st with supervisors := st.checkSupervisors.supervisors } := by
  unfold checkSupervisors
  split <;> rfl

theorem interrupted_of_none (h : st.writing = none) (spareWritten : Bool) :
    st.interrupted spareWritten = st := by
  unfold interrupted
  rw [h]

/-! ### The scenarios kept -/

/-- The pass of R19 over zone numbers: each taken on where it stands with those taken on before it. -/
def taken (p : List Nat → Nat → Bool) (zs acc : List Nat) : List Nat :=
  zs.foldl (fun acc z => if p acc z then acc ++ [z] else acc) acc

theorem taken_eq_append (p : List Nat → Nat → Bool) (zs acc : List Nat) :
    ∃ new, taken p zs acc = acc ++ new ∧ new.Sublist zs := by
  induction zs generalizing acc with
  | nil => exact ⟨[], (List.append_nil _).symm, .slnil⟩
  | cons z zs ih =>
    obtain ⟨new, hnew, hsub⟩ := ih (if p acc z then acc ++ [z] else acc)
    rw [taken, List.foldl_cons, ← taken, hnew]
    split
    · exact ⟨z :: new, by rw [List.append_assoc]; rfl, hsub.cons_cons z⟩
    · exact ⟨new, rfl, hsub.cons z⟩

/-- A number is taken on where it stands with the lower ones that were. -/
theorem mem_taken_iff {p : List Nat → Nat → Bool} {zs : List Nat} {z : Nat} (hz : z ∈ zs)
    (hsorted : zs.Pairwise (· < ·)) : z ∈ taken p zs [] ↔
      p ((taken p zs []).filter fun y => decide (y < z)) z = true := by
  obtain ⟨pre, post, rfl⟩ := List.append_of_mem hz
  obtain ⟨hpre, hpost, hlt⟩ := List.pairwise_append.mp hsorted
  obtain ⟨hzpost, hpost⟩ := List.pairwise_cons.mp hpost
  obtain ⟨new0, hbefore, hsub0⟩ := taken_eq_append p pre []
  have hlow : ∀ y ∈ taken p pre [], y < z := fun y hy => by
    rw [hbefore, List.nil_append] at hy
    exact hlt y (hsub0.subset hy) z List.mem_cons_self
  obtain ⟨new, hafter, hsub⟩ := taken_eq_append p post
    (if p (taken p pre []) z then taken p pre [] ++ [z] else taken p pre [])
  have hall : taken p (pre ++ z :: post) [] =
      (if p (taken p pre []) z then taken p pre [] ++ [z] else taken p pre []) ++ new := by
    rw [← hafter]
    unfold taken
    rw [List.foldl_append, List.foldl_cons]
  have hhigh : ∀ y ∈ new, z < y := fun y hy => hzpost y (hsub.subset hy)
  have hfilter : (taken p (pre ++ z :: post) []).filter (fun y => decide (y < z)) = taken p pre [] := by
    have hkeep : (taken p pre []).filter (fun y => decide (y < z)) = taken p pre [] :=
      List.filter_eq_self.mpr fun y hy => decide_eq_true (hlow y hy)
    have hdrop : new.filter (fun y => decide (y < z)) = [] := List.filter_eq_nil_iff.mpr fun y hy => by
      simpa using (hhigh y hy).le
    rw [hall, List.filter_append, hdrop, List.append_nil]
    split
    · rw [List.filter_append, hkeep]
      simp
    · exact hkeep
  have hnew : z ∉ new := fun h => Nat.lt_irrefl z (hhigh z h)
  have hold : z ∉ taken p pre [] := fun h => Nat.lt_irrefl z (hlow z h)
  rw [hfilter, hall, List.mem_append]
  split
  · next h => simp [h]
  · next h => simp [h, hnew, hold]

end Store

theorem nth_foldl_modifyNth {α : Type} (keep : Nat → Bool) (f : α → α) {zs : List Nat} (hzs : zs.Nodup)
    (l : List α) (z : Nat) :
    nth (zs.foldl (fun l z => if keep z then l else modifyNth l z f) l) z =
      if z ∈ zs ∧ keep z = false then (nth l z).map f else nth l z := by
  induction zs generalizing l with
  | nil => rw [if_neg fun h => nomatch h.1]; rfl
  | cons y ys ih =>
    obtain ⟨hy, hys⟩ := List.nodup_cons.mp hzs
    rw [List.foldl_cons, ih hys]
    by_cases hzy : z = y
    · subst hzy
      rw [if_neg fun h => hy h.1]
      cases hk : keep z with
      | true => simp
      | false => simp [nth_modifyNth]
    · have hsame : nth (if keep y then l else modifyNth l y f) z = nth l z := by
        split
        · rfl
        · rw [nth_modifyNth, if_neg hzy]
      simp only [hsame, List.mem_cons, hzy, false_or]

theorem zoneNumbers_sorted : zoneNumbers.Pairwise (· < ·) := List.pairwise_lt_range'

theorem zoneNumbers_nodup : zoneNumbers.Nodup := List.nodup_range'

namespace Store
variable (st : Store)

/-- A scenario's entry after the pass: kept as loaded, or replaced by its default. -/
theorem checkScenarios_nth {z : Nat} (hz : isZone z = true) : nth st.checkScenarios.scenarios z =
    if z ∈ st.acceptedScenarios then nth st.scenarios z
    else (nth st.scenarios z).map (Entry.toDefault []) := by
  have hfold := nth_foldl_modifyNth (fun z => st.acceptedScenarios.contains z)
    (Entry.toDefault ([] : List ScenarioStep)) zoneNumbers_nodup st.scenarios z
  refine hfold.trans ?_
  by_cases hk : z ∈ st.acceptedScenarios
  · rw [if_pos hk, if_neg (by simp [hk])]
  · rw [if_neg hk, if_pos ⟨mem_zoneNumbers.mpr hz, by simp [hk]⟩]

theorem checkScenarios_scenario {z : Nat} (hz : isZone z = true) : st.checkScenarios.scenario z =
    if z ∈ st.acceptedScenarios then st.scenario z else [] := by
  rw [scenario, st.checkScenarios_nth hz]
  by_cases hk : z ∈ st.acceptedScenarios
  · simp only [if_pos hk]
    rfl
  · simp only [if_neg hk]
    cases nth st.scenarios z <;> rfl

theorem mem_acceptedScenarios_iff {z : Nat} (hz : isZone z = true) : z ∈ st.acceptedScenarios ↔
    st.scenarioStands (st.acceptedScenarios.filter fun y => decide (y < z)) z = true :=
  mem_taken_iff (p := st.scenarioStands) (mem_zoneNumbers.mpr hz) zoneNumbers_sorted

theorem acceptedScenarios_sublist : st.acceptedScenarios.Sublist zoneNumbers := by
  obtain ⟨new, hnew, hsub⟩ := taken_eq_append st.scenarioStands zoneNumbers []
  rw [List.nil_append] at hnew
  rwa [show st.acceptedScenarios = new from hnew]

end Store

/-- A sum in which the terms outside a set are nil is the sum over the set. -/
theorem sum_map_ite_mem (g : Nat → Nat) (p : Nat → Bool) (l : List Nat) :
    (l.map fun y => if p y then g y else 0).sum = ((l.filter p).map g).sum := by
  induction l with
  | nil => rfl
  | cons y l ih =>
    rw [List.map_cons, List.sum_cons, ih, List.filter_cons]
    split
    · rw [List.map_cons, List.sum_cons]
    · exact Nat.zero_add _

/-- Coverage over the lower zones in the checked store is coverage over the scenarios kept. -/
theorem coverage_checkScenarios (st : Store) (z n : Nat) :
    coverage st.group st.checkScenarios.scenario (zoneNumbers.filter fun y => decide (y < z)) n =
      coverage st.group st.scenario (st.acceptedScenarios.filter fun y => decide (y < z)) n := by
  have hterm : ∀ y ∈ zoneNumbers.filter (fun y => decide (y < z)),
      stepsCovering st.group (st.checkScenarios.scenario y) n =
        if st.acceptedScenarios.contains y then stepsCovering st.group (st.scenario y) n else 0 := by
    intro y hy
    rw [st.checkScenarios_scenario (mem_zoneNumbers.mp (List.mem_of_mem_filter hy))]
    by_cases hk : y ∈ st.acceptedScenarios
    · simp [hk]
    · simp [hk, stepsCovering]
  have hperm : ((zoneNumbers.filter fun y => decide (y < z)).filter fun y =>
      st.acceptedScenarios.contains y).Perm (st.acceptedScenarios.filter fun y => decide (y < z)) := by
    refine (List.perm_ext_iff_of_nodup ((zoneNumbers_nodup.filter _).filter _)
      ((zoneNumbers_nodup.sublist st.acceptedScenarios_sublist).filter _)).mpr fun y => ?_
    have hsub := st.acceptedScenarios_sublist.subset (a := y)
    simp only [List.mem_filter, List.contains_iff_mem]
    tauto
  unfold coverage
  rw [List.map_congr_left hterm, sum_map_ite_mem]
  exact (hperm.map _).sum_eq

theorem coverage_append (groups : Nat → List Nat) (scenarios : Nat → List ScenarioStep) (zs : List Nat)
    (z n : Nat) : coverage groups scenarios (zs ++ [z]) n =
      coverage groups scenarios zs n + stepsCovering groups (scenarios z) n := by
  simp [coverage]

/-- The pass keeps a scenario exactly where it stands with the kept scenarios of the lower zones. -/
theorem mem_acceptedScenarios_iff_kept (st : Store) {z : Nat} (hz : isZone z = true) :
    z ∈ st.acceptedScenarios ↔
      (∀ x ∈ st.scenario z, st.group x.group ≠ []) ∧ ∀ n, isOpening n = true →
        stepsCovering st.group (st.scenario z) n ≤ 1 ∧
          coverage st.group st.checkScenarios.scenario (zoneNumbers.filter fun y => decide (y < z)) n +
            stepsCovering st.group (st.scenario z) n ≤ 4 := by
  rw [st.mem_acceptedScenarios_iff hz]
  simp only [Store.scenarioStands, stepsApart, Bool.and_eq_true, List.all_eq_true, decide_eq_true_eq,
    mem_openingNumbers, coverage_append, coverage_checkScenarios, Bool.not_eq_true',
    List.isEmpty_eq_false_iff, and_assoc, isOpening_iff]
  refine and_congr_right fun _ => ⟨fun ⟨h1, h2⟩ n hn => ⟨h1 n hn, h2 n hn⟩,
    fun h => ⟨fun n hn => (h n hn).1, fun n hn => (h n hn).2⟩⟩

/-! ### Every entry as it is loaded -/

theorem any_isDefault_iff {α : Type} (l : List (Entry α)) : l.any Entry.isDefault = true ↔
    ∃ n e, nth l n = some e ∧ e.origin = .default := by
  rw [List.any_eq_true]
  constructor
  · rintro ⟨e, he, hd⟩
    obtain ⟨n, hn⟩ := nth_of_mem he
    exact ⟨n, e, hn, beq_iff_eq.mp hd⟩
  · rintro ⟨n, e, hn, hd⟩
    exact ⟨e, nth_mem hn, beq_iff_eq.mpr hd⟩

theorem anyDefault_iff (st : Store) : st.anyDefault = true ↔ defaultStands st := by
  simp only [Store.anyDefault, defaultStands, Bool.or_eq_true, any_isDefault_iff, or_assoc,
    Entry.isDefault, beq_iff_eq]

theorem mem_reportsAtReset (anyDefault lowSupply : Bool) :
    (∃ r ∈ reportsAtReset anyDefault lowSupply, r.owner = .siteStore ∧ .storeFault ∈ r.events) ↔
      anyDefault = true := by
  cases anyDefault <;> cases lowSupply <;> simp [reportsAtReset]

section
variable {st : Store} (hw : st.writing = none) (spareWritten : Bool)
include hw

theorem atReset_of_idle : st.atReset spareWritten =
    st.loadEntries.checkGroups.checkScenarios.checkSupervisors := by
  rw [Store.atReset, st.interrupted_of_none hw]

theorem atReset_fields : (st.atReset spareWritten).openings =
      st.openings.map (Entry.load OpeningEntry.valid .factory) ∧
    (st.atReset spareWritten).zones = st.zones.map (Entry.load (fun _ => true) false) ∧
    (st.atReset spareWritten).stations = st.stations.map (Entry.load StationEntry.valid .factory) ∧
    (st.atReset spareWritten).weather = st.weather.load WeatherBlock.valid .factory ∧
    (st.atReset spareWritten).movement = st.movement.load MovementBlock.valid .factory ∧
    (st.atReset spareWritten).groups = st.loadEntries.checkGroups.groups ∧
    (st.atReset spareWritten).scenarios = st.loadEntries.checkGroups.checkScenarios.scenarios := by
  rw [atReset_of_idle hw, Store.checkSupervisors_eq]
  exact ⟨rfl, rfl, rfl, rfl, rfl, rfl, rfl⟩

theorem atReset_enabled (n : Nat) :
    (st.atReset spareWritten).enabled n = st.loadEntries.enabled n := by
  rw [Store.enabled, Store.opening, (atReset_fields hw spareWritten).1]
  rfl

omit hw in
/-- An entry of a list loaded entry by entry. -/
theorem loadedAs_of_map {α : Type} {valid : α → Bool} {factory : α} {l l' : List (Entry α)}
    (hl : l' = l.map (Entry.load valid factory)) {n : Nat} {e : Entry α} (he : nth l n = some e) :
    ∃ e', nth l' n = some e' ∧ loadedAs valid factory e e' := by
  refine ⟨e.load valid factory, ?_, Entry.load_loadedAs _ _ _⟩
  rw [hl, nth_map, he]
  rfl

theorem atReset_group {g : Nat} {e : Entry (List Nat)} (he : nth st.groups g = some e) :
    ∃ e', nth (st.atReset spareWritten).groups g = some e' ∧
      loadedIf (fun l => ∀ n ∈ l, (st.atReset spareWritten).enabled n = true) validMembers [] e e' := by
  obtain ⟨-, -, -, -, -, hgroups, -⟩ := atReset_fields hw spareWritten
  have hnth : nth (st.atReset spareWritten).groups g =
      some (if (e.load validMembers []).value.all st.loadEntries.enabled then e.load validMembers []
        else (e.load validMembers []).toDefault []) := by
    rw [hgroups]
    change nth ((st.groups.map _).map _) g = _
    rw [nth_map, nth_map, he]
    rfl
  refine ⟨_, hnth, loadedIf_of_load ?_⟩
  have hstands : (∀ n ∈ (e.load validMembers []).value, (st.atReset spareWritten).enabled n = true) ↔
      (e.load validMembers []).value.all st.loadEntries.enabled = true := by
    simp only [atReset_enabled hw, List.all_eq_true]
  by_cases hall : (e.load validMembers []).value.all st.loadEntries.enabled = true
  · exact .inl ⟨hstands.mpr hall, if_pos hall⟩
  · exact .inr ⟨mt hstands.mp hall, if_neg hall⟩

theorem atReset_scenario {z : Nat} (hz : isZone z = true) {e : Entry (List ScenarioStep)}
    (he : nth st.scenarios z = some e) : ∃ e', nth (st.atReset spareWritten).scenarios z = some e' ∧
      loadedIf (scenarioKept (st.atReset spareWritten) z) validSteps [] e e' := by
  obtain ⟨-, -, -, -, -, hgroups, hscenarios⟩ := atReset_fields hw spareWritten
  have hload : nth st.loadEntries.checkGroups.scenarios z = some (e.load validSteps []) := by
    change nth (st.scenarios.map _) z = _
    rw [nth_map, he]
    rfl
  have hvalue : st.loadEntries.checkGroups.scenario z = (e.load validSteps []).value := by
    rw [Store.scenario, hload]
  have hgroup : (st.atReset spareWritten).group = st.loadEntries.checkGroups.group :=
    funext fun g => by
      rw [Store.group, hgroups]
      rfl
  have hscenario : (st.atReset spareWritten).scenario =
      st.loadEntries.checkGroups.checkScenarios.scenario := funext fun y => by
    rw [Store.scenario, hscenarios]
    rfl
  have hkept : scenarioKept (st.atReset spareWritten) z (e.load validSteps []).value ↔
      z ∈ st.loadEntries.checkGroups.acceptedScenarios := by
    rw [mem_acceptedScenarios_iff_kept _ hz, scenarioKept, hgroup, hscenario, hvalue]
  have hnth := st.loadEntries.checkGroups.checkScenarios_nth hz
  rw [hload, ← hscenarios] at hnth
  by_cases hk : z ∈ st.loadEntries.checkGroups.acceptedScenarios
  · rw [if_pos hk] at hnth
    exact ⟨_, hnth, loadedIf_of_load (.inl ⟨hkept.mpr hk, rfl⟩)⟩
  · rw [if_neg hk] at hnth
    exact ⟨_, hnth, loadedIf_of_load (.inr ⟨mt hkept.mp hk, rfl⟩)⟩

end

/-! ### The supervisors -/

theorem nth_loadSupervisors (l : List (Entry SupervisorEntry)) (m : Nat) :
    nth (loadSupervisors l) m = (nth l m).map
      (Entry.load (fun _ => true) (if m = 1 then .factoryFirst else .factoryOther)) := by
  cases l with
  | nil => cases m <;> rfl
  | cons e rest =>
    match m with
    | 0 => rfl
    | 1 => rfl
    | k + 2 =>
      rw [if_neg (by omega)]
      simp [loadSupervisors, nth]

theorem mem_supervisorNumbers {m : Nat} : m ∈ supervisorNumbers ↔ isSupervisor m = true := by
  unfold supervisorNumbers numbers isSupervisor
  rw [List.mem_range'_1, Bool.and_eq_true, decide_eq_true_iff, decide_eq_true_iff]
  omega

/-- Some supervisor's entry grants may configure. -/
def Store.mayBeConfigured (st : Store) : Bool := supervisorNumbers.any fun m => (st.supervisor m).mayConfigure

theorem mayBeConfigured_iff (st : Store) : st.mayBeConfigured = true ↔
    ∃ k, isSupervisor k = true ∧ (st.supervisor k).mayConfigure = true := by
  simp only [Store.mayBeConfigured, List.any_eq_true, mem_supervisorNumbers]

/-- Only supervisor 1's entry is replaced, where no entry grants may configure. -/
theorem checkSupervisors_nth (st : Store) (m : Nat) : nth st.checkSupervisors.supervisors m =
    if m = 1 ∧ st.mayBeConfigured = false then
      (nth st.supervisors m).map (Entry.toDefault .factoryFirst)
    else nth st.supervisors m := by
  have hcheck : st.checkSupervisors = if st.mayBeConfigured then st
      else { st with supervisors := modifyNth st.supervisors 1 (Entry.toDefault .factoryFirst) } := rfl
  rw [hcheck]
  cases st.mayBeConfigured with
  | true => rw [if_pos rfl, if_neg fun h => nomatch h.2]
  | false =>
    change nth (modifyNth _ _ _) m = _
    rw [nth_modifyNth]
    by_cases hm : m = 1
    · rw [if_pos hm, if_pos ⟨hm, rfl⟩]
    · rw [if_neg hm, if_neg fun h => hm h.1]

theorem checkSupervisors_supervisor_ne (st : Store) {m : Nat} (hm : m ≠ 1) :
    st.checkSupervisors.supervisor m = st.supervisor m := by
  rw [Store.supervisor, checkSupervisors_nth, if_neg fun h => hm h.1]
  rfl

theorem atReset_supervisor {st : Store} (hw : st.writing = none) (spareWritten : Bool) {m : Nat}
    {e : Entry SupervisorEntry} (he : nth st.supervisors m = some e) :
    ∃ e', nth (st.atReset spareWritten).supervisors m = some e' ∧
      (m ≠ 1 → loadedAs (fun _ => true) .factoryOther e e') ∧
      (m = 1 → loadedIf
        (fun x => x.mayConfigure = true ∨ ∃ k, k ≠ 1 ∧ isSupervisor k = true ∧
          ((st.atReset spareWritten).supervisor k).mayConfigure = true)
        (fun _ => true) .factoryFirst e e') := by
  rw [atReset_of_idle hw]
  set checked := st.loadEntries.checkGroups.checkScenarios with hchecked
  have hload : nth checked.supervisors m =
      some (e.load (fun _ => true) (if m = 1 then .factoryFirst else .factoryOther)) := by
    change nth (loadSupervisors st.supervisors) m = _
    rw [nth_loadSupervisors, he]
    rfl
  have hnth := checkSupervisors_nth checked m
  by_cases hm : m = 1
  · subst hm
    rw [if_pos rfl] at hload
    have hfirst : checked.supervisor 1 = (e.load (fun _ => true) .factoryFirst).value := by
      rw [Store.supervisor, hload]
    have hstands : ((e.load (fun _ => true) .factoryFirst).value.mayConfigure = true ∨
        ∃ k, k ≠ 1 ∧ isSupervisor k = true ∧
          (checked.checkSupervisors.supervisor k).mayConfigure = true) ↔
        checked.mayBeConfigured = true := by
      rw [mayBeConfigured_iff, ← hfirst]
      constructor
      · rintro (h | ⟨k, hk, hsup, hmay⟩)
        · exact ⟨1, rfl, h⟩
        · rw [checkSupervisors_supervisor_ne _ hk] at hmay
          exact ⟨k, hsup, hmay⟩
      · rintro ⟨k, hsup, hmay⟩
        by_cases hk : k = 1
        · exact .inl (hk ▸ hmay)
        · rw [← checkSupervisors_supervisor_ne _ hk] at hmay
          exact .inr ⟨k, hk, hsup, hmay⟩
    rw [hload] at hnth
    cases hmay : checked.mayBeConfigured with
    | true =>
      rw [hmay, if_neg fun h => nomatch h.2] at hnth
      exact ⟨_, hnth, fun h => absurd rfl h, fun _ => loadedIf_of_load (.inl ⟨hstands.mpr hmay, rfl⟩)⟩
    | false =>
      rw [hmay, if_pos ⟨rfl, rfl⟩] at hnth
      exact ⟨_, hnth, fun h => absurd rfl h,
        fun _ => loadedIf_of_load (.inr ⟨fun h => by simp [hstands.mp h] at hmay, rfl⟩)⟩
  · rw [if_neg hm] at hload
    rw [if_neg fun h => hm h.1, hload] at hnth
    exact ⟨_, hnth, fun _ => Entry.load_loadedAs _ _ _, fun h => absurd h hm⟩

/-! ### An opening entry whose write the reset interrupts -/

theorem Entry.load_of_first {α : Type} {valid : α → Bool} {factory : α} {e : Entry α}
    (ha : e.first.checkMatches = true) (hv : valid e.first.value = true)
    (hb : e.second.checkMatches = false) : (e.load valid factory).origin = .stored ∧
      (e.load valid factory).value = e.first.value := by
  unfold Entry.load
  rw [ha, hv, hb]
  exact ⟨rfl, rfl⟩

theorem Entry.load_of_newer {α : Type} {valid : α → Bool} {factory : α} {e : Entry α}
    (ha : e.first.checkMatches = true) (hv : valid e.first.value = true)
    (hb : e.second.checkMatches = true) (hv' : valid e.second.value = true)
    (hseq : e.second.sequence = e.first.sequence + 1) : (e.load valid factory).origin = .stored ∧
      (e.load valid factory).value = e.second.value := by
  have hnew : secondIsNewer e.first.sequence e.second.sequence = true := by
    unfold secondIsNewer
    rw [hseq, decide_eq_true_eq]
    bv_omega
  unfold Entry.load
  rw [ha, hv, hb, hv', hnew]
  exact ⟨rfl, rfl⟩

theorem atReset_interrupted {st : Store} {w : EntryWrite} {n : Nat} {v : OpeningEntry}
    {e : Entry OpeningEntry} (hw : st.writing = some w) (hentry : w.entry = .opening n v)
    (he : nth st.openings n = some e) (heffect : e.inEffect = some .first)
    (ha : e.first.checkMatches = true) (hv : e.first.value.valid = true)
    (hb : e.second.checkMatches = false) (hsecond : e.second.value = v) (hv' : v.valid = true)
    (hseq : e.second.sequence = e.first.sequence + 1) (spareWritten : Bool) :
    ∃ e', nth (st.atReset spareWritten).openings n = some e' ∧ e'.origin = .stored ∧
      e'.value = if spareWritten then v else e.first.value := by
  rw [Store.atReset_openings, nth_map]
  unfold Store.interrupted
  rw [hw]
  cases spareWritten with
  | false =>
    have hopen : nth (st.abandon).openings n = some e := he
    obtain ⟨horigin, hvalue⟩ := Entry.load_of_first (valid := OpeningEntry.valid) (factory := .factory)
      ha hv hb
    exact ⟨_, congrArg _ hopen, horigin, hvalue⟩
  | true =>
    have hspare : e.spareWritten w.entry.spareIsFirst =
        { e with second := { e.second with checkMatches := true } } := by
      have hsecondSpare : e.spare w.entry.spareIsFirst = .second := by
        unfold Entry.spare
        rw [heffect]
      unfold Entry.spareWritten
      rw [hsecondSpare]
      rfl
    have hopen : nth ((st.onEntry w.entry fun _ _ e => e.spareWritten w.entry.spareIsFirst).abandon).openings
        n = some { e with second := { e.second with checkMatches := true } } := by
      rw [← hspare, hentry]
      change nth (modifyNth st.openings n _) n = _
      rw [nth_modifyNth, if_pos rfl, he]
      rfl
    obtain ⟨horigin, hvalue⟩ := Entry.load_of_newer (valid := OpeningEntry.valid) (factory := .factory)
      (e := { e with second := { e.second with checkMatches := true } }) ha hv rfl (hsecond ▸ hv') hseq
    exact ⟨_, congrArg _ hopen, horigin, hvalue.trans hsecond⟩

end Sys2Proof.Machine
namespace Sys2Proof.Proofs
open Sys2Proof.Machine

/-- Settles O24: every entry is the load of its two copies, and the three passes keep or replace it by the
relation each tests. -/
theorem loadTakesNewerValidCopy : Obligations.LoadTakesNewerValidCopy := by
  intro spareWritten supply s c hc
  obtain ⟨cause, hexec⟩ : ∃ cause, exec c s = .next (s.resetFrom cause spareWritten supply) := by
    obtain rfl | ⟨rfl, hdue⟩ := hc
    · exact ⟨_, reset_exec (.inl ⟨rfl, rfl⟩)⟩
    · exact ⟨_, reset_exec (.inr ⟨rfl, rfl, hdue⟩)⟩
  refine ⟨_, hexec, ?_, fun hidle => ?_, fun w n v e hw hentry he heffect ha hv hb hsecond hv' hseq =>
    atReset_interrupted hw hentry he heffect ha hv hb hsecond hv' hseq spareWritten⟩
  · rw [← anyDefault_iff]
    exact (mem_reportsAtReset _ _).symm
  · obtain ⟨hopenings, hzones, hstations, hweather, hmovement, -, -⟩ := atReset_fields hidle spareWritten
    refine ⟨fun n e he => loadedAs_of_map hopenings he, fun z e he => loadedAs_of_map hzones he,
      fun n e he => loadedAs_of_map hstations he, ?_, ?_, fun g e he => atReset_group hidle _ he,
      fun z e hz he => atReset_scenario hidle _ hz he, fun m e he => atReset_supervisor hidle _ he⟩
    · change loadedAs _ _ _ (s.store.atReset spareWritten).weather
      rw [hweather]
      exact Entry.load_loadedAs _ _ _
    · change loadedAs _ _ _ (s.store.atReset spareWritten).movement
      rw [hmovement]
      exact Entry.load_loadedAs _ _ _

end Sys2Proof.Proofs
end

section
/-! PROOFS. A completed write takes effect (R20, R66, R84, R87, R91, R104, R111, R130, R149, R150, R161):
the store, the stations and the arbiter. -/
namespace Sys2Proof.Machine
open Sys2Proof
variable {s t u : State}

/-! ### The store takes the value -/

/-- The state right after the store took the value into effect, no block told yet. -/
def State.committed (s : State) (ev : EntryValue) : State := s.setStore (s.store.commit ev)

theorem completeWrite_of_free {w : EntryWrite} (h : s.entryInUse w.entry = false) (left : Nat) :
    s.completeWrite w left =
      ((s.committed w.entry).writeTold s left w.entry).writeAnswered s w .accepted := by
  unfold State.completeWrite
  rw [h]
  rfl

theorem committed_frame (s : State) (ev : EntryValue) : sameOutside [.store] s (s.committed ev) :=
  setStore_frame s _

theorem committed_told_store (s : State) (left : Nat) (ev : EntryValue) :
    ((s.committed ev).writeTold s left ev).store = s.store.commit ev := writeTold_store _ _ _ _

/-- The entry written is in effect with the new value, as one a write has stored. -/
theorem nth_commit {α : Type} {l : List (Entry α)} {n : Nat} (v : α) (b : Bool) :
    ∀ e, nth l n = some e → ∃ e', nth (modifyNth l n fun e => e.commit v b) n = some e' ∧
      e'.value = v ∧ e'.origin = .stored := fun e he =>
  ⟨e.commit v b, by rw [nth_modifyNth, if_pos rfl, he]; rfl, rfl, rfl⟩

/-! ### The stations (R130) -/

theorem cancelGesture_ended (st : Station) : gestureEnded st st.cancelGesture := by
  unfold gestureEnded Station.cancelGesture
  cases st.gesture <;> simp

theorem cancelStation_self {n : Nat} {st : Station} (h : s.stationOf n = some st) :
    (s.cancelStation n).stationOf n = some st.cancelGesture := by
  unfold State.cancelStation
  rw [h]
  exact stationOf_setStation_self h _

theorem cancelStation_ne {n k : Nat} (h : k ≠ n) :
    (s.cancelStation n).stationOf k = s.stationOf k := by
  unfold State.cancelStation
  split
  · exact stationOf_setStation_ne h _
  · rfl

theorem foldl_cancelStation_not_mem {k : Nat} {ns : List Nat} (h : k ∉ ns) (s : State) :
    (ns.foldl State.cancelStation s).stationOf k = s.stationOf k := by
  induction ns generalizing s with
  | nil => rfl
  | cons n ns ih =>
    rw [List.mem_cons, not_or] at h
    exact (ih h.2 _).trans (cancelStation_ne h.1)

theorem foldl_cancelStation_mem {k : Nat} {st : Station} {ns : List Nat} (h : k ∈ ns) (hns : ns.Nodup)
    (hst : s.stationOf k = some st) :
    (ns.foldl State.cancelStation s).stationOf k = some st.cancelGesture := by
  induction ns generalizing s with
  | nil => exact nomatch h
  | cons n ns ih =>
    rw [List.nodup_cons] at hns
    rcases List.mem_cons.mp h with rfl | hk
    · exact (foldl_cancelStation_not_mem hns.1 _).trans (cancelStation_self hst)
    · have hkn : k ≠ n := fun e => hns.1 (e ▸ hk)
      exact ih hk hns.2 ((cancelStation_ne hkn).trans hst)

theorem mem_stationNumbers {n : Nat} : n ∈ stationNumbers ↔ isStation n = true := by
  unfold stationNumbers numbers isStation
  rw [List.mem_range'_1, Bool.and_eq_true, decide_eq_true_iff, decide_eq_true_iff]
  omega

/-- The stations of a group written end their gestures, and every other stays. -/
theorem groupTold_stations {g : Nat} {l : List Nat} {left n : Nat} {st : Station}
    (hn : isStation n = true) (hst : s.stationOf n = some st) :
    ∃ st', ((s.committed (.group g l)).writeTold s left (.group g l)).stationOf n = some st' ∧
      ((s.store.station n).group = g → gestureEnded st st') ∧
      ((s.store.station n).group ≠ g → st' = st) := by
  let ns := stationNumbers.filter fun n => (s.store.station n).group == g
  have hns : ns.Nodup := List.Nodup.filter _ List.nodup_range'
  have hmem : n ∈ ns ↔ (s.store.station n).group = g := by
    simp only [ns, List.mem_filter, mem_stationNumbers, hn, beq_iff_eq, true_and]
  by_cases hg : (s.store.station n).group = g
  · exact ⟨_, foldl_cancelStation_mem (s := s.committed (.group g l)) (hmem.mpr hg) hns hst,
      fun _ => cancelGesture_ended st, fun h => absurd hg h⟩
  · exact ⟨st, (foldl_cancelStation_not_mem (mt hmem.mp hg) (s.committed (.group g l))).trans hst,
      fun h => absurd h hg, fun _ => rfl⟩

theorem groupTold_frame (s : State) (g : Nat) (l : List Nat) (left : Nat) :
    sameOutside [.store, .stations] s ((s.committed (.group g l)).writeTold s left (.group g l)) :=
  ((committed_frame s _).mono (by simp)).trans
    ((sameOutside.foldl _ cancelStation_frame _ _).mono (by simp))

/-! ### The arbiter (R149) -/

theorem committed_eligible (s : State) (ev : EntryValue) (n : Nat) :
    (s.committed ev).eligible n = s.eligible n := eligible_congr rfl rfl rfl

theorem committed_keptOrGranted (s before : State) (ev : EntryValue) (n : Nat) :
    ((s.committed ev).endMoveEvent before).move n = s.move n ∨
      (s.eligible n = true ∧ ((s.committed ev).endMoveEvent before).moveState n = some .breakaway) :=
  committed_eligible s ev n ▸ endMoveEvent_move (s.committed ev) before n

theorem grantUpTo_succ {k : Nat} (h : s.grantOne = some t) :
    State.grantUpTo (k + 1) s = State.grantUpTo k t := by
  rw [State.grantUpTo, h]

theorem move_of_eligible {n : Nat} (he : s.eligible n = true) : ∃ m, s.move n = some m := by
  unfold State.eligible at he
  split at he
  · next m hm => exact ⟨m, hm⟩
  · cases he

/-- The arbiter grants a free slot to the opening that no eligible one stands ahead of. -/
theorem grantAll_of_first {n : Nat} (hn : isOpening n = true) (hfree : s.slotFree = true)
    (ht : s.target n ≠ none) (he : s.eligible n = true)
    (hfirst : ∀ k, isOpening k = true → s.eligible k = true →
      standsAhead (s.standing k) (s.standing n) = false ∧
        (k < n → standsAhead (s.standing n) (s.standing k) = true)) :
    s.grantAll.moveState n = some .breakaway := by
  have hone : s.grantOne = some (s.grant n) := by
    simp only [State.grantOne, hfree, if_true, choice_of_first hn he hfirst]
  obtain ⟨x, hx⟩ := Option.ne_none_iff_exists'.mp ht
  obtain ⟨m, hm⟩ := move_of_eligible he
  have hall : s.grantAll = State.grantUpTo 47 (s.grant n) := grantUpTo_succ hone
  rw [hall]
  rcases grantUpTo_spares 47 (s.grant n) n with hs | ⟨-, hb⟩
  · exact (moveState_congr hs.move).trans (moveState_eq (grant_move hm hx))
  · exact hb.moveState

theorem endMoveEvent_self_of_first {n : Nat} (hn : isOpening n = true) (hfree : s.slotFree = true)
    (ht : s.target n ≠ none) (he : s.eligible n = true)
    (hfirst : ∀ k, isOpening k = true → s.eligible k = true →
      standsAhead (s.standing k) (s.standing n) = false ∧
        (k < n → standsAhead (s.standing n) (s.standing k) = true)) :
    (s.endMoveEvent s).moveState n = some .breakaway := by
  unfold State.endMoveEvent
  dsimp only
  rw [announceMoves_self]
  exact (moveState_congr (announceMoves_move _ _ n)).trans (grantAll_of_first hn hfree ht he hfirst)

theorem movementTold_budgets (s : State) (v : MovementBlock) (left : Nat) :
    budgetsTakenUp s ((s.committed (.movement v)).writeTold s left (.movement v)) v :=
  fun n _ hn hm => ⟨hm ▸ committed_keptOrGranted s _ _ n, fun hfree ht he hfirst =>
    endMoveEvent_self_of_first (s := s.committed (.movement v)) hn (decide_eq_true hfree) ht
      ((committed_eligible s _ n).trans he) fun k hk hek => hfirst k hk hek⟩

end Sys2Proof.Machine
end

section
/-! PROOFS. The fire unit takes a write of a zone's entry (R111). -/
namespace Sys2Proof.Machine
open Sys2Proof
variable {s t u : State}

/-- The zone as an enabling write finds it: NORMAL, and then moved by the class its line has accepted. -/
def State.zoneJoins (s : State) (z : Nat) (r : Zone) (left : Nat) : State :=
  match r.accepted with
  | some c => (s.setZone z { r with state := .normal }).zoneTransition z c left
  | none => s.setZone z { r with state := .normal }

section
variable {z left : Nat} {r : Zone} (hr : s.zone z = some r)
include hr

theorem zoneWritten_of_leaves (hst : r.state = .normal ∨ r.state = .fault) :
    s.zoneWritten z false left =
      (s.setZone z { r with state := .disabled }).endFireEvent s [z] := by
  unfold State.zoneWritten
  rw [hr]
  rcases hst with h | h <;> simp only [h]

theorem zoneWritten_of_joins (hst : r.state = .disabled) :
    s.zoneWritten z true left = (s.zoneJoins z r left).endFireEvent s [z] := by
  unfold State.zoneWritten State.zoneJoins
  rw [hr]
  cases hc : r.accepted <;> simp only [hst, hc]

theorem zoneWritten_of_other {b : Bool} (h : (b = false ∧ r.state = .disabled) ∨
    (b = true ∧ r.state ≠ .disabled) ∨ (b = false ∧ (r.state = .alarm ∨ r.state = .latched))) :
    s.zoneWritten z b left = s := by
  unfold State.zoneWritten
  rw [hr]
  cases hst : r.state <;> cases b <;> simp [hst] at h ⊢

theorem zoneJoins_zone_of_accepted {c : LineClass} (hc : r.accepted = some c) :
    (s.zoneJoins z r left).zone z = some { r with
      state := zoneNext .normal c, lineFault := flagNext .normal c r.lineFault } := by
  unfold State.zoneJoins
  rw [hc]
  exact (zoneTransition_zone (zone_setZone_self hr _) c left).trans
    (congrArg some (afterAcceptance_eq _ _))

theorem zoneJoins_zone_of_none (hc : r.accepted = none) :
    (s.zoneJoins z r left).zone z = some { r with state := .normal } := by
  unfold State.zoneJoins
  rw [hc]
  exact zone_setZone_self hr _

omit hr in
theorem zoneJoins_zone_ne {k : Nat} (hk : k ≠ z) (r : Zone) (left : Nat) :
    (s.zoneJoins z r left).zone k = s.zone k := by
  unfold State.zoneJoins
  split
  · exact (zoneTransition_zone_ne hk _ _).trans (zone_setZone_ne hk _)
  · exact zone_setZone_ne hk _

omit hr in
theorem zoneJoins_addsReports (s : State) (z : Nat) (r : Zone) (left : Nat) :
    AddsReports (fun r => r.owner ≠ .fireUnit) s (s.zoneJoins z r left) := by
  unfold State.zoneJoins
  split
  · exact (AddsReports.setZone _ _ _).trans
      (AddsReports.zoneTransition (namesAbsent_fireUnit (by decide)) _ _ _ _)
  · exact .setZone _ _ _

theorem zoneJoins_raised (hz : isZone z = true) {c : LineClass} (hc : r.accepted = some c)
    (hst : r.state = .disabled) (k : Condition) :
    fireRaised s ((s.zoneJoins z r left).endFireEvent s [z]) k ↔
      (k = .zoneAlarm ∧ c = .alarm) ∨ (k = .zoneLineFault ∧ (c = .short ∨ c = .openCircuit)) := by
  have hzone := zoneJoins_zone_of_accepted (left := left) hr hc
  rw [fireRaised_endFireEvent (zoneJoins_addsReports s z r left), List.mem_append, mem_raisedIf,
    mem_raisedIf, any_entered_of_zone hz fun k hk => enteredAlarm_of_eq (zoneJoins_zone_ne hk r left),
    any_entered_of_zone hz fun k hk => enteredLineFault_of_eq (zoneJoins_zone_ne hk r left),
    enteredAlarm_eq hr hzone, enteredLineFault_eq hr hzone, hst]
  cases c <;> simp [zoneNext, flagNext]

theorem zoneJoins_steps (hc : r.accepted = some .alarm) (hw : s.mail.stepsOf z = []) :
    stepsTaken s (s.zoneJoins z r left) z left (s.store.scenario z) := by
  unfold State.zoneJoins State.zoneTransition
  simp only [hc]
  rw [zone_setZone_self hr]
  dsimp only
  rw [if_pos (by simp)]
  exact stepsTaken_congr rfl rfl rfl
    (placeScenario_taken (s := (s.setZone z _).setZone z _) left hw)

/-- The end of the event leaves the zone but for its lamps, which follow where its line has a class. -/
theorem endFireEvent_zone_taken (before : State) : ∃ r', (s.endFireEvent before [z]).zone z = some r' ∧
    (r'.state = r.state ∧ r'.lineFault = r.lineFault ∧ r'.accepted = r.accepted ∧
      r'.switchPos = r.switchPos) ∧
    (r.accepted ≠ none → lampsFollow (s.endFireEvent before [z]) z r') := by
  rcases Option.eq_none_or_eq_some r.accepted with ha | ⟨c, ha⟩
  · obtain ⟨a, b, h⟩ := lampsOnly.endFireEvent s before [z] r hr
    exact ⟨_, h, ⟨rfl, rfl, rfl, rfl⟩, fun h => absurd ha h⟩
  · obtain ⟨r', h, rfl, hl⟩ := endFireEvent_lamps hr ha before
    exact ⟨_, h, ⟨rfl, rfl, rfl, rfl⟩, fun _ => hl⟩

end

theorem zoneWritten_taken (s : State) (z left : Nat) (b : Bool) :
    zoneTaken s (s.zoneWritten z b left) z left b := by
  intro r hz hr
  refine ⟨?_, fun h => ?_⟩
  · rintro (⟨rfl, hst⟩ | ⟨rfl, hst⟩)
    · rw [zoneWritten_of_leaves hr hst]
      obtain ⟨r', h, ⟨hstate, -, hacc, hpos⟩, hl⟩ :=
        endFireEvent_zone_taken (zone_setZone_self hr { r with state := .disabled }) s
      exact ⟨r', h, hacc, hpos, hl, fun _ => hstate, nofun, nofun, nofun⟩
    · rw [zoneWritten_of_joins hr hst]
      rcases Option.eq_none_or_eq_some r.accepted with hc | ⟨c, hc⟩
      · obtain ⟨r', h, ⟨hstate, -, hacc, hpos⟩, hl⟩ :=
          endFireEvent_zone_taken (zoneJoins_zone_of_none (left := left) hr hc) s
        exact ⟨r', h, hacc, hpos, hl, nofun, fun _ _ => hstate, by simp [hc], by simp [hc]⟩
      · have hraised := zoneJoins_raised (left := left) hr hz hc hst
        have hmem : ∀ k, fireRaised s ((s.zoneJoins z r left).endFireEvent s [z]) k →
            ∃ x ∈ ((s.zoneJoins z r left).endFireEvent s [z]).mail.reports,
              x.owner = .fireUnit ∧ k ∈ x.events := fun k ⟨x, hx, h⟩ => ⟨x, List.mem_of_mem_drop hx, h⟩
        obtain ⟨r', h, ⟨hstate, hflag, hacc, hpos⟩, hl⟩ :=
          endFireEvent_zone_taken (zoneJoins_zone_of_accepted (left := left) hr hc) s
        refine ⟨r', h, hacc, hpos, hl, nofun, fun _ hn => ?_, fun _ hf => ?_, fun _ ha => ?_⟩
        · obtain rfl : c = .normal := by simpa [hc] using hn
          exact hstate
        · have hf : c = .short ∨ c = .openCircuit := by simpa [hc] using hf
          refine ⟨hstate.trans ?_, hmem _ ((hraised _).mpr (.inr ⟨rfl, hf⟩))⟩
          rcases hf with rfl | rfl <;> rfl
        · obtain rfl : c = .alarm := by simpa [hc] using ha
          exact ⟨hstate, hflag, hmem _ ((hraised _).mpr (.inl ⟨rfl, rfl⟩)), fun hw =>
            stepsTaken_congr rfl (endFireEvent_demand _ _ _) (endFireEvent_steps _ _ _)
              (zoneJoins_steps hr hc hw)⟩
  · rw [zoneWritten_of_other hr (h.imp id .inl)]
    exact .refl _ _

/-- The store's part of the write stands outside what the zone's claim is about. -/
theorem zoneTold_taken (s : State) (z left : Nat) (b : Bool) :
    zoneTaken s ((s.committed (.zone z b)).writeTold s left (.zone z b)) z left b := by
  intro r hz hr
  obtain ⟨hmoves, hquiet⟩ := zoneWritten_taken (s.committed (.zone z b)) z left b r hz hr
  exact ⟨hmoves, fun h => ((committed_frame s _).mono (by simp)).trans (hquiet h)⟩

end Sys2Proof.Machine
end

section
/-! PROOFS. The weather unit takes a write of its block (R66, R84, R91), stage by stage as the table of R84
has it, and every opening is recomputed. -/
namespace Sys2Proof.Machine
open Sys2Proof
variable {s t u : State}

/-! ### What the recomputation of an opening reads -/

/-- Which result serves an opening is read off the store, the table, the weather, its own result and node,
and the marks of LOCKOUT heads. -/
theorem servedAs_congr {n : Nat} {r : OpeningResult} (hstore : t.store = s.store)
    (hdemand : t.demand = s.demand) (hweather : t.weather = s.weather) (hresult : t.result n = s.result n)
    (hnode : t.node n = s.node n) (hfreezes : n ∈ t.mail.freezes ↔ n ∈ s.mail.freezes) :
    servedAs t n r ↔ servedAs s n r := by
  unfold servedAs State.lastReply State.nodeState
  rw [hstore, hdemand, hweather, hresult, hnode, hfreezes]

theorem recompute_served {n : Nat} {ns : List Nat} (h : n ∈ ns) (hns : ns.Nodup)
    (hen : s.store.enabled n = true) (hlen : n ≤ s.results.length) :
    ∃ r, (s.recompute ns).result n = some r ∧ servedAs s n r :=
  ⟨_, (recompute_of_mem h hns hen hlen).1, computeResult_servedAs s n⟩

/-! ### The stages of a write -/

section
variable (w : Weather) (old new : WeatherBlock)

/-- The anemometers are fitted or taken away, and the wind speed is judged afresh where one was. -/
def Weather.speedAfterWrite : Weather :=
  let a := w.anemA.afterWrite old.anemA.present new.anemA.present
  let b := w.anemB.afterWrite old.anemB.present new.anemB.present
  let first := !(old.anemA.present || old.anemB.present) && (new.anemA.present || new.anemB.present)
  let fitted := old.anemA.present != new.anemA.present || old.anemB.present != new.anemB.present
  { w with
    anemA := a, anemB := b, speedClass := if fitted then speedClassOf a b w.sample else w.speedClass
    takeOver := w.takeOver || first, capTakeOver := w.capTakeOver || first }

/-- The vane is fitted or taken away. -/
def Weather.vaneAfterWrite : Weather :=
  match old.vanePresent, new.vanePresent with
  | true, false => { w with vaneClass := .absent, vaneTimer := none, heldDir := none, dwell := none }
  | false, true => { w with vaneClass := .stale, vaneTimer := some 5000 }
  | _, _ => w

/-- A dwell under way ends where its settings changed. -/
def Weather.dwellAfterWrite : Weather :=
  if old.dirDeadband ≠ new.dirDeadband ∨ old.dirDwell ≠ new.dirDwell then { w with dwell := none } else w

/-- The rain contact is fitted or taken away. -/
def Weather.rainAfterWrite : Weather :=
  match old.rainPresent, new.rainPresent with
  | true, false => { w with wet := false, wetHold := none, dryHold := none }
  | false, true => { w with wet := false, wetHold := some 0, dryHold := none }
  | _, _ => w

/-- The probe is fitted or taken away. -/
def Weather.probeAfterWrite : Weather :=
  match old.probePresent, new.probePresent with
  | true, false => { w with tempClass := .absent, tempTimer := none }
  | false, true => { w with tempClass := .stale, tempTimer := some 10000 }
  | _, _ => w

theorem channelsAfterWrite_stages : w.channelsAfterWrite old new =
    ((((w.speedAfterWrite old new).vaneAfterWrite old new).dwellAfterWrite old new).rainAfterWrite
      old new).probeAfterWrite old new := rfl

theorem vaneAfterWrite_keeps : ∃ cls timer dir dwell, w.vaneAfterWrite old new =
    { w with vaneClass := cls, vaneTimer := timer, heldDir := dir, dwell := dwell } := by
  unfold Weather.vaneAfterWrite
  split <;> exact ⟨_, _, _, _, rfl⟩

theorem dwellAfterWrite_keeps : ∃ dwell, w.dwellAfterWrite old new = { w with dwell := dwell } := by
  unfold Weather.dwellAfterWrite
  split <;> exact ⟨_, rfl⟩

theorem rainAfterWrite_keeps : ∃ wet wetHold dryHold, w.rainAfterWrite old new =
    { w with wet := wet, wetHold := wetHold, dryHold := dryHold } := by
  unfold Weather.rainAfterWrite
  split <;> exact ⟨_, _, _, rfl⟩

theorem probeAfterWrite_keeps : ∃ cls timer, w.probeAfterWrite old new =
    { w with tempClass := cls, tempTimer := timer } := by
  unfold Weather.probeAfterWrite
  split <;> exact ⟨_, _, rfl⟩

theorem vaneAfterWrite_taken :
    let w' := w.vaneAfterWrite old new
    (old.vanePresent = true → new.vanePresent = false →
      w'.vaneClass = .absent ∧ w'.vaneTimer = none ∧ w'.heldDir = none ∧ w'.dwell = none) ∧
    (old.vanePresent = false → new.vanePresent = true →
      w'.vaneClass = .stale ∧ w'.vaneTimer = some 5000 ∧ w'.heldDir = w.heldDir) ∧
    (old.vanePresent = new.vanePresent → w' = w) := by
  unfold Weather.vaneAfterWrite
  cases old.vanePresent <;> cases new.vanePresent <;> simp

theorem rainAfterWrite_taken :
    let w' := w.rainAfterWrite old new
    (old.rainPresent = true → new.rainPresent = false →
      w'.wet = false ∧ w'.wetHold = none ∧ w'.dryHold = none) ∧
    (old.rainPresent = false → new.rainPresent = true →
      w'.wet = false ∧ w'.wetHold = some 0 ∧ w'.dryHold = none) ∧
    (old.rainPresent = new.rainPresent → w' = w) := by
  unfold Weather.rainAfterWrite
  cases old.rainPresent <;> cases new.rainPresent <;> simp

theorem probeAfterWrite_taken :
    let w' := w.probeAfterWrite old new
    (old.probePresent = true → new.probePresent = false →
      w'.tempClass = .absent ∧ w'.tempTimer = none) ∧
    (old.probePresent = false → new.probePresent = true →
      w'.tempClass = .stale ∧ w'.tempTimer = some 10000) ∧
    (old.probePresent = new.probePresent → w' = w) := by
  unfold Weather.probeAfterWrite
  cases old.probePresent <;> cases new.probePresent <;> simp

/-- The anemometers, the speed class and the take-overs are those of the first stage. -/
theorem channelsAfterWrite_speed :
    (w.channelsAfterWrite old new).anemA = (w.speedAfterWrite old new).anemA ∧
    (w.channelsAfterWrite old new).anemB = (w.speedAfterWrite old new).anemB ∧
    (w.channelsAfterWrite old new).speedClass = (w.speedAfterWrite old new).speedClass ∧
    (w.channelsAfterWrite old new).takeOver = (w.speedAfterWrite old new).takeOver ∧
    (w.channelsAfterWrite old new).capTakeOver = (w.speedAfterWrite old new).capTakeOver := by
  rw [channelsAfterWrite_stages]
  obtain ⟨_, _, hprobe⟩ := probeAfterWrite_keeps (((((w.speedAfterWrite old new).vaneAfterWrite old
    new).dwellAfterWrite old new).rainAfterWrite old new)) old new
  obtain ⟨_, _, _, hrain⟩ := rainAfterWrite_keeps ((((w.speedAfterWrite old new).vaneAfterWrite old
    new).dwellAfterWrite old new)) old new
  obtain ⟨_, hdwell⟩ := dwellAfterWrite_keeps ((w.speedAfterWrite old new).vaneAfterWrite old new) old new
  obtain ⟨_, _, _, _, hvane⟩ := vaneAfterWrite_keeps (w.speedAfterWrite old new) old new
  rw [hprobe, hrain, hdwell, hvane]
  exact ⟨rfl, rfl, rfl, rfl, rfl⟩

theorem channelsAfterWrite_vane :
    let w' := w.channelsAfterWrite old new
    (old.vanePresent = true → new.vanePresent = false →
      w'.vaneClass = .absent ∧ w'.vaneTimer = none ∧ w'.heldDir = none ∧ w'.dwell = none) ∧
    (old.vanePresent = false → new.vanePresent = true →
      w'.vaneClass = .stale ∧ w'.vaneTimer = some 5000 ∧ w'.heldDir = w.heldDir) ∧
    (old.vanePresent = new.vanePresent →
      w'.vaneClass = w.vaneClass ∧ w'.vaneTimer = w.vaneTimer ∧ w'.heldDir = w.heldDir) ∧
    (old.dirDeadband ≠ new.dirDeadband ∨ old.dirDwell ≠ new.dirDwell → w'.dwell = none) ∧
    (old.dirDeadband = new.dirDeadband → old.dirDwell = new.dirDwell →
      old.vanePresent = new.vanePresent → w'.dwell = w.dwell) := by
  rw [channelsAfterWrite_stages]
  obtain ⟨_, _, hprobe⟩ := probeAfterWrite_keeps (((((w.speedAfterWrite old new).vaneAfterWrite old
    new).dwellAfterWrite old new).rainAfterWrite old new)) old new
  obtain ⟨_, _, _, hrain⟩ := rainAfterWrite_keeps ((((w.speedAfterWrite old new).vaneAfterWrite old
    new).dwellAfterWrite old new)) old new
  obtain ⟨gone, came, kept⟩ := vaneAfterWrite_taken (w.speedAfterWrite old new) old new
  rw [hprobe, hrain]
  unfold Weather.dwellAfterWrite
  by_cases hd : old.dirDeadband ≠ new.dirDeadband ∨ old.dirDwell ≠ new.dirDwell
  · rw [if_pos hd]
    refine ⟨fun h h' => ?_, came, fun h => ?_, fun _ => rfl, fun h h' => absurd hd (by simp [h, h'])⟩
    · obtain ⟨hcls, htimer, hdir, -⟩ := gone h h'
      exact ⟨hcls, htimer, hdir, rfl⟩
    · rw [kept h]
      exact ⟨rfl, rfl, rfl⟩
  · rw [if_neg hd]
    refine ⟨gone, came, fun h => ?_, fun h => absurd h hd, fun _ _ h => ?_⟩
    · rw [kept h]
      exact ⟨rfl, rfl, rfl⟩
    · rw [kept h]
      rfl

theorem channelsAfterWrite_rain :
    let w' := w.channelsAfterWrite old new
    (old.rainPresent = true → new.rainPresent = false →
      w'.wet = false ∧ w'.wetHold = none ∧ w'.dryHold = none) ∧
    (old.rainPresent = false → new.rainPresent = true →
      w'.wet = false ∧ w'.wetHold = some 0 ∧ w'.dryHold = none) ∧
    (old.rainPresent = new.rainPresent →
      w'.wet = w.wet ∧ w'.wetHold = w.wetHold ∧ w'.dryHold = w.dryHold) := by
  rw [channelsAfterWrite_stages]
  obtain ⟨_, _, hprobe⟩ := probeAfterWrite_keeps (((((w.speedAfterWrite old new).vaneAfterWrite old
    new).dwellAfterWrite old new).rainAfterWrite old new)) old new
  obtain ⟨_, hdwell⟩ := dwellAfterWrite_keeps ((w.speedAfterWrite old new).vaneAfterWrite old new) old new
  obtain ⟨_, _, _, _, hvane⟩ := vaneAfterWrite_keeps (w.speedAfterWrite old new) old new
  obtain ⟨gone, came, kept⟩ := rainAfterWrite_taken
    (((w.speedAfterWrite old new).vaneAfterWrite old new).dwellAfterWrite old new) old new
  rw [hprobe]
  refine ⟨gone, came, fun h => ?_⟩
  rw [kept h, hdwell, hvane]
  exact ⟨rfl, rfl, rfl⟩

theorem channelsAfterWrite_probe :
    let w' := w.channelsAfterWrite old new
    (old.probePresent = true → new.probePresent = false →
      w'.tempClass = .absent ∧ w'.tempTimer = none) ∧
    (old.probePresent = false → new.probePresent = true →
      w'.tempClass = .stale ∧ w'.tempTimer = some 10000) ∧
    (old.probePresent = new.probePresent →
      w'.tempClass = w.tempClass ∧ w'.tempTimer = w.tempTimer) := by
  rw [channelsAfterWrite_stages]
  obtain ⟨_, _, _, hrain⟩ := rainAfterWrite_keeps ((((w.speedAfterWrite old new).vaneAfterWrite old
    new).dwellAfterWrite old new)) old new
  obtain ⟨_, hdwell⟩ := dwellAfterWrite_keeps ((w.speedAfterWrite old new).vaneAfterWrite old new) old new
  obtain ⟨_, _, _, _, hvane⟩ := vaneAfterWrite_keeps (w.speedAfterWrite old new) old new
  obtain ⟨gone, came, kept⟩ := probeAfterWrite_taken
    ((((w.speedAfterWrite old new).vaneAfterWrite old new).dwellAfterWrite old new).rainAfterWrite old
      new) old new
  refine ⟨gone, came, fun h => ?_⟩
  rw [kept h, hrain, hdwell, hvane]
  exact ⟨rfl, rfl⟩

end

/-! ### The anemometers and the wind speed -/

theorem afterWrite_presenceTaken (a : Anemometer) (before after : Bool) :
    presenceTaken before after a (a.afterWrite before after) := by
  cases before <;> cases after <;> simp [presenceTaken, Anemometer.afterWrite]

theorem speedClassOf_judged (a b : Anemometer) (x : Option Nat) : speedJudged a b x (speedClassOf a b x) := by
  unfold speedJudged
  simp only [← usable_iff]
  refine ⟨fun ha hb => ?_, fun ha hb => ?_, fun ha hb => ?_, fun ha hb => ?_⟩
  · simp only [speedClassOf, ha, hb]
    rfl
  · rw [Bool.not_eq_true] at hb
    simp only [speedClassOf, ha, hb]
    exact over_or_valid ha
  · rw [Bool.not_eq_true] at ha
    simp only [speedClassOf, ha, hb]
    exact over_or_valid hb
  · rw [Bool.not_eq_true] at ha hb
    simp only [speedClassOf, ha, hb]

section
variable (w : Weather) (old new : WeatherBlock)

theorem speedAfterWrite_taken :
    let w' := w.speedAfterWrite old new
    let fitted := old.anemA.present = false ∧ old.anemB.present = false ∧
      (new.anemA.present = true ∨ new.anemB.present = true)
    (old.anemA.present ≠ new.anemA.present ∨ old.anemB.present ≠ new.anemB.present →
      speedJudged w'.anemA w'.anemB w.sample w'.speedClass) ∧
    (old.anemA.present = new.anemA.present → old.anemB.present = new.anemB.present →
      w'.speedClass = w.speedClass) ∧
    (w'.takeOver = true ↔ w.takeOver = true ∨ fitted) ∧
    (w'.capTakeOver = true ↔ w.capTakeOver = true ∨ fitted) := by
  refine ⟨fun h => ?_, fun ha hb => ?_, ?_, ?_⟩
  · have hcls : (w.speedAfterWrite old new).speedClass = speedClassOf
        (w.speedAfterWrite old new).anemA (w.speedAfterWrite old new).anemB w.sample :=
      if_pos (by simpa using h)
    rw [hcls]
    exact speedClassOf_judged _ _ _
  · exact if_neg (by simp [ha, hb])
  · simp [Weather.speedAfterWrite, and_assoc]
  · simp [Weather.speedAfterWrite, and_assoc]

end

/-! ### The monitors -/

theorem monitorAfterWrite_taken (m : MonitorLimits) (st : MonitorState) (before after : ChannelClass)
    (x : Option Int) : monitorAfterWrite m st (before != .absent && after == .absent)
      (if after.ordered then x else none) = monitorTaken m st before after x := by
  unfold monitorAfterWrite monitorTaken
  simp

/-! ### The block taken -/

section
variable (s : State) (v : WeatherBlock)

/-- The state in which a write of the weather block has the openings recomputed. -/
def State.weatherBrought : State :=
  let w := s.weather.applyBlock s.store.weather.value v
  ((((s.committed (.weather v)).setWeather w).tellWeather (s.weather.told w)).reportWeather s).takeSupply s

theorem weatherTold_eq (left : Nat) : (s.committed (.weather v)).writeTold s left (.weather v) =
    (s.weatherBrought v).recompute (s.weatherBrought v).store.enabledOpenings := rfl

/-- What the weather unit reports as it takes the block stays reported. -/
theorem weatherTold_reported (left : Nat) {c : Condition} {live : Bool}
    (h : (c, live) ∈ weatherLives s
      ((s.committed (.weather v)).setWeather (s.weather.applyBlock s.store.weather.value v))) :
    weatherReported ((s.committed (.weather v)).writeTold s left (.weather v)) c live :=
  ((AddsReports.takeSupply (names_sparesSensors _) _ _).trans
    (.recompute weatherClose_sparesSensors _ _)).weatherReported (reportWeather_reported h)

theorem takeSupply_reads (before : State) : SameReads s (s.takeSupply before) ∧
    (s.takeSupply before).mail.freezes = s.mail.freezes := by
  unfold State.takeSupply
  split
  · exact ⟨.refl s, rfl⟩
  · exact ⟨endMoveEvent_reads s s, by rw [State.budgetsTaken, endMoveEvent_mail]⟩

/-- Each enabled opening is recomputed on the block and the weather as they stand by then. -/
theorem weatherTold_served (left : Nat) {n : Nat}
    (hen : ((s.committed (.weather v)).writeTold s left (.weather v)).store.enabled n = true)
    (hlen : n ≤ s.results.length) :
    let t := (s.committed (.weather v)).writeTold s left (.weather v)
    ∃ r, t.result n = some r ∧ servedAs { s with store := t.store, weather := t.weather } n r := by
  intro t
  let b := s.weatherBrought v
  let u := ((s.committed (.weather v)).setWeather (s.weather.applyBlock s.store.weather.value v)).tellWeather
    (s.weather.told (s.weather.applyBlock s.store.weather.value v))
  have hframe : sameOutside [.results, .mail] b t := recompute_frame b _
  have hreport : sameOutside [.mail] u (u.reportWeather s) := report_frame u _ _ _
  obtain ⟨hreads, hfreezes⟩ := takeSupply_reads (u.reportWeather s) s
  have hdemand : b.demand = s.demand :=
    (takeSupply_frame (u.reportWeather s) s .demand (by simp)).trans (hreport .demand (by simp))
  have hresults : b.results = s.results := hreads.results.trans (hreport .results (by simp))
  have hnode : b.node n = s.node n :=
    (hreads.node n).trans (congrArg (fun x : Bus => nthSome x.nodes n) (hreport .bus (by simp)))
  have hfreezes : b.mail.freezes = s.mail.freezes :=
    hfreezes.trans ((congrArg Mail.freezes (reportWeather_mail u s)).trans rfl)
  have hresult : s.result n = b.result n := by rw [State.result, State.result, hresults]
  have hstore : t.store = b.store := hframe .store (by simp)
  have hen : b.store.enabled n = true := by
    rw [← hstore]
    exact hen
  obtain ⟨r, hr, hserved⟩ := recompute_served (s := b) (mem_enabledOpenings hen)
    (enabledOpenings_nodup _) hen (by rw [hresults]; exact hlen)
  exact ⟨r, hr, (servedAs_congr (t := { s with store := t.store, weather := t.weather }) hstore
    hdemand.symm (hframe .weather (by simp)) hresult hnode.symm (by rw [hfreezes])).mpr hserved⟩

theorem applyBlock_kept (w : Weather) {old new : WeatherBlock} (h : old ≠ new) :
    let w' := w.applyBlock old new
    w'.sample = w.sample ∧ w'.filtered = w.filtered ∧ w'.gates = w.gates ∧
      w'.vaneValue = w.vaneValue ∧ w'.tempValue = w.tempValue ∧ w'.supplyClass = w.supplyClass ∧
      w'.supplyValue = w.supplyValue := by
  rw [applyBlock_of_ne w h, Weather.monitorsAfterWrite, channelsAfterWrite_keeps]
  exact ⟨rfl, rfl, rfl, rfl, rfl, rfl, rfl⟩

/-- A write that changes the block brings the channels into line, then the monitors and the caps. -/
theorem applyBlock_channels (w : Weather) {old new : WeatherBlock} (h : old ≠ new) :
    ∃ wind temp supply c1 c2 c3, w.applyBlock old new = { w.channelsAfterWrite old new with
      windState := wind, tempState := temp, supplyState := supply
      capWindward := c1, capLeeward := c2, capFlat := c3 } :=
  ⟨_, _, _, _, _, _, applyBlock_of_ne w h⟩

theorem applyBlock_monitors (w : Weather) {old new : WeatherBlock} (h : old ≠ new) :
    let w' := w.applyBlock old new
    w'.windState = monitorTaken new.windMonitor w.windState w.speedClass w'.speedClass
      (some (w.filtered : Int)) ∧
    w'.tempState = monitorTaken new.tempMonitor w.tempState w.tempClass w'.tempClass w.tempValue ∧
    w'.supplyState = monitorNext new.supplyMonitor
      (if w.supplyState = .low ∧ new.supplyMonitor.mode = .band then .normal else w.supplyState)
      (some w.supplyValue) := by
  rw [applyBlock_of_ne w h, Weather.monitorsAfterWrite, channelsAfterWrite_keeps]
  exact ⟨monitorAfterWrite_taken _ _ _ _ _, monitorAfterWrite_taken _ _ _ _ _, rfl⟩

/-- The resolver and the condition unit are told of what the write changed. -/
theorem weatherTold_tells (left : Nat) :
    let w' := s.weather.applyBlock s.store.weather.value v
    let t := (s.committed (.weather v)).writeTold s left (.weather v)
    (w'.wet ≠ s.weather.wet → .rain ∈ t.mail.weather ∧ weatherReported t .rain w'.wet) ∧
    (w'.storm ≠ s.weather.storm → .storm ∈ t.mail.weather ∧ weatherReported t .storm w'.storm) ∧
    (w'.frost ≠ s.weather.frost → .frost ∈ t.mail.weather ∧ weatherReported t .frost w'.frost) ∧
    (w'.lowSupply ≠ s.weather.lowSupply → weatherReported t .lowSupply w'.lowSupply) := by
  intro w' t
  have htold : ∀ x, x ∈ s.weather.told w' → x ∈ t.mail.weather := fun x hx => by
    rw [show t.mail.weather = _ from weatherWritten_weatherTold _ _ _ _]
    exact List.mem_append_right _ hx
  refine ⟨fun h => ⟨htold _ (mem_told_rain.mpr h.symm), weatherTold_reported s v left ?_⟩,
    fun h => ⟨htold _ (mem_told_storm.mpr h.symm), weatherTold_reported s v left ?_⟩,
    fun h => ⟨htold _ (mem_told_frost.mpr h.symm), weatherTold_reported s v left ?_⟩,
    fun h => weatherTold_reported s v left ?_⟩
  · simp [weatherLives, mem_changedLive, w', h.symm]
  · simp [weatherLives, mem_changedLive, w', h.symm]
  · simp [weatherLives, mem_changedLive, w', h.symm]
  · simp [weatherLives, mem_changedLive, w', h.symm]

theorem weatherTold_taken (left : Nat) :
    weatherTaken s ((s.committed (.weather v)).writeTold s left (.weather v)) v := by
  have hw : ((s.committed (.weather v)).writeTold s left (.weather v)).weather =
      s.weather.applyBlock s.store.weather.value v := weatherWritten_weather _ _ _ _
  refine ⟨fun h => ?_, fun h => ?_, fun n hen hlen => weatherTold_served s v left hen hlen⟩
  · rw [hw]
    exact if_pos h.symm
  · have hne : s.store.weather.value ≠ v := h.symm
    obtain ⟨rain, storm, frost, low⟩ := weatherTold_tells s v left
    obtain ⟨hsample, hfiltered, hgates, hvane, htemp, hscls, hsupply⟩ := applyBlock_kept s.weather hne
    obtain ⟨hwind, hfrost, hlow⟩ := applyBlock_monitors s.weather hne
    obtain ⟨hanemA, hanemB, hcls, hto, hcto⟩ :=
      channelsAfterWrite_speed s.weather s.store.weather.value v
    obtain ⟨hjudged, hkept, htake, hcap⟩ := speedAfterWrite_taken s.weather s.store.weather.value v
    obtain ⟨vgone, vcame, vkept, dgone, dkept⟩ :=
      channelsAfterWrite_vane s.weather s.store.weather.value v
    obtain ⟨rgone, rcame, rkept⟩ := channelsAfterWrite_rain s.weather s.store.weather.value v
    obtain ⟨pgone, pcame, pkept⟩ := channelsAfterWrite_probe s.weather s.store.weather.value v
    have hA : presenceTaken s.store.weather.value.anemA.present v.anemA.present s.weather.anemA
        (s.weather.channelsAfterWrite s.store.weather.value v).anemA :=
      hanemA ▸ afterWrite_presenceTaken _ _ _
    have hB : presenceTaken s.store.weather.value.anemB.present v.anemB.present s.weather.anemB
        (s.weather.channelsAfterWrite s.store.weather.value v).anemB :=
      hanemB ▸ afterWrite_presenceTaken _ _ _
    rw [← hanemA, ← hanemB, ← hcls] at hjudged
    rw [← hcls] at hkept
    rw [← hto] at htake
    rw [← hcto] at hcap
    obtain ⟨_, _, _, _, _, _, hchannels⟩ := applyBlock_channels s.weather hne
    rw [hw]
    rw [hchannels] at hsample hfiltered hgates hvane htemp hscls hsupply hwind hfrost hlow rain storm frost low ⊢
    exact ⟨hA, hB, hsample, hfiltered, hgates, hjudged, hkept, htake, hcap, hvane, htemp, hscls, hsupply,
      vgone, vcame, vkept, dgone, dkept, rgone, rcame, rkept, pgone, pcame, pkept, hwind, hfrost, hlow,
      rain, storm, frost, low⟩

end

end Sys2Proof.Machine
end

section
/-! PROOFS. The blocks take a write of an opening's entry (R87, R104, R111, R150, R161), as the entry stays
enabled, becomes enabled, becomes disabled or stays disabled. -/
namespace Sys2Proof.Machine
open Sys2Proof
variable {s t u : State} {n : Nat}

/-! ### What an event of the movement controller leaves of the bus -/

/-- The rotation and the transaction stand, and an order in flight is at most superseded. -/
def busKept (s t : State) : Prop :=
  t.bus.rotation = s.bus.rotation ∧ t.bus.transaction = s.bus.transaction ∧
    t.bus.inFlight.map InFlight.order = s.bus.inFlight.map InFlight.order

theorem busKept_of_bus (h : t.bus = s.bus) : busKept s t := by
  rw [busKept, h]
  exact ⟨rfl, rfl, rfl⟩

theorem busKept.trans (h : busKept s t) (h' : busKept t u) : busKept s u :=
  ⟨h'.1.trans h.1, h'.2.1.trans h.2.1, h'.2.2.trans h.2.2⟩

theorem supersede_order (f : Option InFlight) (n : Nat) :
    (supersede f n).map InFlight.order = f.map InFlight.order := by
  cases f with
  | none => rfl
  | some x =>
    simp only [supersede, Option.map_some]
    split <;> rfl

theorem queueOrder_busKept (s : State) (n : Nat) (k : OrderKind) : busKept s (s.queueOrder n k) := by
  have henqueue : ∀ b : Bus, ∀ o : Order, (b.enqueue o).rotation = b.rotation ∧
      (b.enqueue o).transaction = b.transaction ∧
      (b.enqueue o).inFlight.map InFlight.order = b.inFlight.map InFlight.order := fun b o => by
    unfold Bus.enqueue
    split
    · exact ⟨rfl, rfl, rfl⟩
    · exact ⟨rfl, rfl, supersede_order _ _⟩
  unfold State.queueOrder
  dsimp only
  split <;> exact henqueue _ _

theorem grant_busKept (s : State) (n : Nat) : busKept s (s.grant n) := by
  unfold State.grant
  split
  · exact (busKept_of_bus rfl).trans (queueOrder_busKept _ _ _)
  · exact busKept_of_bus rfl

theorem grantUpTo_busKept (k : Nat) (s : State) : busKept s (State.grantUpTo k s) := by
  induction k generalizing s with
  | zero => exact busKept_of_bus rfl
  | succ k ih =>
    unfold State.grantUpTo
    split
    · next t ht =>
      obtain ⟨c, -, -, -, rfl⟩ := grantOne_eq_some ht
      exact (grant_busKept s c).trans (ih _)
    · exact busKept_of_bus rfl

theorem endMoveEvent_busKept (s before : State) : busKept s (s.endMoveEvent before) :=
  ((busKept_of_bus (announceMoves_bus s before)).trans (grantUpTo_busKept _ _)).trans
    (busKept_of_bus (announceMoves_bus _ _))

/-! ### What an event reports as fallen -/

theorem fallReported_of_adds {P : Report → Prop} (h : AddsReports P s t) {owner : Owner} {c : Condition}
    (hs : fallReported s owner c) : fallReported t owner c := by
  obtain ⟨r, hr, hown, hl⟩ := hs
  exact ⟨r, h.mem hr, hown, hl⟩

theorem fallReported_report {owner : Owner} {c : Condition} {l : List (Condition × Bool)}
    (h : (c, false) ∈ l) (e : List Condition) : fallReported (s.report owner l e) owner c := by
  refine ⟨⟨owner, l, e⟩, ?_, rfl, h⟩
  rw [report_mail, if_neg fun hn => List.ne_nil_of_mem h hn.1]
  exact List.mem_append_right _ (List.mem_singleton_self _)

theorem mem_changedLive_fall {c : Condition} {b a : Bool} (hb : b = true) (ha : a = false) :
    (c, false) ∈ changedLive c b a := mem_changedLive.mpr ⟨rfl, ha.symm, by rw [hb, ha]; decide⟩

theorem endMoveEvent_fall (before : State) (hb : before.anyFaulted = true) (ha : s.anyFaulted = false) :
    fallReported (s.endMoveEvent before) .movementController .openingFault := by
  have hfirst : fallReported (s.announceMoves before) .movementController .openingFault :=
    fallReported_report (List.mem_append_left _ (mem_changedLive_fall hb ha)) _
  obtain ⟨later, hlater⟩ := endMoveEvent_reports s before
  obtain ⟨r, hr, h⟩ := hfirst
  exact ⟨r, by rw [hlater]; exact List.mem_append_left _ hr, h⟩

theorem endBusEvent_fall_lost (before : State) (hb : before.anyLost = true) (ha : s.anyLost = false) :
    fallReported (s.endBusEvent before) .driveBusController .openingLost :=
  fallReported_report (List.mem_append_left _ (mem_changedLive_fall hb ha)) _

theorem endBusEvent_fall_isolated (before : State) (hb : before.anyIsolated = true)
    (ha : s.anyIsolated = false) :
    fallReported (s.endBusEvent before) .driveBusController .openingIsolated :=
  fallReported_report (List.mem_append_right _ (mem_changedLive_fall hb ha)) _

/-! ### The lamps -/

/-- The lamps of the zones evaluated at the end follow, on whatever the blocks did before. -/
theorem evalLampsOf_follow {z : Nat} {r : Zone} {zs : List Nat} (hz : z ∈ zs) (hr : s.zone z = some r)
    (ha : r.accepted ≠ none) : ∃ r', (s.evalLampsOf zs).zone z = some r' ∧
      lampsFollow (s.evalLampsOf zs) z r' := by
  obtain ⟨c, hc⟩ := Option.ne_none_iff_exists'.mp ha
  have hframe := evalLampsOf_frame s zs
  exact ⟨_, evalLampsOf_mem hz hr hc, lampsFollow_of_eval (hframe .store (by simp))
    (hframe .moves (by simp)) (congrArg Bus.nodes (hframe .bus (by simp)))⟩

/-! ### An opening that stays enabled -/

/-- The movement controller's part of the judgement, before the end of the event. -/
def State.judgedOn (s : State) (n : Nat) : State :=
  match s.moveState n with
  | some .atRest => s.evaluateAtRest n
  | some .waitSlot => if s.withinDeadband n then s.enterAtRest n else s
  | _ => s

theorem entryJudged_eq (s : State) (n : Nat) : s.entryJudged n = (s.judgedOn n).endMoveEvent s := rfl

theorem judgedOn_actsOn (s : State) (n : Nat) : ActsOn n s (s.judgedOn n) := by
  unfold State.judgedOn
  split
  · exact evaluateAtRest_actsOn s n
  · split
    · exact enterAtRest_actsOn s n
    · exact .refl n s
  · exact .refl n s

theorem judgedOn_of_other {m : MoveRecord} (hm : s.move n = some m) (ha : m.state ≠ .atRest)
    (hw : m.state ≠ .waitSlot) : s.judgedOn n = s := by
  unfold State.judgedOn
  rw [moveState_eq hm]
  split
  · next hs => exact absurd (Option.some.inj hs) ha
  · next hs => exact absurd (Option.some.inj hs) hw
  · rfl

/-- How the judgement leaves the opening's record `m`, seen from a state that reads the same. -/
theorem entryJudged_move {m : MoveRecord} (hreads : SameReads s u) (hel : u.eligible n = s.eligible n)
    (hm : u.move n = some m) :
    (m.state = .atRest → restsAs s (u.entryJudged n) n m) ∧
    (m.state = .waitSlot → nearTarget s n → restsAs s (u.entryJudged n) n (m.bare .atRest)) ∧
    (m.state = .waitSlot → ¬nearTarget s n →
      (u.entryJudged n).move n = some m ∨
        (s.eligible n = true ∧ (u.entryJudged n).moveState n = some .breakaway)) ∧
    (m.state ≠ .atRest → m.state ≠ .waitSlot → (u.entryJudged n).move n = some m) := by
  have hnear : u.withinDeadband n = true ↔ nearTarget s n :=
    (withinDeadband_iff u n).trans (hreads.nearTarget n)
  have hstate : ∀ st, m.state = st → u.moveState n = some st := fun st h => h ▸ moveState_eq hm
  rw [entryJudged_eq]
  refine ⟨fun h => ?_, fun h hn => ?_, fun h hn => ?_, fun h h' => ?_⟩
  · rw [State.judgedOn, hstate _ h]
    exact restsAs_evaluateAtRest hreads hm h (.refl _ _) u
  · rw [State.judgedOn, hstate _ h]
    dsimp only
    rw [if_pos (hnear.mpr hn)]
    exact restsAs_enterAtRest hreads hm (.refl _ _) u
  · rw [State.judgedOn, hstate _ h]
    dsimp only
    rw [if_neg (mt hnear.mp hn), ← hel, ← hm]
    exact endMoveEvent_move u u n
  · rw [judgedOn_of_other hm h h']
    exact endMoveEvent_move_of_state hm h' u

end Sys2Proof.Machine
end

section
/-! PROOFS. The blocks take a write of an opening's entry, case by case, and a completed write as a whole
takes effect (R20, R150, R161). -/
namespace Sys2Proof.Machine
open Sys2Proof
variable {s t u : State} {n : Nat}

/-! ### An opening newly enabled -/

theorem nthSome_setNth_of_le {α : Type} {l : List (Option α)} (h1 : 1 ≤ n) (h2 : n ≤ l.length)
    (a : Option α) : nthSome (setNth l n a) n = a := by
  obtain ⟨k, rfl⟩ : ∃ k, n = k + 1 := ⟨n - 1, by omega⟩
  exact nthSome_setNth_self l (k + 1) a l[k] (List.getElem?_eq_getElem (by omega))

/-- The drive bus controller's part: the node record is as at reset, and the opening in the rotation. -/
def State.nodeReset (s : State) (n : Nat) : State := s.setBus (s.bus.openingEnabled s.store n)

/-- The movement controller's part: the movement record is as at reset. -/
def State.recordReset (s : State) (n : Nat) : State :=
  (s.nodeReset n).setMoves (setNth (s.nodeReset n).moves n (some .atReset))

/-- The state in which a newly enabled opening is recomputed. -/
def State.recordsNew (s : State) (n : Nat) : State := (s.recordReset n).endMoveEvent (s.nodeReset n)

theorem openingEnabled_eq (s : State) (n : Nat) :
    s.openingEnabled n = (s.recordsNew n).recompute [n] := rfl

theorem recordsNew_frame (s : State) (n : Nat) :
    sameOutside [.moves, .bus, .fire, .mail] s (s.recordsNew n) :=
  (((setBus_frame _ _).mono (by simp)).trans ((setMoves_frame _ _).mono (by simp))).trans
    (endMoveEvent_frame _ _)

theorem openingEnabled_bus (s : State) (n : Nat) :
    (s.openingEnabled n).bus = (s.recordsNew n).bus := recompute_frame _ _ .bus (by simp)

theorem recordsNew_reads (s : State) (n : Nat) : SameReads (s.nodeReset n) (s.recordsNew n) :=
  SameReads.trans (t := s.recordReset n) ⟨rfl, rfl, rfl⟩ (endMoveEvent_reads _ _)

theorem openingEnabled_move (h1 : 1 ≤ n) (hlen : n ≤ s.moves.length) :
    (s.openingEnabled n).move n = some .atReset := by
  have hmoves : (s.openingEnabled n).move n = (s.recordsNew n).move n :=
    congrArg (fun l => nthSome l n) (recompute_frame (s.recordsNew n) [n] .moves (by simp))
  have hnew : nthSome (setNth s.moves n (some .atReset)) n = some .atReset :=
    nthSome_setNth_of_le h1 hlen _
  exact hmoves.trans (endMoveEvent_move_of_state (s := s.recordReset n) hnew (by decide) _)

theorem openingEnabled_node (h1 : 1 ≤ n) (hlen : n ≤ s.bus.nodes.length) :
    (s.openingEnabled n).node n = some .atReset := by
  have hnode : (s.openingEnabled n).node n = (s.recordsNew n).node n :=
    congrArg (fun b : Bus => nthSome b.nodes n) (openingEnabled_bus s n)
  exact hnode.trans (((recordsNew_reads s n).node n).trans (nthSome_setNth_of_le h1 hlen _))

theorem openingEnabled_result (hen : s.store.enabled n = true) (hlen : n ≤ s.results.length) :
    ∃ r, (s.openingEnabled n).result n = some r ∧
      servedAs { s with bus := (s.openingEnabled n).bus } n r := by
  have hframe := recordsNew_frame s n
  have hstore : (s.recordsNew n).store = s.store := hframe .store (by simp)
  have hresults : (s.recordsNew n).results = s.results := hframe .results (by simp)
  have hmail : (s.recordsNew n).mail.freezes = s.mail.freezes := by
    rw [State.recordsNew, endMoveEvent_mail]
    rfl
  obtain ⟨r, hr, hserved⟩ := recompute_served (s := s.recordsNew n) (List.mem_singleton_self n)
    (List.nodup_singleton n) (by rw [hstore]; exact hen) (by rw [hresults]; exact hlen)
  refine ⟨r, hr, (servedAs_congr (t := { s with bus := (s.openingEnabled n).bus }) hstore.symm
    (hframe .demand (by simp)).symm (hframe .weather (by simp)).symm ?_ ?_ (by rw [hmail])).mpr hserved⟩
  · exact congrArg (fun l => nthSome l n) hresults.symm
  · exact congrArg (fun b : Bus => nthSome b.nodes n) (openingEnabled_bus s n)

theorem openingEnabled_rotation (s : State) (n : Nat) : (s.openingEnabled n).bus.rotation =
    if s.bus.rotation = 0 then s.store.nextEnabled 0 else s.bus.rotation := by
  rw [openingEnabled_bus]
  exact (endMoveEvent_busKept (s.recordReset n) _).1

/-! ### An opening newly disabled -/

/-- The resolver's part: the result is discarded. -/
def State.resultGone (s : State) (n : Nat) : State :=
  (s.setResults (setNth s.results n none)).judgeWeatherClose s

/-- The movement controller's part: the record and what was told of the opening are discarded. -/
def State.recordGone (s : State) (n : Nat) : State :=
  ((s.resultGone n).setMoves (setNth (s.resultGone n).moves n none)).setMail ((s.resultGone n).mail.without n)

/-- The part at the end of the movement controller's event. -/
def State.moveGone (s : State) (n : Nat) : State := (s.recordGone n).endMoveEvent (s.resultGone n)

/-- The drive bus controller's part. -/
def State.nodeGone (s : State) (n : Nat) : State :=
  (s.moveGone n).setBus ((s.moveGone n).bus.openingDisabled (s.moveGone n).store n)

theorem openingDisabled_eq (s : State) (n : Nat) :
    s.openingDisabled n = (s.nodeGone n).endBusEvent (s.moveGone n) := rfl

theorem resultGone_frame (s : State) (n : Nat) : sameOutside [.results, .mail] s (s.resultGone n) :=
  ((setResults_frame _ _).mono (by simp)).trans ((judgeWeatherClose_frame _ _).mono (by simp))

theorem recordGone_frame (s : State) (n : Nat) :
    sameOutside [.results, .moves, .mail] s (s.recordGone n) :=
  (((resultGone_frame s n).mono (by simp)).trans ((setMoves_frame _ _).mono (by simp))).trans
    ((setMail_frame _ _).mono (by simp))

theorem moveGone_frame (s : State) (n : Nat) :
    sameOutside [.results, .moves, .bus, .fire, .mail] s (s.moveGone n) :=
  ((recordGone_frame s n).mono (by simp)).trans ((endMoveEvent_frame _ _).mono (by simp))

theorem openingDisabled_result (s : State) (n : Nat) : (s.openingDisabled n).result n = none := by
  have hresults : (s.openingDisabled n).results = (s.resultGone n).results :=
    (endBusEvent_frame (s.nodeGone n) _ .results (by simp)).trans
      (endMoveEvent_frame (s.recordGone n) _ .results (by simp))
  have hgone : (s.resultGone n).results = setNth s.results n none :=
    judgeWeatherClose_frame (s.setResults _) s .results (by simp)
  rw [State.result, hresults, hgone]
  exact nthSome_setNth_none _ _

theorem recordGone_move_self (s : State) (n : Nat) : (s.recordGone n).move n = none :=
  nthSome_setNth_none _ _

theorem recordGone_move_ne {k : Nat} (h : k ≠ n) : (s.recordGone n).move k = s.move k :=
  (nthSome_setNth_ne _ _ _ _ h).trans
    (congrArg (fun l => nthSome l k) (resultGone_frame s n .moves (by simp)))

theorem openingDisabled_move (s : State) (n : Nat) : (s.openingDisabled n).move n = none := by
  have hmoves : (s.openingDisabled n).move n = (s.moveGone n).move n :=
    congrArg (fun l => nthSome l n) (endBusEvent_frame (s.nodeGone n) (s.moveGone n) .moves (by simp))
  have hel : (s.recordGone n).eligible n = false := by
    rw [State.eligible, recordGone_move_self]
  exact hmoves.trans ((endMoveEvent_move_of_not_eligible hel _).trans (recordGone_move_self s n))

theorem openingDisabled_bus (s : State) (n : Nat) : (s.openingDisabled n).bus =
    (s.moveGone n).bus.openingDisabled s.store n := by
  rw [openingDisabled_eq, endBusEvent_bus]
  exact congrArg (fun st => (s.moveGone n).bus.openingDisabled st n) (moveGone_frame s n .store (by simp))

theorem moveGone_busKept (s : State) (n : Nat) : busKept s (s.moveGone n) :=
  (busKept_of_bus (recordGone_frame s n .bus (by simp))).trans (endMoveEvent_busKept _ _)

theorem moveGone_nodes (s : State) (n : Nat) : (s.moveGone n).bus.nodes = s.bus.nodes :=
  (endMoveEvent_reads (s.recordGone n) _).nodes.trans
    (congrArg Bus.nodes (recordGone_frame s n .bus (by simp)))

theorem moveGone_nodeState (s : State) (n k : Nat) : (s.moveGone n).nodeState k = s.nodeState k := by
  rw [State.nodeState, State.node, moveGone_nodes]
  rfl

theorem nodeGone_nodeState_self (s : State) (n : Nat) : (s.nodeGone n).nodeState n = none := by
  have hnode : (s.nodeGone n).node n = none := nthSome_setNth_none _ _
  rw [State.nodeState, hnode]

theorem nodeGone_nodeState_ne {k : Nat} (h : k ≠ n) : (s.nodeGone n).nodeState k = s.nodeState k := by
  have hnode : (s.nodeGone n).node k = (s.moveGone n).node k := nthSome_setNth_ne _ _ _ _ h
  rw [← moveGone_nodeState s n k, State.nodeState, hnode]
  rfl

theorem openingDisabled_node (s : State) (n : Nat) : (s.openingDisabled n).node n = none := by
  rw [State.node, openingDisabled_bus]
  exact nthSome_setNth_none _ _

theorem openingDisabled_mail (s : State) (n : Nat) : ∃ reports, (s.openingDisabled n).mail =
    { s.mail.without n with reports := reports } := by
  obtain ⟨later, hlater⟩ := endBusEvent_mail (s.nodeGone n) (s.moveGone n)
  have hgone : (s.moveGone n).mail = { (s.recordGone n).mail with reports := (s.moveGone n).mail.reports } :=
    endMoveEvent_mail _ _
  have hresult : (s.resultGone n).mail = { s.mail with reports := (s.resultGone n).mail.reports } := by
    rw [State.resultGone, State.judgeWeatherClose, report_mail]
    rfl
  have hrecord : (s.recordGone n).mail = (s.resultGone n).mail.without n := rfl
  refine ⟨(s.nodeGone n).mail.reports ++ later, hlater.trans ?_⟩
  change ({ (s.moveGone n).mail with reports := _ } : Mail) = _
  rw [hgone, hrecord, hresult]
  rfl

/-- A condition that one opening alone made live falls with it. -/
theorem any_alone {α : Type} [DecidableEq α] {f : Nat → Option α} {a : α} (hn : f n ≠ some a)
    (h : ∀ k, k ≠ n → f k ≠ some a) : (openingNumbers.any fun k => f k == some a) = false := by
  refine List.any_eq_false.mpr fun k _ => ?_
  by_cases hk : k = n
  · subst hk
    simpa using hn
  · simpa using h k hk

theorem any_of_mem {α : Type} [DecidableEq α] {f : Nat → Option α} {a : α} (hn : isOpening n = true)
    (h : f n = some a) : (openingNumbers.any fun k => f k == some a) = true :=
  List.any_eq_true.mpr ⟨n, (mem_openingNumbers n).mpr ((isOpening_iff n).mp hn), by simp [h]⟩

theorem openingDisabled_fault (hn : isOpening n = true) (hf : s.moveState n = some .faulted)
    (h : ∀ k, k ≠ n → s.moveState k ≠ some .faulted) :
    fallReported (s.openingDisabled n) .movementController .openingFault := by
  have hbefore : (s.resultGone n).anyFaulted = true := by
    refine any_of_mem hn ((moveState_congr ?_).trans hf)
    exact congrArg (fun l => nthSome l n) (resultGone_frame s n .moves (by simp))
  have hafter : (s.recordGone n).anyFaulted = false := by
    refine any_alone (n := n) (f := (s.recordGone n).moveState) ?_ fun k hk => ?_
    · rw [State.moveState, recordGone_move_self]
      nofun
    · rw [moveState_congr (recordGone_move_ne hk)]
      exact h k hk
  exact fallReported_of_adds (P := fun _ => True) ((AddsReports.setBus _ _).trans
    (AddsReports.endBusEvent (fun _ _ _ => trivial) _ _)) (endMoveEvent_fall _ hbefore hafter)

theorem openingDisabled_lost (hn : isOpening n = true) (hf : s.nodeState n = some .lost)
    (h : ∀ k, k ≠ n → s.nodeState k ≠ some .lost) :
    fallReported (s.openingDisabled n) .driveBusController .openingLost := by
  refine endBusEvent_fall_lost _ (any_of_mem hn ((moveGone_nodeState s n n).trans hf))
    (any_alone (n := n) (f := (s.nodeGone n).nodeState) ?_ fun k hk => ?_)
  · rw [nodeGone_nodeState_self]
    nofun
  · rw [nodeGone_nodeState_ne hk]
    exact h k hk

theorem openingDisabled_isolated (hn : isOpening n = true) (hf : s.nodeState n = some .isolated)
    (h : ∀ k, k ≠ n → s.nodeState k ≠ some .isolated) :
    fallReported (s.openingDisabled n) .driveBusController .openingIsolated := by
  refine endBusEvent_fall_isolated _ (any_of_mem hn ((moveGone_nodeState s n n).trans hf))
    (any_alone (n := n) (f := (s.nodeGone n).nodeState) ?_ fun k hk => ?_)
  · rw [nodeGone_nodeState_self]
    nofun
  · rw [nodeGone_nodeState_ne hk]
    exact h k hk

theorem nextEnabled_ne {st : Store} (h1 : 1 ≤ n) (hen : st.enabled n = false) (k : Nat) :
    st.nextEnabled k ≠ n := by
  by_cases hne : st.enabledOpenings = []
  · have hzero : st.nextEnabled k = 0 := by rw [Store.nextEnabled, hne]; rfl
    omega
  · intro h
    have := (nextEnabled_moves_on hne k).1
    rw [h, hen] at this
    cases this

/-- How the drive bus controller's table stands: the order and the node gone, the transaction's reply to be
discarded, the order in flight ended, the rotation moved on. -/
theorem openingDisabled_turn (h1 : 1 ≤ n) (hen : s.store.enabled n = false) :
    let t := s.openingDisabled n
    (∀ o ∈ t.bus.queue, o.opening ≠ n) ∧ t.bus.rotation ≠ n ∧
      (s.bus.rotation ≠ n → t.bus.rotation = s.bus.rotation) ∧
      (∀ f, s.bus.inFlight = some f → f.order.opening = n → t.bus.inFlight = none) ∧
      ∀ x, s.bus.transaction = some x →
        t.bus.transaction = some (if x.node = n then { x with discard := true } else x) := by
  obtain ⟨hrot, htrans, hflight⟩ := moveGone_busKept s n
  dsimp only
  rw [openingDisabled_bus]
  refine ⟨fun o ho => ?_, ?_, fun h => ?_, fun f hf hfn => ?_, fun x hx => ?_⟩
  · simpa using (List.mem_filter.mp ho).2
  · unfold Bus.openingDisabled
    dsimp only
    split
    · exact nextEnabled_ne h1 hen n
    · next h => exact h
  · refine (if_neg ?_).trans hrot
    rw [hrot]
    exact h
  · rw [hf] at hflight
    obtain ⟨f', hf', ho⟩ := Option.map_eq_some_iff.mp hflight
    simp only [Bus.openingDisabled, hf', ho, hfn, if_true]
  · simp only [Bus.openingDisabled, htrans, hx]

end Sys2Proof.Machine
end

section
/-! PROOFS. A completed write of an opening's entry, and a completed write of any entry, as a whole (R20,
R104, R150, R161). -/
namespace Sys2Proof.Machine
open Sys2Proof
variable {s t u : State} {n : Nat}

theorem Store.commit_opening_of_nth {st : Store} {e : Entry OpeningEntry}
    (he : nth st.openings n = some e) (v : OpeningEntry) : (st.commit (.opening n v)).opening n = v := by
  change (match nth (modifyNth st.openings n _) n with
    | some e => e.value
    | none => .factory) = v
  rw [nth_modifyNth, if_pos rfl, he]
  rfl

/-- Evaluating lamps touches the fire unit alone. -/
theorem evalLampsOf_eq_setFire (s : State) (zs : List Nat) : ∃ f, s.evalLampsOf zs = s.setFire f := by
  have hone : ∀ (u : State) z, ∃ f, u.evalLamps z = u.setFire f := fun u z => by
    unfold State.evalLamps
    split
    · split
      · exact ⟨_, rfl⟩
      · exact ⟨u.fire, rfl⟩
    · exact ⟨u.fire, rfl⟩
  induction zs generalizing s with
  | nil => exact ⟨s.fire, rfl⟩
  | cons z zs ih =>
    obtain ⟨f, hf⟩ := hone s z
    obtain ⟨f', hf'⟩ := ih (s.setFire f)
    refine ⟨f', ?_⟩
    change (s.evalLamps z).evalLampsOf zs = _
    rw [hf, hf']
    rfl

/-! ### The entry taken, before the lamps follow -/

/-- What the blocks do with a write of opening `n`'s entry that takes it from `before` to `after`. -/
def State.entryTaken (s : State) (n : Nat) (before after : Bool) : State :=
  match before, after with
  | false, true => s.openingEnabled n
  | true, false => s.openingDisabled n
  | true, true => (s.recompute [n]).entryJudged n
  | false, false => s.endMoveEvent s

theorem openingTold_eq (s : State) (n left : Nat) (v : OpeningEntry) :
    (s.committed (.opening n v)).writeTold s left (.opening n v) =
      ((s.committed (.opening n v)).entryTaken n (s.store.opening n).enabled v.enabled).evalLampsOf
        ([(s.store.opening n).zone, v.zone].filter isZone) := rfl

theorem judgedOn_lampsOnly (s : State) (z n : Nat) : lampsOnly z s (s.judgedOn n) := by
  unfold State.judgedOn
  split
  · exact .of_eq (zone_of_frame (evaluateAtRest_frame s n) (by simp) z)
  · split
    · exact .of_eq (zone_of_frame (enterAtRest_frame s n) (by simp) z)
    · exact .of_eq rfl
  · exact .of_eq rfl

theorem openingDisabled_lampsOnly (s : State) (z n : Nat) : lampsOnly z s (s.openingDisabled n) := by
  have hrecord : lampsOnly z s (s.recordGone n) :=
    .of_eq (zone_of_frame (recordGone_frame s n) (by simp) z)
  have hmove : lampsOnly z (s.recordGone n) (s.moveGone n) := lampsOnly.endMoveEvent _ _
  have hnode : lampsOnly z (s.moveGone n) (s.nodeGone n) :=
    .of_eq (zone_of_frame (setBus_frame _ _) (by simp) z)
  have hend : lampsOnly z (s.nodeGone n) (s.openingDisabled n) :=
    (lampsOnly.evalLampsOf z _ _).trans (lampsOnly.report _ _ _ _)
  exact ((hrecord.trans hmove).trans hnode).trans hend

theorem entryTaken_lampsOnly (s : State) (z n : Nat) (before after : Bool) :
    lampsOnly z s (s.entryTaken n before after) := by
  have hrecompute : ∀ u : State, lampsOnly z u (u.recompute [n]) := fun u =>
    .of_eq (zone_of_frame (recompute_frame u [n]) (by simp) z)
  cases before <;> cases after
  · exact lampsOnly.endMoveEvent s s
  · exact (lampsOnly.trans (t := s.recordReset n) (.of_eq rfl) (lampsOnly.endMoveEvent _ _)).trans
      (hrecompute _)
  · exact openingDisabled_lampsOnly s z n
  · exact ((hrecompute s).trans (judgedOn_lampsOnly _ z n)).trans (lampsOnly.endMoveEvent _ _)

/-- The lamps of the old and the new zone follow. -/
theorem openingTold_lamps (s : State) (n left : Nat) (v : OpeningEntry) {z : Nat} {r : Zone}
    (hz : isZone z = true) (hzone : z = (s.store.opening n).zone ∨ z = v.zone) (hr : s.zone z = some r)
    (ha : r.accepted ≠ none) :
    ∃ r', ((s.committed (.opening n v)).writeTold s left (.opening n v)).zone z = some r' ∧
      lampsFollow ((s.committed (.opening n v)).writeTold s left (.opening n v)) z r' := by
  obtain ⟨_, _, hlamps⟩ := entryTaken_lampsOnly (s.committed (.opening n v)) z n
    (s.store.opening n).enabled v.enabled r hr
  rw [openingTold_eq]
  exact evalLampsOf_follow (by simpa [hz] using hzone) hlamps ha

/-! ### The cases -/

theorem entryJudged_reads (s : State) (n : Nat) : SameReads s (s.entryJudged n) :=
  (judgedOn_actsOn s n).reads.trans (endMoveEvent_reads _ _)

theorem restsAs_setFire {m : MoveRecord} (f : FireUnit) (h : restsAs s t n m) :
    restsAs s (t.setFire f) n m := by
  unfold restsAs stopOrdered at h ⊢
  exact h

/-- An opening that stays enabled is recomputed, keeps its node, and is judged again. -/
theorem entryStays_taken (hen : s.store.enabled n = true) (ht : t = (s.recompute [n]).entryJudged n)
    (f : FireUnit) :
    let t' := t.setFire f
    let now : State := { s with results := t.results }
    (n ≤ s.results.length → ∃ r, t'.result n = some r ∧ servedAs s n r) ∧ t'.node n = s.node n ∧
      ∀ m, s.move n = some m →
        (m.state = .atRest → restsAs now t' n m) ∧
        (m.state = .waitSlot → nearTarget now n → restsAs now t' n (m.bare .atRest)) ∧
        (m.state = .waitSlot → ¬nearTarget now n →
          t'.move n = some m ∨ (s.eligible n = true ∧ t'.moveState n = some .breakaway)) ∧
        (m.state ≠ .atRest → m.state ≠ .waitSlot → t'.move n = some m) := by
  intro t' now
  have hframe := recompute_frame s [n]
  have hreads : SameReads (s.recompute [n]) t := ht ▸ entryJudged_reads (s.recompute [n]) n
  have hbus : (s.recompute [n]).bus = s.bus := hframe .bus (by simp)
  have hmove : (s.recompute [n]).move n = s.move n :=
    congrArg (fun l => nthSome l n) (hframe .moves (by simp))
  have hnow : SameReads now (s.recompute [n]) :=
    ⟨hframe .store (by simp), hreads.results.symm, congrArg Bus.nodes hbus⟩
  refine ⟨fun hlen => ?_, ?_, fun m hm => ?_⟩
  · obtain ⟨r, hr, hserved⟩ := recompute_served (List.mem_singleton_self n) (List.nodup_singleton n) hen hlen
    exact ⟨r, (congrArg (fun l => nthSome l n) hreads.results).trans hr, hserved⟩
  · exact (hreads.node n).trans (congrArg (fun b : Bus => nthSome b.nodes n) hbus)
  · obtain ⟨hrest, hnear, hwait, hother⟩ := entryJudged_move hnow
      (eligible_congr hmove (congrArg Bus.nodes hbus) (hframe .weather (by simp))) (hmove.trans hm)
    rw [← ht] at hrest hnear hwait hother
    exact ⟨fun h => restsAs_setFire f (hrest h), fun h h' => restsAs_setFire f (hnear h h'), hwait, hother⟩

/-- Where no opening was in the rotation, it goes on with the lowest one enabled. -/
theorem openingEnabled_turn (hen : s.store.enabled n = true) (h : s.bus.rotation = 0) :
    let t := s.openingEnabled n
    s.store.enabled t.bus.rotation = true ∧ ∀ k, s.store.enabled k = true → t.bus.rotation ≤ k := by
  dsimp only
  rw [openingEnabled_rotation, if_pos h]
  have hne : s.store.enabledOpenings ≠ [] := List.ne_nil_of_mem (mem_enabledOpenings hen)
  obtain ⟨hon, hnext, -⟩ := nextEnabled_moves_on hne 0
  exact ⟨hon, fun k hk => (hnext k hk (enabled_pos hk)).2⟩

/-- An opening newly enabled has its records as at reset and its result, and joins the rotation. -/
theorem entryEnabled_taken (h1 : 1 ≤ n) (hen : s.store.enabled n = true) (ht : t = s.openingEnabled n)
    (f : FireUnit) :
    let t' := t.setFire f
    (n ≤ s.moves.length → t'.move n = some .atReset) ∧
    (n ≤ s.bus.nodes.length → t'.node n = some .atReset) ∧
    (n ≤ s.results.length → n ≤ s.bus.nodes.length → s.result n = none →
      ∃ r, t'.result n = some r ∧ servedAs { s with bus := t.bus } n r) ∧
    (s.bus.rotation ≠ 0 → t'.bus.rotation = s.bus.rotation) ∧
    (s.bus.rotation = 0 → s.store.enabled t'.bus.rotation = true ∧
      ∀ k, s.store.enabled k = true → t'.bus.rotation ≤ k) := by
  have hmove := openingEnabled_move (s := s) h1
  have hnode := openingEnabled_node (s := s) h1
  have hresult := openingEnabled_result hen
  have hrotation := openingEnabled_rotation s n
  have hturn := openingEnabled_turn hen
  dsimp only at hturn
  rw [← ht] at hmove hnode hresult hrotation hturn
  exact ⟨hmove, hnode, fun hlen _ _ => hresult hlen, fun h => hrotation.trans (if_neg h), hturn⟩

/-- What was told of the opening is gone with it. -/
theorem Mail.mem_without {m m' : Mail} {reports : List Report}
    (h : m' = { m.without n with reports := reports }) :
    (∀ o ∈ m'.outcomes, o.opening ≠ n) ∧ (∀ e ∈ m'.targets, e.opening ≠ n) ∧
      ∀ e ∈ m'.replies, e.opening ≠ n := by
  subst h
  exact ⟨fun o ho => by simpa using (List.mem_filter.mp ho).2,
    fun o ho => by simpa using (List.mem_filter.mp ho).2,
    fun o ho => by simpa using (List.mem_filter.mp ho).2⟩

/-- An opening newly disabled loses its records, its orders and what was told of it, and leaves the
rotation; the conditions it alone made live fall. -/
theorem entryDisabled_taken (hn : isOpening n = true) (hen : s.store.enabled n = false)
    (ht : t = s.openingDisabled n) (f : FireUnit) :
    let t' := t.setFire f
    t'.result n = none ∧ t'.move n = none ∧ t'.node n = none ∧
    (∀ o ∈ t'.bus.queue, o.opening ≠ n) ∧ (∀ o ∈ t'.mail.outcomes, o.opening ≠ n) ∧
    (∀ e ∈ t'.mail.targets, e.opening ≠ n) ∧ (∀ e ∈ t'.mail.replies, e.opening ≠ n) ∧
    t'.bus.rotation ≠ n ∧ (s.bus.rotation ≠ n → t'.bus.rotation = s.bus.rotation) ∧
    (∀ f, s.bus.inFlight = some f → f.order.opening = n → t'.bus.inFlight = none) ∧
    (∀ x, s.bus.transaction = some x →
      t'.bus.transaction = some (if x.node = n then { x with discard := true } else x)) ∧
    (s.moveState n = some .faulted → (∀ k, k ≠ n → s.moveState k ≠ some .faulted) →
      fallReported t' .movementController .openingFault) ∧
    (s.nodeState n = some .lost → (∀ k, k ≠ n → s.nodeState k ≠ some .lost) →
      fallReported t' .driveBusController .openingLost) ∧
    (s.nodeState n = some .isolated → (∀ k, k ≠ n → s.nodeState k ≠ some .isolated) →
      fallReported t' .driveBusController .openingIsolated) := by
  have hturn := openingDisabled_turn ((isOpening_iff n).mp hn).1 hen
  have hresult := openingDisabled_result s n
  have hmove := openingDisabled_move s n
  have hnode := openingDisabled_node s n
  have hfault := openingDisabled_fault (s := s) hn
  have hlost := openingDisabled_lost (s := s) hn
  have hisolated := openingDisabled_isolated (s := s) hn
  obtain ⟨reports, hmail⟩ := openingDisabled_mail s n
  dsimp only at hturn
  rw [← ht] at hturn hresult hmove hnode hfault hlost hisolated hmail
  obtain ⟨hqueue, hne, hrotation, hflight, htransaction⟩ := hturn
  obtain ⟨houtcomes, htargets, hreplies⟩ := Mail.mem_without hmail
  exact ⟨hresult, hmove, hnode, hqueue, houtcomes, htargets, hreplies, hne, hrotation, hflight,
    htransaction, hfault, hlost, hisolated⟩

theorem openingTold_taken {e : Entry OpeningEntry} (he : nth s.store.openings n = some e)
    (hn : isOpening n = true) (left : Nat) (v : OpeningEntry) :
    openingTaken s ((s.committed (.opening n v)).writeTold s left (.opening n v)) n v := by
  let s1 := s.committed (.opening n v)
  have hstore : ((s.committed (.opening n v)).writeTold s left (.opening n v)).store = s1.store :=
    committed_told_store _ _ _
  have hvalue : s1.store.opening n = v := Store.commit_opening_of_nth he v
  have hen : ∀ b, v.enabled = b → s1.store.enabled n = b := fun b hb => by
    rw [Store.enabled, hvalue, hn, hb]
    rfl
  have h1 : 1 ≤ n := ((isOpening_iff n).mp hn).1
  have htold : ∀ b b', (s.store.opening n).enabled = b → v.enabled = b' →
      ∃ x f, x = s1.entryTaken n b b' ∧
        (s.committed (.opening n v)).writeTold s left (.opening n v) = x.setFire f := fun b b' hb hb' => by
    rw [openingTold_eq, hb, hb']
    obtain ⟨f, hf⟩ := evalLampsOf_eq_setFire (s1.entryTaken n b b')
      ([(s.store.opening n).zone, v.zone].filter isZone)
    exact ⟨_, f, rfl, hf⟩
  unfold openingTaken
  rw [hstore]
  refine ⟨fun ho hv => ?_, fun ho hv => ?_, fun ho hv => ?_, fun ho hv => ?_,
    fun z r hz hzone hr ha => openingTold_lamps s n left v hz hzone hr ha⟩
  · obtain ⟨x, f, hx, hf⟩ := htold _ _ ho hv
    rw [hf]
    exact entryStays_taken (s := s1) (hen true hv) hx f
  · obtain ⟨x, f, hx, hf⟩ := htold _ _ ho hv
    rw [hf]
    exact entryEnabled_taken (s := s1) h1 (hen true hv) hx f
  · obtain ⟨x, f, hx, hf⟩ := htold _ _ ho hv
    rw [hf]
    exact entryDisabled_taken (s := s1) hn (hen false hv) hx f
  · obtain ⟨x, f, hx, hf⟩ := htold _ _ ho hv
    rw [hf]
    have hreads : SameReads s1 x := hx ▸ endMoveEvent_reads s1 s1
    exact ⟨congrArg (fun l => nthSome l n) hreads.results, hreads.node n⟩

end Sys2Proof.Machine

namespace Sys2Proof.Proofs
open Sys2Proof.Machine

/-- Settles O21, by the kind of the entry written: the store's part is one for all kinds, and each block's
part has its own theorem. -/
theorem writeCompleteTakesEffect : Obligations.WriteCompleteTakesEffect := by
  intro s w left hw hfree
  obtain ⟨ev, m, kind, index⟩ := w
  obtain ⟨t, ht⟩ : ∃ t, t = (s.committed ev).writeTold s left ev := ⟨_, rfl⟩
  have hstore : t.store = s.store.commit ev := ht ▸ committed_told_store s left ev
  have hwriting : t.store.writing = none := by
    rw [hstore]
    exact Store.commit_writing _ _
  have hexec : exec (.writeComplete left) s =
      .next (t.writeAnswered s ⟨ev, m, kind, index⟩ .accepted) := by
    rw [ht]
    exact (writeComplete_next hw left).trans (congrArg _ (completeWrite_of_free hfree left))
  have hlink : sameOutside [.link] t (t.writeAnswered s ⟨ev, m, kind, index⟩ .accepted) :=
    writeAnswered_frame _ _ _ _
  refine ⟨_, t.formResponse s.store.movement.value.partAddress m 0x0E#8
    { status := .accepted, flags := .none, body := [kind, index] }, hexec, hwriting, rfl, rfl, rfl, rfl,
    rfl, rfl, ?_⟩
  cases ev with
  | opening n v =>
    refine fun e he => ⟨hstore ▸ nth_commit v _ e he, fun hn => ?_⟩
    have htaken := openingTold_taken he hn left v
    rw [← ht] at htaken
    exact htaken
  | group g l =>
    have hframe := groupTold_frame s g l left
    rw [← ht] at hframe
    refine ⟨fun e he => hstore ▸ nth_commit l _ e he, (hframe.mono (by simp)).trans (hlink.mono (by simp)),
      fun n st hn hst => ?_⟩
    have hstation := groupTold_stations (l := l) (g := g) (left := left) hn hst
    rw [← ht] at hstation
    exact hstation
  | zone z b =>
    have htaken := zoneTold_taken s z left b
    rw [← ht] at htaken
    refine ⟨fun e he => hstore ▸ nth_commit b _ e he, fun r hz hr => ?_⟩
    obtain ⟨hmoved, hkept⟩ := htaken r hz hr
    exact ⟨hmoved, fun h => (hkept h).trans (hlink.mono (by simp))⟩
  | scenario z l =>
    refine ⟨fun e he => hstore ▸ nth_commit l _ e he, ?_⟩
    subst ht
    exact ((committed_frame s _).mono (by simp)).trans (hlink.mono (by simp))
  | station n v =>
    have hframe : sameOutside [.store, .stations] s t := by
      rw [ht]
      exact ((committed_frame s _).mono (by simp)).trans ((cancelStation_frame _ n).mono (by simp))
    refine ⟨fun e he => hstore ▸ nth_commit v _ e he, (hframe.mono (by simp)).trans (hlink.mono (by simp)),
      fun k hk => ?_, fun st hst => ⟨st.cancelGesture, ?_, cancelGesture_ended st⟩⟩
    · subst ht
      exact cancelStation_ne (s := s.committed (.station n v)) hk
    · subst ht
      exact cancelStation_self (s := s.committed (.station n v)) hst
  | supervisor k v =>
    refine ⟨fun e he => hstore ▸ nth_commit v _ e he, ?_⟩
    subst ht
    exact ((committed_frame s _).mono (by simp)).trans (hlink.mono (by simp))
  | weather v =>
    have htaken := weatherTold_taken s v left
    rw [← ht] at htaken
    exact ⟨congrArg (fun st : Store => st.weather.value) hstore,
      congrArg (fun st : Store => st.weather.origin) hstore, htaken⟩
  | movement v =>
    have htaken := movementTold_budgets s v left
    rw [← ht] at htaken
    exact ⟨congrArg (fun st : Store => st.movement.value) hstore,
      congrArg (fun st : Store => st.movement.origin) hstore, htaken⟩

end Sys2Proof.Proofs
end
